-- ==== Sys2Proof/Word.lean ====
section
/-! DEFINITION. The words of the BA31: bytes, the wrapping 32-bit counts of milliseconds and microseconds, and the pair
of values that a bogie keeps for its two axles. -/

namespace Sys2Proof

/-- One byte of a message or of the store. -/
abbrev Byte := BitVec 8

/-- Station time: a 32-bit count of milliseconds that wraps (00_scope.md, "Time"). -/
abbrev Millis := BitVec 32

/-- A reading of the 1 µs time base: a 32-bit count that wraps (R1). -/
abbrev Micros := BitVec 32

/-- The time from `t` to `now`, formed modulo 2³² (00_scope.md, "Time"; R1). -/
abbrev age (now t : BitVec 32) : Nat := (now - t).toNat

/-- The moment `n` counts after `t`, modulo 2³². -/
abbrev after (t : BitVec 32) (n : Nat) : BitVec 32 := t + BitVec.ofNat 32 n

/-- One value for axle A (or END1) and one for axle B (or END2). -/
structure PerAxle (α : Type) where
  /-- axle A, the end-1 sander, cab END1 -/
  a : α
  /-- axle B, the end-2 sander, cab END2 -/
  b : α
  deriving DecidableEq, Repr

end Sys2Proof
end

