-- ==== Sys2Proof/Config.lean ====
section
/-! DEFINITION. What an implementation fixes: the code plug and the commissioned figures (R182). The values (defaults and
ranges) stand in Machine/Figures.lean. -/

namespace Sys2Proof

/-- The two kinds of bogie (00_scope.md, "The part and its setting"). -/
inductive BogieKind where
  | motor
  | trailer
  deriving DecidableEq, Repr

/-- The straps read at step 1 of the start sequence (R182); they hold until the next start. -/
structure CodePlug where
  /-- the station number, 0 to 7 -/
  number : Fin 8
  kind : BogieKind
  /-- whether a magnetic track brake is fitted -/
  trackBrake : Bool
  /-- the station's offset from end 1, in mm -/
  d1 : Nat
  serviceStrap : Bool
  deriving DecidableEq, Repr

/-- A route window as loaded (section 3.4, R55); `enabled` is clear for a window disabled under R55 or R56. -/
structure RouteWindow where
  startBlock : Nat
  stopBlock : Nat
  gradient : Int
  sandInhibit : Bool
  obsInhibit : Bool
  /-- 0 to 3 -/
  rateSet : Nat
  mapOffset : Int
  enabled : Bool
  deriving DecidableEq, Repr

/-- A sand rate set (chapter 5): base rate in mg/s, flow delay in ms, and the dividers of speed bands 0 to 3. -/
structure RateSet where
  base : Nat
  flowDelay : Nat
  dividers : List Nat
  deriving DecidableEq, Repr

/-- Every commissioned figure, in the order in which the chapters' tables list them (R184). -/
structure Commissioning where
  teeth : Nat
  /-- commissioned diameters, 0.1 mm -/
  diameter : PerAxle Nat
  aTracMax : Int
  aBrakeMax : Int
  axleMax : Nat
  lookAhead : Nat
  tramLength : Nat
  wheelbase : Nat
  windows : List RouteWindow
  mapDepth : Nat
  /-- g -/
  boxCapacity : Nat
  rateSets : List RateSet
  frictionMax : Nat
  emptyLoad : Nat
  crushLoad : Nat
  deriving DecidableEq, Repr

end Sys2Proof
end

