-- ==== Sys2Proof/Syntax.lean ====
section
/-! DEFINITION. The commands of the BA31: one constructor per row of spec/opcode_table.json, with the operands its rule
names. The table gives no row bits or fields, so the operands are what the rule says reaches the station at that step. -/

namespace Sys2Proof

/-- The two axles of the bogie. -/
inductive Axle where
  | a
  | b
  deriving DecidableEq, Repr

/-- The two ends of the tram, and so the two cab units and the two sanders. -/
inductive CabEnd where
  | end1
  | end2
  deriving DecidableEq, Repr

/-- The level of track 2 at an edge (R1): low is TOWARD END 1, high is TOWARD END 2. -/
inductive TrackLevel where
  | low
  | high
  deriving DecidableEq, Repr

/-- The emergency loop: CLOSED while loop current flows, OPEN while it does not (R178). -/
inductive LoopLevel where
  | loopClosed
  | loopOpen
  deriving DecidableEq, Repr

/-- The shoe-down sensor (R178). -/
inductive ShoeLevel where
  | down
  | notDown
  deriving DecidableEq, Repr

/-- The two plant units of the bogie link (R174). -/
inductive PlantUnit where
  | inverter
  | brakeUnit
  deriving DecidableEq, Repr

/-- What reading a store block finds (R182): whether any word was corrected, and whether any is uncorrectable. One block
can show both. -/
structure EccFinding where
  corrected : Bool
  uncorrectable : Bool
  deriving DecidableEq, Repr

/-- Every word of the block reads without error. -/
def EccFinding.clean : EccFinding := { corrected := false, uncorrectable := false }

/-- A frame as the line delivers it (R158): the header's sender, sequence and length fields, and the content bits in the
order in which they are sent. The header's kind field is the command's constructor. -/
structure Frame where
  sender : BitVec 4
  sequence : BitVec 8
  length : BitVec 8
  bits : List Bool
  deriving DecidableEq, Repr

/-- The arguments and the 8-bit sum of a service request (R184); the command code is the command's constructor. -/
structure Request where
  args : List Byte
  sum : Byte
  deriving DecidableEq, Repr

/-- The commands, one per row of spec/opcode_table.json, in the table's order. -/
inductive Instr where
  | powerOnStart (plug : CodePlug) (comm run : EccFinding)
  | supplyLoss
  | wheelSpeedEdge (axle : Axle) (track2 : TrackLevel)
  | speedSample
  | sanderDecision
  | blendEvent
  | sweep
  | statusBuild
  | demandArrival (frame : Frame)
  | statusArrival (frame : Frame)
  | railReportArrival (frame : Frame)
  | mapClearArrival (frame : Frame)
  | demandSilence
  | peerRecordSilent (peer : Fin 8)
  | peerLost (peer : Fin 8)
  | contentionLost
  | frameSent
  | lineFreeOffer
  | statusSlotExpiry
  | outboxExpiry
  | inverterReport (bytes : List Byte)
  | brakeUnitReport (bytes : List Byte)
  | plantSilenceExpiry (unit : PlantUnit)
  | emergencyLoopChange (level : LoopLevel)
  | emergencyLoopDelivery
  | shoeDownSensorChange (level : ShoeLevel)
  | shoeDownDelivery
  | loweringTimerExpiry
  | hillStartTimerExpiry
  | storeWriteEnd
  | readStatus (req : Request)
  | readFaults (req : Request)
  | clearFault (req : Request)
  | clearAllFaults (req : Request)
  | clearOverflow (req : Request)
  | readMap (req : Request)
  | clearMap (req : Request)
  | filled (req : Request)
  | writeCommissioning (req : Request)
  | restart (req : Request) (plug : CodePlug) (comm : EccFinding)
  | badRequest (code : Byte) (req : Request)
  | extrapolationBudgetSpent
  | sensorSilenceExpiry (axle : Axle)
  | trimStep (axle : Axle)
  | calmTimerExpiry (axle : Axle)
  | slipPersistent (axle : Axle)
  | recoveryHoldExpiry (axle : Axle)
  | lockTimerExpiry (axle : Axle)
  | wheelLock (axle : Axle)
  | releaseTimerExpiry (axle : Axle)
  | reslipCeilingExpiry (axle : Axle)
  | deadReckoningLimit
  | pipeFull (sander : CabEnd)
  | tailEmpty (sander : CabEnd)
  | dutyLimit (sander : CabEnd)
  | restExpiry (sander : CabEnd)
  | dosingPeriodStart (sander : CabEnd)
  | openTimeEnd (sander : CabEnd)
  | slipHoldExpiry
  | hillStartSandingExpiry
  | sandEmpty (sander : CabEnd)
  | escalationTimerExpiry
  | trackBrakeReleaseExpiry
  | standstill
  | rollbackTimerExpiry
  | parkTimerExpiry
  | wheelMovementWake
  deriving DecidableEq, Repr

end Sys2Proof
end

