-- ==== Sys2Proof/Machine/Station.lean ====
section
/-! DEFINITION. Everything one BA31 holds, as plain data: the tables "The unit holds" of chapters 1 to 11, one structure
a unit, and `Station`, all of them together. -/

namespace Sys2Proof.Machine

/-! ## Axle speed unit (chapter 1) -/

/-- One wheel-speed edge (R1). -/
structure Edge where
  stamp : Micros
  /-- direction TOWARD END 1 -/
  toEnd1 : Bool
  deriving DecidableEq, Repr

inductive SensorStatus where
  | ok
  | failed
  deriving DecidableEq, Repr

/-- The sense in which an axle deviates from the candidate median (R14). -/
inductive Deviation where
  | high
  | low
  deriving DecidableEq, Repr

/-- What the axle speed unit holds per axle. -/
structure AxleUnit where
  /-- the edge record, newest first, at most 32 -/
  edges : List Edge
  /-- mm/s, positive toward end 1 -/
  speed : Int
  /-- mm/s in the travel sense -/
  forward : Int
  lowSpeed : Bool
  sensor : SensorStatus
  /-- the moment from which the silence timer counts: the latest edge, or the start -/
  quietSince : Millis
  /-- an edge has arrived since the previous sample (R44) -/
  edgeSeen : Bool
  /-- arrival times of the edges since the PARKED entry, newest first (R155) -/
  wakeEdges : List Millis
  /-- 0.1 mm -/
  trim : Int
  /-- the trim learning timer, ms -/
  learnTime : Nat
  learnSense : Option Deviation
  /-- the own candidate flag of R5 step 7 -/
  candidate : Bool
  deriving DecidableEq, Repr

inductive RefStatus where
  | unseeded
  | tracking
  | extrapolating
  | uncertain
  deriving DecidableEq, Repr

/-- The reference forward speed and what goes with it. -/
structure Reference where
  speed : Int
  status : RefStatus
  lastChange : Int
  extrapTime : Nat
  capApplied : Bool
  /-- the leading end in whose travel sense `speed` and `lastChange` are kept (R4) -/
  heldFor : CabEnd
  deriving DecidableEq, Repr

/-! ## Creep controller (chapter 2) -/

inductive CreepState where
  | adhering
  | regulating
  | slipping
  | recovering
  | reapplying
  | locked
  deriving DecidableEq, Repr

inductive EffortDir where
  | traction
  | braking
  | backward
  | rest
  deriving DecidableEq, Repr

/-- A SLIPPING entry of the last 5 s (R33). -/
structure Reslip where
  time : Millis
  peak : Nat
  deriving DecidableEq, Repr

/-- A re-slip ceiling with its expiry time (R33). -/
structure ReslipCeiling where
  force : Nat
  expires : Millis
  deriving DecidableEq, Repr

/-- What the creep controller holds per axle. A condition timer is `none` while it is clear (R19). -/
structure AxleCreep where
  state : CreepState
  limit : Nat
  stateTime : Nat
  /-- the creep of the up to four previous samples, oldest first -/
  history : List Int
  calm : Option Nat
  lock : Option Nat
  release : Option Nat
  wheelLock : Bool
  /-- SLIP_PERSISTENT has been reported in the present SLIPPING stay (R29) -/
  slipReported : Bool
  /-- the applied force of the up to 20 latest samples, newest first -/
  peaks : List Nat
  /-- newest first, at most three -/
  reslips : List Reslip
  ceiling : Option ReslipCeiling
  preLimit : Option Nat
  /-- the electric order, a magnitude -/
  electric : Nat
  /-- the friction order -/
  friction : Nat
  deriving DecidableEq, Repr

/-- The leading axle's cell record (R37). -/
structure CellRec where
  cell : Nat
  mapCell : Option Nat
  sum : Nat
  count : Nat
  clean : Bool
  deriving DecidableEq, Repr

/-! ## Position unit (chapter 3) -/

inductive PosState where
  | valid
  | deadReckoning
  | lost
  deriving DecidableEq, Repr

inductive Sense where
  | up
  | down
  deriving DecidableEq, Repr

/-- A resolved attribute set (R57 to R61). -/
structure Attrs where
  position : Nat
  window : Option Nat
  gradient : Int
  rise : Int
  sandInhibit : Bool
  obsInhibit : Bool
  rateSet : Nat
  mapOffset : Int
  mapCell : Option Nat
  deriving DecidableEq, Repr

/-- A leading end and sense waiting for standstill (R54). -/
structure EndChange where
  leadingEnd : CabEnd
  sense : Sense
  deriving DecidableEq, Repr

/-- The cab and moment of the last frame the position unit took (R48). -/
structure LastTaken where
  cab : CabEnd
  time : Millis
  deriving DecidableEq, Repr

structure Position where
  /-- mm from chainage 0 -/
  station : Nat
  /-- µm not yet carried -/
  remainder : Int
  /-- mm travelled since the latest anchor -/
  reckoned : Nat
  state : PosState
  leadingEnd : CabEnd
  sense : Sense
  endTaken : Bool
  change : Option EndChange
  lastTaken : Option LastTaken
  attrStation : Attrs
  attrLeading : Attrs
  /-- of the end-1 and end-2 sander positions -/
  attrSander : PerAxle Attrs
  deriving DecidableEq, Repr

/-! ## Rail condition map (chapter 4) -/

/-- An adhesion in ‰ with the time of its observation. -/
structure TimedMu where
  mu : Nat
  time : Millis
  deriving DecidableEq, Repr

inductive Observer where
  | own
  | station (n : Nat)
  deriving DecidableEq, Repr

/-- A map entry (section 4.1). -/
structure MapEntry where
  cell : Nat
  peak : Option TimedMu
  atLeast : Option TimedMu
  sanded : Option Millis
  observer : Observer
  direction : Sense
  count : Nat
  deriving DecidableEq, Repr

inductive ObsKind where
  | peak
  | atLeast
  | sanded
  deriving DecidableEq, Repr

/-- An observation (section 4.2). -/
structure Observation where
  kind : ObsKind
  cell : Nat
  count : Nat
  mu : Nat
  direction : Sense
  observer : Observer
  time : Millis
  deriving DecidableEq, Repr

/-- An outbox observation with its mark: IN FRAME, or WAITING (section 4.6). -/
structure OutboxItem where
  obs : Observation
  inFrame : Bool
  deriving DecidableEq, Repr

/-- The granularity of a clear with its argument (section 4.5). -/
inductive Granularity where
  | all
  | window (n : Nat)
  | cells (first last : Nat)
  deriving DecidableEq, Repr

structure LastClear where
  id : BitVec 8
  actual : Granularity
  deriving DecidableEq, Repr

structure RailMap where
  entries : List MapEntry
  /-- oldest first -/
  outbox : List OutboxItem
  lastClear : Option LastClear
  lastSweep : Millis
  deriving DecidableEq, Repr

/-! ## Sander control (chapter 5) -/

inductive SanderState where
  | closed
  | filling
  | flowing
  | tailing
  | resting
  deriving DecidableEq, Repr

/-- The dosing period running: its start and the base rate and open time fixed for it (R98). -/
structure Dosing where
  start : Millis
  base : Nat
  openTime : Nat
  deriving DecidableEq, Repr

/-- The open interval running: its start, the estimate at its start and the base rate of R100. -/
structure OpenInterval where
  start : Millis
  estimate : Nat
  base : Nat
  deriving DecidableEq, Repr

/-- What the sander control holds per sander. -/
structure Sander where
  state : SanderState
  flowDelay : Nat
  /-- base rate of the rate set that fixed the flow delay in force (R100) -/
  fillBase : Nat
  pipe : Nat
  duty : Nat
  restOwed : Bool
  rest : Nat
  dosing : Option Dosing
  interval : Option OpenInterval
  lastCell : Option Nat
  /-- mg -/
  box : Nat
  /-- SAND_EMPTY has been reported for the present stay at 0 (R101) -/
  emptyReported : Bool
  /-- the valve output, R97 and R177 -/
  valveOpen : Bool
  /-- the moment up to which the pipe, duty and rest times are advanced -/
  advancedTo : Millis
  deriving DecidableEq, Repr

/-- One bit for each source of section 5.2. -/
structure Sources where
  slip : Bool
  preArm : Bool
  driver : Bool
  hillStart : Bool
  rollback : Bool
  emergency : Bool
  deriving DecidableEq, Repr

/-- The poor cell ahead that the pre-arm aims at (R89). -/
structure Aim where
  mapCell : Nat
  routeCell : Nat
  deriving DecidableEq, Repr

structure Sanding where
  /-- the sander states and box estimates (mg) as the latest decision left them, which STATUS shows (R104, R166) -/
  shownStates : PerAxle SanderState
  shownBoxes : PerAxle Nat
  slipHold : Option Millis
  reslipHold : Option Millis
  hillExpiry : Option Millis
  aim : Option Aim
  /-- which sources asked at the latest decision -/
  asks : Sources
  /-- which sources were admitted at the latest decision -/
  admitted : Sources
  demandOn : Bool
  /-- the level HIGH -/
  high : Bool
  lastDecision : Millis
  deriving DecidableEq, Repr

/-! ## Blend unit (chapter 6) -/

inductive DemandMode where
  | drive
  | coast
  | brake
  | hold
  | park
  deriving DecidableEq, Repr

inductive EffMode where
  | drive
  | coast
  | brake
  | hold
  | park
  | lineLoss
  | emergency
  deriving DecidableEq, Repr

inductive ServedMode where
  | drive
  | coast
  | brake
  | hold
  | lineLoss
  | emergency
  deriving DecidableEq, Repr

inductive EffortSense where
  | traction
  | braking
  | none
  deriving DecidableEq, Repr

inductive TrackBrake where
  | up
  | lowering
  | down
  | unconfirmed
  deriving DecidableEq, Repr

/-- The governing request (R105), its acceleration already clamped. -/
structure Governing where
  cab : CabEnd
  mode : DemandMode
  accel : Int
  deriving DecidableEq, Repr

/-- An axle's capability (R114), share (R116) and axle demand (R117), N. -/
structure AxleBlend where
  capability : Nat
  share : Nat
  electric : Nat
  friction : Nat
  deriving DecidableEq, Repr

structure Blend where
  governing : Option Governing
  conflict : Bool
  effMode : EffMode
  /-- traction re-arm is NEEDED -/
  rearm : Bool
  served : ServedMode
  /-- the acceleration served, where R110's table gives one -/
  accel : Option Int
  mass : Nat
  nominal : Nat
  capability : Nat
  /-- the capability without track brake -/
  capNoMtb : Nat
  /-- the station demand -/
  demand : Nat
  axles : PerAxle AxleBlend
  mtb : TrackBrake
  contactorClosed : Bool
  escalation : Option Nat
  release : Option Nat
  loweringSince : Option Millis
  residualView : Nat
  nominalView : Nat
  lastBlend : Millis
  deriving DecidableEq, Repr

/-! ## Make-up unit (chapter 7) -/

inductive Standing where
  | active
  | stoodDown
  | withdrawn
  deriving DecidableEq, Repr

/-- An entry of the takes list; `applied` is the mark APPLIED, else LAPSED. -/
structure Take where
  peer : Nat
  generation : Nat
  amount : Nat
  applied : Bool
  deriving DecidableEq, Repr

structure MakeUp where
  withdrawn : Bool
  /-- the standing settled at the latest blend event -/
  standing : Standing
  /-- as published: 0 unless ACTIVE -/
  shortfall : Nat
  spare : Nat
  generation : Nat
  genShortfall : Nat
  covered : Nat
  residual : Nat
  escResidual : Nat
  takes : List Take
  deriving DecidableEq, Repr

/-! ## Hold unit (chapter 8) -/

inductive HoldState where
  | free
  | holding
  | hillStart
  | rollback
  deriving DecidableEq, Repr

/-- OFF: no supply. START: within the start sequence (section 11.2). -/
inductive Life where
  | off
  | start
  | run
  | parked
  deriving DecidableEq, Repr

structure Hold where
  state : HoldState
  standstill : Bool
  stillTime : Option Nat
  armed : Bool
  levelPending : Bool
  hillSince : Option Millis
  trailerReleased : Bool
  rollbackTime : Option Nat
  parkTime : Option Nat
  /-- N per axle -/
  holdForce : Nat
  /-- N per axle; every rule gives both axles the same figure -/
  friction : Nat
  /-- the hold state handed to the trainline port: at step 5 of the latest sample (R153), and by the entry to ROLLBACK and
  its end (R152) -/
  shown : HoldState
  /-- achieved traction, as published (R153) -/
  achieved : Nat
  /-- gravity need, as published (R153) -/
  need : Nat
  deriving DecidableEq, Repr

/-! ## Trainline port (chapter 9) -/

structure DemandContent where
  mode : DemandMode
  leadingEnd : CabEnd
  sense : Sense
  chainageValid : Bool
  driverSand : Bool
  accel : Int
  /-- dm -/
  chainage : Nat
  deriving DecidableEq, Repr

/-- A take entry of a STATUS frame. -/
structure TakeEntry where
  peer : Nat
  generation : Nat
  amount : Nat
  deriving DecidableEq, Repr

/-- The content of a STATUS frame, scaled fields multiplied back (R158). -/
structure StatusContent where
  parked : Bool
  served : ServedMode
  hold : HoldState
  rollback : Bool
  /-- balance kind SHORT -/
  short : Bool
  forward : PerAxle Int
  creep : PerAxle CreepState
  candidate : PerAxle Bool
  mass : Nat
  nominal : Nat
  balance : Nat
  covered : Nat
  generation : Nat
  capability : Nat
  achieved : Nat
  need : Nat
  mapCell : Option Nat
  /-- 0 none, 1 ALL, 2 WINDOW, 3 CELLS -/
  clearKind : Nat
  clearId : Nat
  faultCount : Nat
  overflow : Bool
  oldestKind : Nat
  sanders : PerAxle SanderState
  /-- box estimates in whole g -/
  boxes : PerAxle Nat
  takes : List TakeEntry
  deriving DecidableEq, Repr

inductive PeerState where
  | absent
  | fresh
  | silent
  | parked
  | lost
  deriving DecidableEq, Repr

/-- The latest STATUS accepted from a peer. -/
structure PeerLatest where
  content : StatusContent
  arrived : Millis
  sequence : BitVec 8
  deriving DecidableEq, Repr

structure Peer where
  state : PeerState
  latest : Option PeerLatest
  deriving DecidableEq, Repr

/-- A cab's demand record once a frame has been accepted (R161). -/
structure DemandRec where
  content : DemandContent
  arrived : Millis
  sequence : BitVec 8
  deriving DecidableEq, Repr

structure StatusFrame where
  content : StatusContent
  sequence : BitVec 8
  built : Millis
  deriving DecidableEq, Repr

structure ClearFrame where
  id : BitVec 8
  what : Granularity
  sequence : BitVec 8
  deriving DecidableEq, Repr

structure RailFrame where
  observations : List Observation
  sequence : BitVec 8
  deriving DecidableEq, Repr

/-- The frame on the line with the slot it came from. `spoiled` marks a RAIL REPORT of which an observation has left the
outbox since its sending began (R167). -/
inductive LineFrame where
  | status (f : StatusFrame)
  | mapClear (f : ClearFrame)
  | rail (f : RailFrame) (spoiled : Bool)
  deriving DecidableEq, Repr

structure Port where
  /-- eight slots by station number; the own slot stays ABSENT -/
  peers : List Peer
  demands : PerAxle (Option DemandRec)
  /-- the silence state is ANNOUNCED -/
  announced : Bool
  /-- the latest DEMAND accepted, or the entry to RUN -/
  heardAt : Millis
  dupSeen : Bool
  seqStatus : BitVec 8
  seqRail : BitVec 8
  seqClear : BitVec 8
  statusSlot : Option StatusFrame
  clearSlot : Option ClearFrame
  railSlot : Option RailFrame
  onLine : Option LineFrame
  /-- the moment from which the STATUS timer runs -/
  lastStatus : Millis
  deriving DecidableEq, Repr

/-! ## Bogie link port (chapter 10) -/

inductive UnitState where
  | present
  | lost
  deriving DecidableEq, Repr

/-- The content of an inverter report (R171). -/
structure InverterReport where
  healthy : Bool
  /-- signed: positive is traction -/
  achieved : PerAxle Int
  tractionCap : PerAxle Nat
  brakeCap : PerAxle Nat
  deriving DecidableEq, Repr

/-- The content of a brake unit report (R171). -/
structure BrakeReport where
  healthy : Bool
  friction : PerAxle Nat
  load : PerAxle Nat
  deriving DecidableEq, Repr

structure InverterRec where
  state : UnitState
  report : Option InverterReport
  silentSince : Millis
  returns : Nat
  lossReported : Bool
  deriving DecidableEq, Repr

structure BrakeRec where
  state : UnitState
  report : Option BrakeReport
  silentSince : Millis
  returns : Nat
  lossReported : Bool
  deriving DecidableEq, Repr

/-- The emergency loop input (R178). -/
structure LoopInput where
  raw : LoopLevel
  changedAt : Millis
  delivered : Option LoopLevel
  deriving DecidableEq, Repr

/-- The shoe-down sensor input (R178). -/
structure ShoeInput where
  raw : ShoeLevel
  changedAt : Millis
  delivered : Option ShoeLevel
  deriving DecidableEq, Repr

structure BogieLink where
  inverter : InverterRec
  brake : BrakeRec
  /-- the axle loads as handed to readers, kg -/
  loads : PerAxle Nat
  loop : LoopInput
  shoe : ShoeInput
  /-- the bytes of the latest inverter order, none sent yet: empty -/
  sentInverter : List Byte
  sentBrake : List Byte
  deriving DecidableEq, Repr

/-! ## Fault record table, store, service connector (chapter 11) -/

inductive FaultKind where
  | storeCorrected
  | slipPersistent
  | wheelLock
  | speedSensor
  | referenceUncertain
  | rollback
  | hillStartFailed
  | demandLost
  | demandConflict
  | peerLost
  | duplicateStation
  | plantLinkLost
  | brakeUnitLost
  | mtbNotDown
  | sandEmpty
  | storeInvalid
  deriving DecidableEq, Repr

inductive FaultDetail where
  | commissioning
  | running
  | both
  | own
  | peer (n : Nat)
  | parked
  deriving DecidableEq, Repr

/-- A pending fault record. -/
structure FaultRecord where
  kind : FaultKind
  axle : Option Axle
  cell : Option Nat
  first : Millis
  last : Millis
  count : Nat
  detail : Option FaultDetail
  deriving DecidableEq, Repr

/-- Eight records, `none` a free one, and the overflow flag. -/
structure FaultTable where
  records : List (Option FaultRecord)
  overflow : Bool
  deriving DecidableEq, Repr

/-- The commissioning block: its 262 signed figures in the order of R184. -/
structure CommBlock where
  fields : List Int
  ecc : EccFinding
  deriving DecidableEq, Repr

/-- The running block: both trims and both estimates. -/
structure RunBlock where
  trims : PerAxle Int
  boxes : PerAxle Nat
  ecc : EccFinding
  deriving DecidableEq, Repr

/-- A store write in progress with its start (R183). -/
inductive StoreWrite where
  | commissioning (fields : List Int) (start : Millis)
  | running (trims : PerAxle Int) (boxes : PerAxle Nat) (start : Millis)
  deriving DecidableEq, Repr

structure Store where
  comm : CommBlock
  run : RunBlock
  write : Option StoreWrite
  pendingSave : Bool
  deriving DecidableEq, Repr

inductive ReplyCode where
  | ok
  | refusedLocked
  | refusedMotion
  | busy
  | badValue
  | badRequest
  deriving DecidableEq, Repr

/-! ### The items of READ STATUS, chapter by chapter -/

/-- R18, per axle. -/
structure AxleItems where
  speed : Int
  lowSpeed : Bool
  sensor : SensorStatus
  trim : Int
  deriving DecidableEq, Repr

/-- R45, per axle: the re-slip ceiling with its remaining time. -/
structure CreepItems where
  state : CreepState
  limit : Nat
  ceiling : Nat
  preLimit : Option Nat
  reslip : Option (Nat × Nat)
  uncertainCap : Option Nat
  peak : Nat
  electric : Nat
  friction : Nat
  deriving DecidableEq, Repr

/-- R62. -/
structure PositionItems where
  station : Nat
  state : PosState
  leadingEnd : CabEnd
  sense : Sense
  change : Option EndChange
  reckoned : Nat
  attrStation : Attrs
  attrLeading : Attrs
  attrSander : PerAxle Attrs
  deriving DecidableEq, Repr

/-- R104, per sander. -/
structure SanderItems where
  state : SanderState
  pipe : Nat
  flowDelay : Nat
  duty : Nat
  restOwed : Bool
  rest : Nat
  box : Nat
  openTime : Option Nat
  deriving DecidableEq, Repr

/-- R104, for the station. -/
structure SandingItems where
  asks : Sources
  admitted : Sources
  demandOn : Bool
  high : Bool
  slipHold : Option Millis
  reslipHold : Option Millis
  hillExpiry : Option Millis
  aim : Option Aim
  deriving DecidableEq, Repr

/-- R122. -/
structure BlendItems where
  governing : Option Governing
  conflict : Bool
  loop : LoopLevel
  effMode : EffMode
  served : ServedMode
  rearm : Bool
  demand : Nat
  axles : PerAxle AxleBlend
  capNoMtb : Nat
  mtb : TrackBrake
  escalation : Option Nat
  release : Option Nat
  lowering : Option Nat
  shoe : Option ShoeLevel
  residualView : Nat
  nominalView : Nat
  deriving DecidableEq, Repr

/-- R140; the applied sum stands beside the unit's own items. -/
structure MakeUpItems where
  standing : Standing
  shortfall : Nat
  spare : Nat
  generation : Nat
  genShortfall : Nat
  covered : Nat
  residual : Nat
  escResidual : Nat
  appliedSum : Nat
  takes : List Take
  deriving DecidableEq, Repr

/-- R156. -/
structure HoldItems where
  state : HoldState
  life : Life
  standstill : Bool
  stillTime : Option Nat
  armed : Bool
  levelPending : Bool
  trailerReleased : Bool
  hillTime : Option Nat
  rollbackTime : Option Nat
  parkTime : Option Nat
  holdForce : Nat
  friction : PerAxle Nat
  deriving DecidableEq, Repr

/-- R170, a peer record with its age. -/
structure PeerItems where
  state : PeerState
  age : Option Nat
  content : Option StatusContent
  deriving DecidableEq, Repr

/-- R170, a demand record with its age. -/
structure DemandItems where
  age : Nat
  content : DemandContent
  deriving DecidableEq, Repr

/-- R170. -/
structure PortItems where
  peers : List PeerItems
  demands : PerAxle (Option DemandItems)
  announced : Bool
  dupSeen : Bool
  statusSlot : Option StatusFrame
  clearSlot : Option ClearFrame
  railSlot : Option RailFrame
  onLine : Option LineFrame
  deriving DecidableEq, Repr

/-- R179. -/
structure LinkItems where
  inverterState : UnitState
  inverterSilence : Nat
  inverterReturns : Nat
  inverterReport : Option InverterReport
  brakeState : UnitState
  brakeSilence : Nat
  brakeReturns : Nat
  brakeReport : Option BrakeReport
  loads : PerAxle Nat
  valves : PerAxle Bool
  contactorClosed : Bool
  loopRaw : LoopLevel
  loopTimer : Nat
  loopDelivered : Option LoopLevel
  shoeRaw : ShoeLevel
  shoeTimer : Nat
  shoeDelivered : Option ShoeLevel
  deriving DecidableEq, Repr

/-- Which write is in progress. -/
inductive WriteKind where
  | commissioning
  | running
  deriving DecidableEq, Repr

/-- Everything READ STATUS answers (R185). -/
structure StatusItems where
  axles : PerAxle AxleItems
  refSpeed : Int
  refStatus : RefStatus
  creep : PerAxle CreepItems
  position : PositionItems
  sanders : PerAxle SanderItems
  sanding : SandingItems
  blend : BlendItems
  makeUp : MakeUpItems
  hold : HoldItems
  port : PortItems
  link : LinkItems
  degraded : Bool
  write : Option WriteKind
  pendingSave : Bool
  deriving DecidableEq, Repr

/-- An entry as READ MAP gives it (R84): each present part with its age. -/
structure MapEntryItems where
  cell : Nat
  peak : Option (Nat × Nat)
  atLeast : Option (Nat × Nat)
  sanded : Option Nat
  observer : Observer
  direction : Sense
  count : Nat
  deriving DecidableEq, Repr

/-- An outbox observation as READ MAP gives it (R84): with its mark and age. -/
structure OutboxItems where
  obs : Observation
  inFrame : Bool
  age : Nat
  deriving DecidableEq, Repr

/-- Everything READ MAP answers (R84, R185). -/
structure MapItems where
  entries : List MapEntryItems
  outbox : List OutboxItems
  lastClear : Option LastClear
  deriving DecidableEq, Repr

/-- The data of a reply. -/
inductive ReplyData where
  | empty
  | status (items : StatusItems)
  | faults (records : List (Option FaultRecord)) (overflow : Bool)
  | map (items : MapItems)
  deriving DecidableEq, Repr

/-- A reply: the command code repeated, the reply code, the data (R184). -/
structure Reply where
  command : Byte
  code : ReplyCode
  data : ReplyData
  deriving DecidableEq, Repr

/-! ## The station -/

/-- Everything one BA31 holds. -/
structure Station where
  time : Millis
  timeUs : Micros
  /-- µs since the latest millisecond began -/
  subMs : Nat
  life : Life
  /-- the start was DEGRADED (R182) -/
  degraded : Bool
  plug : CodePlug
  /-- the commissioned figures in force -/
  figs : Commissioning
  axles : PerAxle AxleUnit
  ref : Reference
  lastSample : Millis
  creep : PerAxle AxleCreep
  creepDir : EffortDir
  cellRec : Option CellRec
  pos : Position
  map : RailMap
  sanders : PerAxle Sander
  sanding : Sanding
  blend : Blend
  makeUp : MakeUp
  hold : Hold
  port : Port
  link : BogieLink
  faults : FaultTable
  store : Store
  /-- the reply to the latest service request; none when it was discarded unanswered -/
  reply : Option Reply
  deriving DecidableEq, Repr

end Sys2Proof.Machine
end

