-- ==== Sys2Proof/Machine/Figures.lean ====
section
/-! DEFINITION. The commissioning block as figures: its order (R184), the ranges and defaults of the chapters' tables, and
loading it at a start (R55, R176, R182). -/

namespace Sys2Proof.Machine

/-! ## The order of the 262 fields (R184)

0 teeth; 1, 2 diameters; 3 a_trac_max; 4 a_brake_max; 5 axle maximum; 6 look-ahead; 7 tram length; 8 wheelbase;
9 to 232 route windows, seven fields each; 233 map depth; 234 box capacity; 235 to 258 rate sets, six fields each;
259 friction maximum; 260 empty load; 261 crush load. -/

/-- What a figure may be: a range, one of the dividers 1, 2, 4 and 8, or a flag. -/
inductive FigureRange where
  | span (lo hi : Int)
  | divider
  | flag
  deriving DecidableEq, Repr

/-- Whether a figure lies in its range. -/
def inRange : FigureRange → Int → Bool
  | .span lo hi, v => decide (lo ≤ v) && decide (v ≤ hi)
  | .divider, v => v == 1 || v == 2 || v == 4 || v == 8
  | .flag, v => v == 0 || v == 1

/-- The ranges of a route window's seven fields (section 3.4). -/
def windowRanges : List FigureRange :=
  [.span 0 9999, .span 0 9999, .span (-160) 160, .flag, .flag, .span 0 3, .span (-20000) 20000]

/-- The ranges of a rate set's six fields (chapter 5). -/
def rateSetRanges : List FigureRange :=
  [.span 5000 25000, .span 100 800, .divider, .divider, .divider, .divider]

/-- `n` copies of a list, one after another. -/
def copies {α : Type} (n : Nat) (l : List α) : List α := (List.replicate n l).flatten

/-- The ranges of the whole block, from the tables of chapters 1, 2, 3, 4, 5, 6 and 10. -/
def blockRanges : List FigureRange :=
  [.span 60 120, .span 5400 7000, .span 5400 7000, .span 500 2500, .span 1500 5000]
    ++ [.span 10000 45000, .span 10000 60000]
    ++ [.span 10000 100000, .span 1400 2400]
    ++ copies 32 windowRanges
    ++ [.span 64 256]
    ++ [.span 5000 40000] ++ copies 4 rateSetRanges
    ++ [.span 10000 45000]
    ++ [.span 3000 20000, .span 3000 20000]

/-- Whether every figure of a block lies in the range its chapter gives (check 4 of R186). -/
def blockInRange (fields : List Int) : Bool :=
  fields.length == blockRanges.length && (List.zipWith inRange blockRanges fields).all id

/-- The fields of a disabled window: its stop block lies below its start block (R56). -/
def disabledWindow : List Int := [1, 0, 0, 0, 0, 0, 0]

/-- The default fields of a rate set (chapter 5). -/
def defaultRateSet : List Int := [15000, 300, 4, 2, 1, 1]

/-- The block that holds every default, all windows disabled. -/
def defaultFields : List Int :=
  [90, 6200, 6200, 1600, 3800]
    ++ [40000, 30000]
    ++ [36000, 1800]
    ++ copies 32 disabledWindow
    ++ [256]
    ++ [25000] ++ copies 4 defaultRateSet
    ++ [28000]
    ++ [7500, 14500]

/-- Field `i` of a block. -/
def fieldAt (fields : List Int) (i : Nat) : Int := fields.getD i 0

/-- `v` clamped to `lo` to `hi`. -/
def clampInt (lo hi v : Int) : Int := max lo (min hi v)

/-- R55, R56: a window whose start or stop block exceeds 9,999, or whose stop block lies below its start block, is
disabled, and so is one with a negative start block (notes/assumptions/20.md); the gradient and the map offset are clamped. -/
def loadWindow (f : List Int) : RouteWindow :=
  let start := fieldAt f 0
  let stop := fieldAt f 1
  { startBlock := start.toNat
    stopBlock := stop.toNat
    gradient := clampInt (-160) 160 (fieldAt f 2)
    sandInhibit := fieldAt f 3 == 1
    obsInhibit := fieldAt f 4 == 1
    rateSet := (fieldAt f 5).toNat
    mapOffset := clampInt (-20000) 20000 (fieldAt f 6)
    enabled := decide (0 ≤ start ∧ start ≤ 9999 ∧ stop ≤ 9999 ∧ start ≤ stop) }

/-- A rate set from its six fields. -/
def loadRateSet (f : List Int) : RateSet :=
  { base := (fieldAt f 0).toNat
    flowDelay := (fieldAt f 1).toNat
    dividers := [(fieldAt f 2).toNat, (fieldAt f 3).toNat, (fieldAt f 4).toNat, (fieldAt f 5).toNat] }

/-- The figures in force from a block. A crush load below the empty load is taken as the empty load (R176). -/
def loadFigures (f : List Int) : Commissioning :=
  { teeth := (fieldAt f 0).toNat
    diameter := ⟨(fieldAt f 1).toNat, (fieldAt f 2).toNat⟩
    aTracMax := fieldAt f 3
    aBrakeMax := fieldAt f 4
    axleMax := (fieldAt f 5).toNat
    lookAhead := (fieldAt f 6).toNat
    tramLength := (fieldAt f 7).toNat
    wheelbase := (fieldAt f 8).toNat
    windows := (List.range 32).map fun n => loadWindow (f.drop (9 + 7 * n))
    mapDepth := (fieldAt f 233).toNat
    boxCapacity := (fieldAt f 234).toNat
    rateSets := (List.range 4).map fun n => loadRateSet (f.drop (235 + 6 * n))
    frictionMax := (fieldAt f 259).toNat
    emptyLoad := (fieldAt f 260).toNat
    crushLoad := max (fieldAt f 261).toNat (fieldAt f 260).toNat }

/-- The figures of a DEGRADED start: every default, every window disabled (R182). -/
def defaultFigures : Commissioning := loadFigures defaultFields

/-- Rate set `n`. -/
def rateSetOf (figs : Commissioning) (n : Nat) : RateSet :=
  figs.rateSets.getD n (loadRateSet defaultRateSet)

/-- The reserve of a sand box, 2,000 g in mg (chapter 5, "Fixed in the part"). -/
def reserveMg : Nat := 2000000

/-- A box's capacity in mg. -/
def capacityMg (figs : Commissioning) : Nat := figs.boxCapacity * 1000

end Sys2Proof.Machine
end

