-- ==== Sys2Proof/Machine/Flags.lean ====
section
/-! DEFINITION. The views one unit takes of another's state: which axle leads, effort sense, currency of a record, which
peers count, what a plant unit gives. -/

namespace Sys2Proof.Machine

/-! ## Pairs -/

/-- The value for an axle. -/
def pick {α : Type} (p : PerAxle α) : Axle → α
  | .a => p.a
  | .b => p.b

/-- The pair with the value for an axle replaced. -/
def put {α : Type} (p : PerAxle α) (x : Axle) (v : α) : PerAxle α :=
  match x with
  | .a => { p with a := v }
  | .b => { p with b := v }

/-- The other axle, the partner of chapter 2. -/
def otherAxle : Axle → Axle
  | .a => .b
  | .b => .a

/-- The end-1 sander sits at axle A, the end-2 sander at axle B (R47, R85); axle A leads when END1 leads. -/
def axleOf : CabEnd → Axle
  | .end1 => .a
  | .end2 => .b

def otherEnd : CabEnd → CabEnd
  | .end1 => .end2
  | .end2 => .end1

/-- The leading axle, by the leading end in force (R47); the leading sander sits at it (R85). -/
def leadingAxle (s : Station) : Axle := axleOf s.pos.leadingEnd

/-- Whether the sander at an axle leads (R85). -/
def leads (s : Station) (x : Axle) : Bool := x == leadingAxle s

/-- The station runs: RUN or PARKED. In START and without supply nothing runs (section 11.2). -/
def running (s : Station) : Bool := s.life == .run || s.life == .parked

/-! ## Time -/

/-- Whether `now` lies before the moment `t`, modulo 2³². -/
def before (now t : Millis) : Bool := decide (0 < age t now) && decide (age t now < 2147483648)

/-- Whether an expiry that may be absent has not passed. -/
def stillAhead (now : Millis) : Option Millis → Bool
  | some t => before now t
  | none => false

/-! ## Modes -/

/-- The effort sense of a served mode (R110, R126). -/
def senseOf : ServedMode → EffortSense
  | .drive => .traction
  | .brake | .lineLoss | .emergency => .braking
  | .coast | .hold => .none

/-- The station's effort sense. -/
def effortSense (s : Station) : EffortSense := senseOf s.blend.served

/-- A DRIVE request: served DRIVE with an acceleration above 0 (R143). -/
def driveRequest (s : Station) : Bool :=
  s.blend.served == .drive && decide (0 < s.blend.accel.getD 0)

/-! ## Position -/

/-- The rise under the station (R58, R60, R61). -/
def riseHere (s : Station) : Int := s.pos.attrStation.rise

/-- The route cell of a position (R59). -/
def routeCell (p : Nat) : Nat := p / 5000

/-! ## Demand records (R161) -/

/-- The cab's record while its frame is younger than 100 ms. -/
def currentDemand (s : Station) (c : CabEnd) : Option DemandRec :=
  match pick s.port.demands (axleOf c) with
  | some r => if age s.time r.arrived < 100 then some r else none
  | none => none

/-! ## Peers (R163, R164) -/

/-- The record of a station number. -/
def peerAt (s : Station) (n : Nat) : Peer := s.port.peers.getD n ⟨.absent, none⟩

/-- The content of a record that is FRESH. -/
def freshContent (p : Peer) : Option StatusContent :=
  if p.state = .fresh then p.latest.map (·.content) else none

/-- The station numbers of the FRESH peers with their latest STATUS, in ascending order. -/
def freshPeers (s : Station) : List (Nat × StatusContent) :=
  (List.range 8).filterMap fun n => (freshContent (peerAt s n)).map fun c => (n, c)

/-- R126: the peers that match, FRESH and in the same effort sense, which is not NONE. -/
def matchingPeers (s : Station) : List (Nat × StatusContent) :=
  (freshPeers s).filter fun p =>
    senseOf p.2.served == effortSense s && effortSense s != .none

/-- A peer's published spare (section 9.2). -/
def spareOf (c : StatusContent) : Nat := if c.short then 0 else c.balance

/-- A peer's published shortfall (section 9.2). -/
def shortfallOf (c : StatusContent) : Nat := if c.short then c.balance else 0

/-- A peer's residual, as a receiver forms it (section 9.2). -/
def residualOf (c : StatusContent) : Nat := shortfallOf c - c.covered

/-! ## Plant records (R175) -/

/-- The inverter's latest report while it is PRESENT. -/
def inverterUsed (s : Station) : Option InverterReport :=
  if s.link.inverter.state = .present then s.link.inverter.report else none

/-- The brake unit's latest report while it is PRESENT. -/
def brakeUsed (s : Station) : Option BrakeReport :=
  if s.link.brake.state = .present then s.link.brake.report else none

/-- The inverter's latest report while it is PRESENT and healthy on a MOTOR station: capability is read from it. -/
def inverterUsable (s : Station) : Option InverterReport :=
  match s.plug.kind, inverterUsed s with
  | .motor, some r => if r.healthy then some r else none
  | _, _ => none

/-- Whether the brake unit is PRESENT and healthy. -/
def brakeUsable (s : Station) : Bool :=
  match brakeUsed s with
  | some r => r.healthy
  | none => false

/-- The force a signed electric figure gives as traction. -/
def asTraction (f : Int) : Nat := f.toNat

/-- The force a signed electric figure gives as braking. -/
def asBraking (f : Int) : Nat := (-f).toNat

/-- R153: the own achieved traction, 0 on a TRAILER and while the inverter is LOST or unhealthy. -/
def ownTraction (s : Station) : Nat :=
  match inverterUsable s with
  | some r => asTraction r.achieved.a + asTraction r.achieved.b
  | none => 0

/-! ## Gravity (R144, R148, R153) -/

/-- Step 1 of R144 for a rise magnitude. -/
def gravityLoad (mass : Nat) (rise : Nat) : Nat := mass * 9807 * rise / 1000000

/-- R153: the own gravity need, 0 unless the rise is above 0. -/
def ownNeed (s : Station) : Nat :=
  if 0 < riseHere s then gravityLoad s.blend.mass (riseHere s).toNat else 0

/-- The sum of a figure over the FRESH peers (R149). -/
def freshSum (s : Station) (f : StatusContent → Nat) : Nat :=
  ((freshPeers s).map fun p => f p.2).sum

/-- R149: the tram achieved traction. -/
def tramTraction (s : Station) : Nat := ownTraction s + freshSum s (·.achieved)

/-- R149: the tram gravity need. The own need in it is the figure of R153, 0 where the rise is at or below 0, and not the
signed G of R148: the model's choice (notes/assumptions/40.md). -/
def tramNeed (s : Station) : Nat := ownNeed s + freshSum s (·.need)

/-! ## Make-up -/

/-- R132: the sum of the amounts marked APPLIED. -/
def appliedSum (takes : List Take) : Nat := ((takes.filter (·.applied)).map (·.amount)).sum

/-! ## Axle demand (R40, R144, R147, R152) -/

/-- An axle's electric demand: the blend unit's, and 0 in HOLDING and ROLLBACK. -/
def demandElectric (s : Station) (x : Axle) : Nat :=
  match s.hold.state with
  | .free | .hillStart => (pick s.blend.axles x).electric
  | .holding | .rollback => 0

/-- An axle's friction demand: the blend unit's in FREE, else the hold friction. -/
def demandFriction (s : Station) (x : Axle) : Nat :=
  match s.hold.state with
  | .free => (pick s.blend.axles x).friction
  | .holding | .hillStart | .rollback => s.hold.friction

/-- The demand total. -/
def demandTotal (s : Station) (x : Axle) : Nat := demandElectric s x + demandFriction s x

end Sys2Proof.Machine
end

