-- ==== Sys2Proof/Machine/Faults.lean ====
section
/-! DEFINITION. The fault record table (section 11.1). -/

namespace Sys2Proof.Machine

/-- Whether a record is pending with the same kind and axle. -/
def sameFault (kind : FaultKind) (axle : Option Axle) : Option FaultRecord → Bool
  | some r => r.kind == kind && r.axle == axle
  | none => false

/-- R180, first case: the count rises to at most 255; last time, map cell and detail become the occurrence's. -/
def countFault (now : Millis) (cell : Option Nat) (detail : Option FaultDetail) (r : FaultRecord) : FaultRecord :=
  { r with last := now, cell := cell, detail := detail, count := min 255 (r.count + 1) }

/-- Replace the first element that satisfies `p`. -/
def replaceFirst {α : Type} (p : α → Bool) (f : α → α) : List α → List α
  | [] => []
  | x :: xs => if p x then f x :: xs else x :: replaceFirst p f xs

/-- R180: an occurrence reaches the table. -/
def recordFault (t : FaultTable) (now : Millis) (cell : Option Nat) (kind : FaultKind) (axle : Option Axle)
    (detail : Option FaultDetail) : FaultTable :=
  if t.records.any (sameFault kind axle) then
    { t with records := replaceFirst (sameFault kind axle) (Option.map (countFault now cell detail)) t.records }
  else if t.overflow then t
  else if t.records.any Option.isNone then
    { t with records := replaceFirst Option.isNone (fun _ => some ⟨kind, axle, cell, now, now, 1, detail⟩) t.records }
  else { t with overflow := true }

/-- A unit reports a fault: stamped with the station time and the leading axle's map cell as last resolved (R180). -/
def report (kind : FaultKind) (axle : Option Axle) (detail : Option FaultDetail) (s : Station) : Station :=
  { s with faults := recordFault s.faults s.time s.pos.attrLeading.mapCell kind axle detail }

/-- The codes of the kinds in the STATUS fault summary (R180). -/
def faultCode : FaultKind → Nat
  | .storeCorrected => 0
  | .slipPersistent => 1
  | .wheelLock => 2
  | .speedSensor => 3
  | .referenceUncertain => 4
  | .rollback => 5
  | .hillStartFailed => 6
  | .demandLost => 7
  | .demandConflict => 8
  | .peerLost => 9
  | .duplicateStation => 10
  | .plantLinkLost => 11
  | .brakeUnitLost => 12
  | .mtbNotDown => 13
  | .sandEmpty => 14
  | .storeInvalid => 15

/-- The number of pending records (R181). -/
def pendingFaults (t : FaultTable) : Nat := (t.records.filter Option.isSome).length

/-- The pending record with the greatest age since its first time, the lowest record number among equals (R181). -/
def oldestFault (now : Millis) : List (Option FaultRecord) → Option FaultRecord
  | [] => none
  | none :: rest => oldestFault now rest
  | some r :: rest =>
    match oldestFault now rest with
    | some q => if age now r.first < age now q.first then some q else some r
    | none => some r

/-- The kind code of the oldest pending record, 0 with none pending (R181). -/
def oldestCode (now : Millis) (t : FaultTable) : Nat :=
  match oldestFault now t.records with
  | some r => faultCode r.kind
  | none => 0

/-- CLEAR FAULT n (R181). -/
def freeRecord (n : Nat) (t : FaultTable) : FaultTable := { t with records := t.records.set n none }

/-- CLEAR ALL FAULTS (R181): the overflow flag is not changed. -/
def freeAllRecords (t : FaultTable) : FaultTable := { t with records := t.records.map fun _ => none }

/-- CLEAR OVERFLOW (R181). -/
def clearOverflowFlag (t : FaultTable) : FaultTable := { t with overflow := false }

/-- A table of eight free records. -/
def emptyTable : FaultTable := { records := List.replicate 8 none, overflow := false }

end Sys2Proof.Machine
end

