-- ==== Sys2Proof/Machine/Route.lean ====
section
/-! DEFINITION. The route window table and the positions resolved in it (sections 3.1, 3.4 and 3.5). -/

namespace Sys2Proof.Machine

/-! ## Windows (R56, R57) -/

/-- R56: a position lies in a window from its decoded start to its decoded stop, both included. -/
def windowHolds (p : Nat) (w : RouteWindow) : Bool :=
  w.enabled && decide (w.startBlock * 10000 ≤ p) && decide (p ≤ w.stopBlock * 10000 + 9999)

/-- The lowest-numbered window from number `n` on that holds a position. -/
def findWindow (p : Nat) : Nat → List RouteWindow → Option (Nat × RouteWindow)
  | _, [] => none
  | n, w :: ws => if windowHolds p w then some (n, w) else findWindow p (n + 1) ws

/-- R57: the window that governs a position. -/
def governingWindow (figs : Commissioning) (p : Nat) : Option (Nat × RouteWindow) := findWindow p 0 figs.windows

/-- R59: the map cell of a route cell under an offset; `none` is "no cell". -/
def shiftedCell (cell : Nat) (offset : Int) : Option Nat :=
  let c : Int := cell + offset
  if 0 ≤ c ∧ c ≤ 19999 then some c.toNat else none

/-- R58: the rise in the travel sense. -/
def riseOf (sense : Sense) (gradient : Int) : Int :=
  match sense with
  | .up => gradient
  | .down => -gradient

/-- R60: the attributes of every position while the position state is LOST, with no governing window recorded
(notes/assumptions/34.md). -/
def lostAttrs (p : Nat) : Attrs :=
  { position := p, window := none, gradient := 0, rise := 0, sandInhibit := true, obsInhibit := true, rateSet := 0,
    mapOffset := 0, mapCell := none }

/-- R57 to R60: the attribute set of a position. -/
def attrsAt (figs : Commissioning) (state : PosState) (sense : Sense) (p : Nat) : Attrs :=
  match state with
  | .lost => lostAttrs p
  | .valid | .deadReckoning =>
    match governingWindow figs p with
    | some (n, w) =>
      { position := p, window := some n, gradient := w.gradient, rise := riseOf sense w.gradient,
        sandInhibit := w.sandInhibit, obsInhibit := w.obsInhibit, rateSet := w.rateSet, mapOffset := w.mapOffset,
        mapCell := shiftedCell (routeCell p) w.mapOffset }
    | none =>
      { position := p, window := none, gradient := 0, rise := 0, sandInhibit := false, obsInhibit := false,
        rateSet := 0, mapOffset := 0, mapCell := shiftedCell (routeCell p) 0 }

/-! ## Derived positions (R47) -/

/-- A position clamped to 0 to 100,000,000 mm. -/
def clampPosition (p : Int) : Nat := (clampInt 0 100000000 p).toNat

/-- The position `d` mm ahead of `p` in the travel sense, clamped. -/
def aheadOf (sense : Sense) (p : Nat) (d : Int) : Nat :=
  match sense with
  | .up => clampPosition (p + d)
  | .down => clampPosition (p - d)

/-- Half the wheelbase, truncated. -/
def halfBase (s : Station) : Int := (s.figs.wheelbase / 2 : Nat)

/-- The leading axle position. -/
def leadingPosition (s : Station) : Nat := aheadOf s.pos.sense s.pos.station (halfBase s)

/-- The position of an axle, and so of its sander. -/
def axlePosition (s : Station) (x : Axle) : Nat :=
  if leads s x then leadingPosition s else aheadOf s.pos.sense s.pos.station (-halfBase s)

/-- R61: the four attribute sets resolved from the position as it stands. -/
def resolved (s : Station) : Position :=
  let at' := attrsAt s.figs s.pos.state s.pos.sense
  { s.pos with
    attrStation := at' s.pos.station
    attrLeading := at' (leadingPosition s)
    attrSander := ⟨at' (axlePosition s .a), at' (axlePosition s .b)⟩ }

/-! ## Stretches (R59, R60, R73) -/

/-- A route cell with its map cell, under its own governing window. -/
def cellOfRoute (figs : Commissioning) (cell : Nat) : Nat × Option Nat :=
  (cell, (attrsAt figs .valid .up (cell * 5000)).mapCell)

/-- The route cells from `c` on in the travel sense, `n` of them. -/
def cellsFrom (sense : Sense) (c n : Nat) : List Nat :=
  match sense with
  | .up => (List.range n).map fun k => c + k
  | .down => (List.range n).map fun k => c - k

/-- The stretch from `p` to `d` mm ahead of it: each route cell in the travel sense with its map cell. No cells in LOST. -/
def stretch (s : Station) (p d : Nat) : List (Nat × Option Nat) :=
  match s.pos.state with
  | .lost => []
  | .valid | .deadReckoning =>
    let c0 := routeCell p
    let c1 := routeCell (aheadOf s.pos.sense p d)
    let n := match s.pos.sense with
      | .up => c1 + 1 - c0
      | .down => c0 + 1 - c1
    (cellsFrom s.pos.sense c0 n).map (cellOfRoute s.figs)

end Sys2Proof.Machine
end

