-- ==== Sys2Proof/Machine/RailMap.lean ====
section
/-! DEFINITION. The rail condition map: entries and merges (sections 4.1 and 4.2), the sweep (4.3), look-ahead (4.4),
clears (4.5) and the observation outbox with the RAIL REPORT slot (4.6, R167). -/

namespace Sys2Proof.Machine

/-! ## Entries in order (R63, R64) -/

/-- Whether the entries hold one for a cell. -/
def hasCell (cell : Nat) (es : List MapEntry) : Bool := es.any (·.cell == cell)

/-- The entry put in its place in ascending order of map cell. -/
def insertSorted (e : MapEntry) : List MapEntry → List MapEntry
  | [] => [e]
  | x :: xs => if e.cell < x.cell then e :: x :: xs else x :: insertSorted e xs

/-- R64: the new cell lies farther behind than the candidate. -/
def fartherBehind (sense : Sense) (new candidate : Nat) : Bool :=
  match sense with
  | .up => decide (new < candidate)
  | .down => decide (candidate < new)

/-- R64: an entry for a cell that has none joins, evicting the entry farthest behind when the map is full, or is refused. -/
def insertEntry (depth : Nat) (sense : Sense) (e : MapEntry) (es : List MapEntry) : List MapEntry :=
  if es.length < depth then insertSorted e es
  else
    match (match sense with | .up => es.head? | .down => es.getLast?) with
    | none => es
    | some c =>
      if fartherBehind sense e.cell c.cell then es
      else
        insertSorted e (match sense with | .up => es.tail | .down => es.dropLast)

/-! ## Merges (R67 to R70) -/

/-- R67: the entry's PEAK part after a PEAK observation. -/
def mergedPeak (o : TimedMu) : Option TimedMu → TimedMu
  | none => o
  | some p =>
    if age o.time p.time < 10000 then
      if p.mu < o.mu then p else o
    else o

/-- R67: a part with a figure above a bound is removed. -/
def dropAbove (bound : Nat) : Option TimedMu → Option TimedMu
  | some a => if bound < a.mu then none else some a
  | none => none

/-- R68: a PEAK below the observation's figure is removed. -/
def dropBelow (bound : Nat) : Option TimedMu → Option TimedMu
  | some p => if p.mu < bound then none else some p
  | none => none

/-- R68: the entry's AT_LEAST part after an AT_LEAST observation. -/
def mergedAtLeast (o : TimedMu) : Option TimedMu → TimedMu
  | none => o
  | some a => if o.mu < a.mu then a else o

/-- R67 to R69: the parts of an entry after an observation. -/
def mergeParts (o : Observation) (e : MapEntry) : MapEntry :=
  let t : TimedMu := ⟨o.mu, o.time⟩
  match o.kind with
  | .peak =>
    let p := mergedPeak t e.peak
    { e with peak := some p, atLeast := dropAbove p.mu e.atLeast }
  | .atLeast => { e with atLeast := some (mergedAtLeast t e.atLeast), peak := dropBelow o.mu e.peak }
  | .sanded => { e with sanded := some o.time }

/-- R70: the bookkeeping of a merge. -/
def bookkeep (o : Observation) (e : MapEntry) : MapEntry :=
  { e with count := min 15 (e.count + 1), observer := o.observer, direction := o.direction }

/-- The entry an observation creates: its part, count 1 (R70). -/
def newEntry (o : Observation) (cell : Nat) : MapEntry :=
  bookkeep o (mergeParts o ⟨cell, none, none, none, o.observer, o.direction, 0⟩)

/-- One merge into one cell. -/
def mergeCell (depth : Nat) (sense : Sense) (o : Observation) (cell : Nat) (es : List MapEntry) : List MapEntry :=
  if hasCell cell es then es.map fun e => if e.cell = cell then bookkeep o (mergeParts o e) else e
  else insertEntry depth sense (newEntry o cell) es

/-- R69: the cells of a range up to 19,999, from the farthest ahead to the farthest behind. -/
def rangeCells (sense : Sense) (first count : Nat) : List Nat :=
  let up := ((List.range count).map (first + ·)).filter (· ≤ 19999)
  match sense with
  | .up => up.reverse
  | .down => up

/-- The cells an observation merges into. -/
def obsCells (sense : Sense) (o : Observation) : List Nat :=
  match o.kind with
  | .peak | .atLeast => [o.cell]
  | .sanded => rangeCells sense o.cell o.count

/-- R67 to R70: an observation merged into the map. -/
def mergeObs (depth : Nat) (sense : Sense) (o : Observation) (es : List MapEntry) : List MapEntry :=
  (obsCells sense o).foldl (fun es c => mergeCell depth sense o c es) es

/-! ## The sweep (R71) -/

/-- An entry without the parts whose age exceeds their life. -/
def sweepEntry (now : Millis) (e : MapEntry) : MapEntry :=
  { e with
    peak := e.peak.filter fun t => age now t.time ≤ 300000
    atLeast := e.atLeast.filter fun t => age now t.time ≤ 300000
    sanded := e.sanded.filter fun t => age now t ≤ 90000 }

/-- An entry holds at least one of its three parts (R63). -/
def hasPart (e : MapEntry) : Bool := e.peak.isSome || e.atLeast.isSome || e.sanded.isSome

/-- R71: the sweep. -/
def sweepEntries (now : Millis) (es : List MapEntry) : List MapEntry := (es.map (sweepEntry now)).filter hasPart

/-- R71: the sweep of the station's map; the sweep timer starts anew. -/
def sweepMap (s : Station) : Station :=
  { s with map := { s.map with entries := sweepEntries s.time s.map.entries, lastSweep := s.time } }

/-! ## Reading (R72, R73) -/

/-- R72: the effective μ, `none` when the entry does not restrict adhesion. -/
def effectiveMu (e : MapEntry) : Option Nat :=
  match e.peak, e.sanded with
  | some p, none => some p.mu
  | some p, some _ => some (max p.mu (min (p.mu + 40) 300))
  | none, _ => none

/-- What a route cell of a stretch contributes. -/
def contribution (es : List MapEntry) (c : Nat × Option Nat) : Option (Nat × Aim) :=
  match c.2 with
  | none => none
  | some m =>
    match es.find? (·.cell == m) with
    | none => none
    | some e => (effectiveMu e).map fun mu => (mu, ⟨m, c.1⟩)

/-- The lowest contribution, the first of equals. -/
def lowest : List (Nat × Aim) → Option (Nat × Aim)
  | [] => none
  | x :: xs =>
    match lowest xs with
    | some y => if y.1 < x.1 then some y else some x
    | none => some x

/-- R73: the answer of a look-ahead query: the lowest effective μ with the map cell and route cell that gave it, or
"no restriction". -/
def lookAhead (s : Station) (p d : Nat) : Option (Nat × Aim) :=
  lowest ((stretch s p d).filterMap (contribution s.map.entries))

/-! ## The outbox (R80, R81) -/

/-- Whether a SANDED observation for a cell extends the newest outbox observation. -/
def extendsItem (o : Observation) (i : OutboxItem) : Bool :=
  o.kind == .sanded && !i.inFrame && i.obs.kind == .sanded && i.obs.direction == o.direction && decide (i.obs.count < 16)
    && (o.cell + 1 == i.obs.cell || o.cell == i.obs.cell + i.obs.count)

/-- The newest observation extended by the new cell; it keeps its place and its time. -/
def extendItem (o : Observation) (i : OutboxItem) : OutboxItem :=
  { i with obs := { i.obs with cell := min o.cell i.obs.cell, count := i.obs.count + 1 } }

/-- R81: the oldest WAITING AT_LEAST removed, or without one the oldest WAITING observation. -/
def makeRoom (box : List OutboxItem) : List OutboxItem :=
  if box.any (fun i => !i.inFrame && i.obs.kind == .atLeast) then
    box.eraseP fun i => !i.inFrame && i.obs.kind == .atLeast
  else box.eraseP fun i => !i.inFrame

/-- R80, R81: an own observation offered to the outbox. -/
def offerOutbox (o : Observation) (box : List OutboxItem) : List OutboxItem :=
  match box.getLast? with
  | some i => if extendsItem o i then box.dropLast ++ [extendItem o i] else joinOutbox o box
  | none => joinOutbox o box
where
  /-- An offer that does not extend. -/
  joinOutbox (o : Observation) (box : List OutboxItem) : List OutboxItem :=
    if box.length < 12 then box ++ [⟨o, false⟩]
    else
      match o.kind with
      | .peak | .sanded => makeRoom box ++ [⟨o, false⟩]
      | .atLeast => box

/-! ## The RAIL REPORT slot (R82, R83, R167) -/

/-- A RAIL REPORT of the station is on the line. -/
def railOnLine (s : Station) : Bool :=
  match s.port.onLine with
  | some (.rail _ _) => true
  | some (.status _) | some (.mapClear _) | none => false

/-- The oldest `n` WAITING observations marked IN FRAME. -/
def markOldest : Nat → List OutboxItem → List OutboxItem
  | _, [] => []
  | 0, l => l
  | n + 1, i :: l => if i.inFrame then i :: markOldest (n + 1) l else { i with inFrame := true } :: markOldest n l

/-- The WAITING observations, oldest first. -/
def waiting (box : List OutboxItem) : List Observation := (box.filter fun i => !i.inFrame).map (·.obs)

/-- R167: a RAIL REPORT is built when the slot is empty, none is on the line and an observation is WAITING. -/
def buildRail (s : Station) : Station :=
  if s.port.railSlot.isNone && !railOnLine s && !(waiting s.map.outbox).isEmpty then
    { s with
      port := { s.port with
        seqRail := s.port.seqRail + 1
        railSlot := some ⟨(waiting s.map.outbox).take 6, s.port.seqRail + 1⟩ }
      map := { s.map with outbox := markOldest 6 s.map.outbox } }
  else s

/-- R83: the unsent RAIL REPORT is discarded, its observations return to WAITING, and the port builds afresh. -/
def withdrawRail (s : Station) : Station :=
  buildRail { s with
    port := { s.port with railSlot := none }
    map := { s.map with outbox := s.map.outbox.map fun i => { i with inFrame := false } } }

/-- The RAIL REPORT on the line has lost one of its observations (R167). -/
def spoilRail (s : Station) : Station :=
  match s.port.onLine with
  | some (.rail f _) => { s with port := { s.port with onLine := some (.rail f true) } }
  | some (.status _) | some (.mapClear _) | none => s

/-- R78, R83: observations that fail `keep` leave the outbox; a waiting RAIL REPORT that holds one is withdrawn. -/
def dropFromOutbox (keep : Observation → Bool) (s : Station) : Station :=
  let hit := s.map.outbox.any fun i => i.inFrame && !keep i.obs
  let s1 := { s with map := { s.map with outbox := s.map.outbox.filter fun i => keep i.obs } }
  if hit then
    if s1.port.railSlot.isSome then withdrawRail s1 else spoilRail s1
  else s1

/-- R83: an observation is dropped when its age exceeds 2,000 ms. -/
def expireOutbox (s : Station) : Station := dropFromOutbox (fun o => decide (age s.time o.time ≤ 2000)) s

/-! ## Own and peer observations (R65, R66) -/

/-- R65: an own observation is stamped, merged and offered to the outbox; one with no cell is discarded whole. -/
def observe (kind : ObsKind) (cell : Option Nat) (mu : Nat) (s : Station) : Station :=
  match cell with
  | none => s
  | some c =>
    let o : Observation := ⟨kind, c, 1, mu, s.pos.sense, .own, s.time⟩
    buildRail { s with
      map := { s.map with
        entries := mergeObs s.figs.mapDepth s.pos.sense o s.map.entries
        outbox := offerOutbox o s.map.outbox } }

/-- R66: the checks on an observation as a frame carries it; `none` is skipped. -/
def checkPeerObs (o : Observation) : Option Observation :=
  if 19999 < o.cell then none
  else
    match o.kind with
    | .peak | .atLeast => some { o with mu := min 500 o.mu }
    | .sanded => if o.count = 0 ∨ 16 < o.count then none else some o

/-- R66: one observation of a peer's RAIL REPORT merged; a skipped one merges nothing. -/
def mergePeerObs (s : Station) (o : Observation) : Station :=
  match checkPeerObs o with
  | none => s
  | some o =>
    { s with map := { s.map with entries := mergeObs s.figs.mapDepth s.pos.sense o s.map.entries } }

/-! ## Clears (R75 to R79) -/

/-- R76: the map span of a route window, clamped to 0 to 19,999, as first and last cell. -/
def mapSpan (w : RouteWindow) : Nat × Nat :=
  ((clampInt 0 19999 (w.startBlock * 2 + w.mapOffset)).toNat, (clampInt 0 19999 (w.stopBlock * 2 + 1 + w.mapOffset)).toNat)

/-- Whether a window's span has any cell at all within 0 to 19,999 (notes/assumptions/31.md). -/
def spanExists (w : RouteWindow) : Bool :=
  decide (0 ≤ (w.stopBlock * 2 + 1 : Int) + w.mapOffset) && decide ((w.startBlock * 2 : Int) + w.mapOffset ≤ 19999)

/-- Whether a cell lies in an enabled window's map span. -/
def inSpan (w : RouteWindow) (c : Nat) : Bool :=
  spanExists w && decide ((mapSpan w).1 ≤ c) && decide (c ≤ (mapSpan w).2)

/-- The lowest-numbered enabled window from number `n` on whose span holds two cells. -/
def spanningWindow (a b : Nat) : Nat → List RouteWindow → Option Nat
  | _, [] => none
  | n, w :: ws => if w.enabled && inSpan w a && inSpan w b then some n else spanningWindow a b (n + 1) ws

/-- Whether window `n` exists and is enabled. -/
def windowEnabled (figs : Commissioning) (n : Nat) : Bool :=
  match figs.windows[n]? with
  | some w => w.enabled
  | none => false

/-- R76: the actual granularity of a requested one. -/
def actualGranularity (figs : Commissioning) : Granularity → Granularity
  | .all => .all
  | .window n => if windowEnabled figs n then .window n else .all
  | .cells first last =>
    if 19999 < first ∨ 19999 < last ∨ last < first then .all
    else if last - first + 1 ≤ 64 then .cells first last
    else
      match spanningWindow first last 0 figs.windows with
      | some m => .window m
      | none => .all

/-- R77: whether a map cell lies among the cells a granularity means. -/
def clearsCell (figs : Commissioning) (g : Granularity) (c : Nat) : Bool :=
  match g with
  | .all => true
  | .window n =>
    match figs.windows[n]? with
    | some w => inSpan w c
    | none => false
  | .cells first last => decide (first ≤ c) && decide (c ≤ last)

/-- R78: whether an outbox observation stays. -/
def keptByClear (figs : Commissioning) (g : Granularity) (o : Observation) : Bool :=
  match o.kind with
  | .peak | .atLeast => !clearsCell figs g o.cell
  | .sanded => !((rangeCells .up o.cell o.count).any (clearsCell figs g))

/-- R78: a pre-arm aim among the cleared cells is cancelled. -/
def cancelAimIn (g : Granularity) (s : Station) : Station :=
  match s.sanding.aim with
  | some a => if clearsCell s.figs g a.mapCell then { s with sanding := { s.sanding with aim := none } } else s
  | none => s

/-- R75: the map takes a clear. -/
def takeClear (id : BitVec 8) (requested : Granularity) (s : Station) : Station :=
  let g := actualGranularity s.figs requested
  let s1 := { s with map := { s.map with entries := s.map.entries.filter fun e => !clearsCell s.figs g e.cell } }
  let s2 := cancelAimIn g (dropFromOutbox (keptByClear s.figs g) s1)
  { s2 with map := { s2.map with lastClear := some ⟨id, g⟩ } }

end Sys2Proof.Machine
end

