-- ==== Sys2Proof/Machine/Sanders.lean ====
section
/-! DEFINITION. One sander: its valve and box (section 5.6), its states (5.4), dosing and the cells it records (5.5). The
decision that runs both sanders stands in Machine/Sanding.lean. -/

namespace Sys2Proof.Machine

/-- The sander at an axle. -/
def sanderAt (s : Station) (x : Axle) : Sander := pick s.sanders x

/-- The station with the sander at an axle replaced. -/
def setSander (s : Station) (x : Axle) (d : Sander) : Station := { s with sanders := put s.sanders x d }

/-! ## Valve and box (R97, R100) -/

/-- The ms open so far in an interval: in a dosing period no more than its open time. -/
def openMs (now : Millis) (d : Sander) (i : OpenInterval) : Nat :=
  match d.dosing with
  | some p => min (age now i.start) (p.openTime - age i.start p.start)
  | none => age now i.start

/-- R100: the box estimate brought up to date within an interval. -/
def settleBox (now : Millis) (d : Sander) : Sander :=
  match d.interval with
  | some i => { d with box := i.estimate - i.base * openMs now d i / 1000 }
  | none => d

/-- The valve closes and the open interval ends. -/
def closeValve (now : Millis) (d : Sander) : Sander := { settleBox now d with valveOpen := false, interval := none }

/-- An open interval begins with the valve open, ending one that runs; with the box at 0 the valve stays closed (R97). -/
def openValve (now : Millis) (base : Nat) (d : Sander) : Sander :=
  let e := closeValve now d
  if e.box = 0 then e else { e with valveOpen := true, interval := some ⟨now, e.box, base⟩ }

/-- The open time of the dosing period running has ended (R98); a period open throughout has no such moment. -/
def openTimeOver (now : Millis) (d : Sander) : Bool :=
  match d.dosing with
  | some p => decide (p.openTime < 400) && decide (p.openTime ≤ age now p.start)
  | none => false

/-- FILLING or FLOWING. -/
def spreading (d : Sander) : Bool := d.state == .filling || d.state == .flowing

/-! ## Entries to the states (R92 to R96) -/

/-- Entry to TAILING: the valve closes, the pipe time as it stands, the dosing period abandoned. -/
def toTailing (now : Millis) (d : Sander) : Sander :=
  { closeValve now d with state := .tailing, dosing := none, advancedTo := now }

/-- Entry to CLOSED: pipe empty, duty timer 0, no last recorded cell. -/
def toClosed (d : Sander) : Sander := { d with state := .closed, pipe := 0, duty := 0, lastCell := none }

/-- Entry to RESTING with a rest timer of 0. -/
def toResting (d : Sander) : Sander := { d with state := .resting, pipe := 0, rest := 0, lastCell := none }

/-- Entry to FILLING with the pipe as it stands (R95). -/
def refill (now : Millis) (d : Sander) : Sander :=
  openValve now d.fillBase { d with state := .filling, lastCell := none }

/-- R92: entry to FILLING with the pipe empty, fixing the flow delay in force. -/
def fillFromEmpty (now : Millis) (set : RateSet) (d : Sander) : Sander :=
  refill now { d with flowDelay := set.flowDelay, fillBase := set.base, pipe := 0, rest := 0 }

/-! ## Dosing (R98) -/

/-- The speed band of a reference magnitude. -/
def speedBand (v : Nat) : Nat :=
  if v < 2800 then 0 else if v < 5600 then 1 else if v < 8300 then 2 else 3

/-- The divider of a period: halved at level HIGH, then at least 1. -/
def dividerFor (set : RateSet) (band : Nat) (high : Bool) : Nat :=
  let d := set.dividers.getD band 1
  if high then max 1 (d / 2) else d

/-- The rate set that governs a sander's position (R61). -/
def sanderRateSet (s : Station) (x : Axle) : RateSet := rateSetOf s.figs (pick s.pos.attrSander x).rateSet

/-- A dosing period begins: its figures are fixed and the valve opens. -/
def beginPeriod (start : Millis) (x : Axle) (s : Station) : Station :=
  let set := sanderRateSet s x
  let openTime := 400 / dividerFor set (speedBand s.ref.speed.natAbs) s.sanding.high
  let e := closeValve s.time (sanderAt s x)
  setSander s x (openValve s.time set.base { e with dosing := some ⟨start, set.base, openTime⟩ })

/-! ## Cells (R99) -/

/-- Record a cell: hand the map a SANDED observation for the map cell of the sander's attribute set. -/
def recordCell (x : Axle) (s : Station) : Station :=
  let a := pick s.pos.attrSander x
  let s1 := setSander s x { sanderAt s x with lastCell := some (routeCell a.position) }
  observe .sanded a.mapCell 0 s1

/-- R99, step 2 of a decision: a sander that is FLOWING or TAILING records its route cell when it differs from its last
recorded cell, and so at once when it has none, as in a tail entered from FILLING (notes/assumptions/14.md). -/
def recordNewCell (x : Axle) (s : Station) : Station :=
  let d := sanderAt s x
  if (d.state = .flowing ∨ d.state = .tailing) ∧ d.lastCell ≠ some (routeCell (pick s.pos.attrSander x).position) then
    recordCell x s
  else s

/-- R93: entry to FLOWING: the pipe full, the cell recorded, the first dosing period begun. -/
def enterFlowing (x : Axle) (s : Station) : Station :=
  let d := sanderAt s x
  let s1 := setSander s x { d with state := .flowing, pipe := d.flowDelay }
  beginPeriod s.time x (recordCell x s1)

/-! ## Empty box (R101) -/

/-- R101: an estimate that has come to 0 is reported once; one that a valve closing between decisions brought to 0 is reported
at the next decision (notes/assumptions/37.md). -/
def noteEmpty (x : Axle) (s : Station) : Station :=
  let d := sanderAt s x
  if d.box = 0 ∧ d.emptyReported = false then
    report .sandEmpty (some x) none (setSander s x { d with emptyReported := true })
  else s

/-! ## Events between decisions -/

/-- A sander in FILLING or FLOWING enters TAILING at this moment. -/
def tailNow (x : Axle) (s : Station) : Station :=
  let d := sanderAt s x
  if spreading d then setSander s x (toTailing s.time d) else s

/-- R97: a resolution between decisions that finds the leading sander inhibited sends it to TAILING, unless EMERGENCY or
ROLLBACK was admitted at the latest decision. -/
def inhibitTailing (s : Station) : Station :=
  let x := leadingAxle s
  let blocked := (pick s.pos.attrSander x).sandInhibit || s.pos.state == .lost
  if blocked && !s.sanding.admitted.emergency && !s.sanding.admitted.rollback then tailNow x s else s

/-- The pre-arm aim is cancelled (R90). -/
def cancelAim (s : Station) : Station := { s with sanding := { s.sanding with aim := none } }

end Sys2Proof.Machine
end

