-- ==== Sys2Proof/Machine/Position.lean ====
section
/-! DEFINITION. The position unit: anchors, odometry, the position state, leading end and sense (chapter 3), with the
announcements it makes. -/

namespace Sys2Proof.Machine

/-! ## Resolution (R61) and announcements -/

/-- The four attribute sets resolved at once, between samples (R61, R97). -/
def resolveNow (s : Station) : Station := inhibitTailing { s with pos := resolved s }

/-- Both pre-limits are removed (R39). -/
def removePreLimits (s : Station) : Station :=
  { s with creep := ⟨{ s.creep.a with preLimit := none }, { s.creep.b with preLimit := none }⟩ }

/-- The cell record is spoiled: it is dropped, and the next one opened is spoiled (R37, notes/assumptions/22.md). -/
def spoilCell (s : Station) : Station := { s with cellRec := none }

/-- Both creep histories are emptied (R21). -/
def emptyHistories (s : Station) : Station :=
  { s with creep := ⟨{ s.creep.a with history := [] }, { s.creep.b with history := [] }⟩ }

/-- R49: the position jump. -/
def announceJump (s : Station) : Station := cancelAim (spoilCell (removePreLimits s))

/-- R52: entry to LOST. -/
def announceLost (s : Station) : Station := cancelAim (removePreLimits s)

/-- R53: the change of leading end or sense reaches the creep controller and the sander control; `former` is the leading
end before it. A sander that has become trailing closes through TAILING (R85). A change of sense alone empties the creep
histories and spoils the cell record as well (notes/assumptions/22.md). -/
def announceChange (former : CabEnd) (s : Station) : Station :=
  let s1 := cancelAim (spoilCell (emptyHistories s))
  if former = s1.pos.leadingEnd then s1 else tailNow (axleOf former) s1

/-! ## Leading end and sense (R53, R54) -/

/-- A change is taken: it replaces what is in force and removes any pending change. -/
def takeChange (c : EndChange) (s : Station) : Station :=
  let former := s.pos.leadingEnd
  resolveNow (announceChange former { s with
    pos := { s.pos with leadingEnd := c.leadingEnd, sense := c.sense, endTaken := true, change := none } })

/-- R54: at the standstill announcement a pending change is taken. -/
def takePending (s : Station) : Station :=
  match s.pos.change with
  | some c => takeChange c s
  | none => s

/-- Whether a frame names the leading end and sense in force. -/
def namesInForce (s : Station) (d : DemandContent) : Bool :=
  d.leadingEnd == s.pos.leadingEnd && d.sense == s.pos.sense

/-- R53: what a frame that is not competing does to the leading end and sense. -/
def settleEnd (d : DemandContent) (s : Station) : Station :=
  if namesInForce s d then { s with pos := { s.pos with change := none, endTaken := true } }
  else if s.pos.endTaken = false ∨ s.ref.speed.natAbs < 300 then takeChange ⟨d.leadingEnd, d.sense⟩ s
  else { s with pos := { s.pos with change := some ⟨d.leadingEnd, d.sense⟩ } }

/-- R48: a competing frame: from the other cab within 100 ms of the last frame taken, naming another end or sense. -/
def competing (s : Station) (cab : CabEnd) (d : DemandContent) : Bool :=
  match s.pos.lastTaken with
  | some t => t.cab != cab && decide (age s.time t.time < 100) && !namesInForce s d
  | none => false

/-! ## Anchors (R46, R48, R49) -/

/-- R46: the offset from the leading end; d1 beyond the tram length is taken as the tram length. -/
def endOffset (s : Station) (e : CabEnd) : Int :=
  let d1 : Int := (min s.plug.d1 s.figs.tramLength : Nat)
  match e with
  | .end1 => d1
  | .end2 => s.figs.tramLength - d1

/-- R46: the anchor a frame gives. -/
def anchorOf (s : Station) (d : DemandContent) : Int :=
  match d.sense with
  | .up => d.chainage * 100 - endOffset s d.leadingEnd
  | .down => d.chainage * 100 + endOffset s d.leadingEnd

/-- R48: whether a frame anchors, once R53 and R54 have acted. -/
def anchors (s : Station) (d : DemandContent) : Bool :=
  d.chainageValid && decide (0 ≤ anchorOf s d) && decide (anchorOf s d ≤ 100000000) && namesInForce s d

/-- R49: whether an anchor announces a position jump. -/
def jumps (s : Station) (a : Nat) : Bool :=
  s.pos.state == .lost || decide (2000 < ((a : Int) - s.pos.station).natAbs)

/-- R49: the station position set to an anchor. -/
def anchor (a : Nat) (s : Station) : Station :=
  let s1 := { s with pos := { s.pos with station := a, remainder := 0, reckoned := 0, state := .valid } }
  resolveNow (if jumps s a then announceJump s1 else s1)

/-- A VALID position becomes DEAD_RECKONING (R48, R52). -/
def deadReckon (s : Station) : Station :=
  if s.pos.state = .valid then resolveNow { s with pos := { s.pos with state := .deadReckoning } } else s

/-- R48: a DEMAND arrival at the position unit; every accepted frame that is not competing counts as the last one taken
(notes/assumptions/32.md). -/
def positionDemand (cab : CabEnd) (d : DemandContent) (s : Station) : Station :=
  if competing s cab d then s
  else
    let s1 := settleEnd d { s with pos := { s.pos with lastTaken := some ⟨cab, s.time⟩ } }
    if anchors s1 d then anchor (anchorOf s1 d).toNat s1 else deadReckon s1

/-! ## Odometry (R50, R52) -/

/-- R50: the station position after moving `mm` in the travel sense, before the clamp. -/
def movedBy (sense : Sense) (p : Nat) (mm : Int) : Int :=
  match sense with
  | .up => p + mm
  | .down => p - mm

/-- R50: the odometry step of a sample. -/
def advanceOdometry (s : Station) : Station :=
  let sum := s.ref.speed * 5 + s.pos.remainder
  let mm := sum.tdiv 1000
  let p := movedBy s.pos.sense s.pos.station mm
  let inside := decide (0 ≤ p) && decide (p ≤ 100000000)
  { s with pos := { s.pos with
      station := clampPosition p
      remainder := if inside then sum.tmod 1000 else 0
      reckoned := s.pos.reckoned + mm.natAbs } }

/-- R52: a dead-reckoned distance above 500,000 mm makes the position LOST. -/
def deadReckoningLimit (s : Station) : Station :=
  if 500000 < s.pos.reckoned ∧ s.pos.state ≠ .lost then
    resolveNow (announceLost { s with pos := { s.pos with state := .lost } })
  else s

/-- The position unit's part of a sample: odometry, the limit, and the resolution of R61. -/
def positionSample (s : Station) : Station :=
  let s1 := deadReckoningLimit (advanceOdometry s)
  { s1 with pos := resolved s1 }

end Sys2Proof.Machine
end

