-- ==== Sys2Proof/Machine/Operands.lean ====
section
/-! DEFINITION. What reaches the station as bits and bytes, and what it sends: the frame layouts (R158), the link messages
(R171), the service requests (R184). -/

namespace Sys2Proof.Machine

/-! ## Bit fields (R158): bit 0 is sent first, a field's most significant bit first -/

/-- The number a list of bits spells, most significant bit first. -/
def bitsToNat (bits : List Bool) : Nat := bits.foldl (fun n b => 2 * n + b.toNat) 0

/-- The `width` bits of a number, most significant bit first. -/
def natToBits : (width : Nat) → Nat → List Bool
  | 0, _ => []
  | w + 1, n => n.testBit w :: natToBits w n

/-- The field of `width` bits from bit `first` on. -/
def field (bits : List Bool) (first width : Nat) : Nat := bitsToNat ((bits.drop first).take width)

/-- One bit as a flag. -/
def flagAt (bits : List Bool) (i : Nat) : Bool := bits.getD i false

/-- A field of `width` bits read in two's complement. -/
def asSigned (width n : Nat) : Int := if 2 * n < 2 ^ width then n else (n : Int) - 2 ^ width

/-- A signed figure as a field of `width` bits, two's complement. -/
def ofSigned (width : Nat) (v : Int) : Nat := (v % (2 ^ width : Nat)).toNat

/-! ## DEMAND (R158) -/

/-- The mode codes of a DEMAND; 5 to 7 name none. -/
def demandModeOf : Nat → Option DemandMode
  | 0 => some .drive
  | 1 => some .coast
  | 2 => some .brake
  | 3 => some .hold
  | 4 => some .park
  | _ => none

/-- The content of a DEMAND; a leading chainage above 999,999 dm clears the chainage-valid flag (R159). -/
def decodeDemand (bits : List Bool) : Option DemandContent :=
  match demandModeOf (field bits 0 3) with
  | none => none
  | some mode =>
    let chainage := field bits 24 24
    some
      { mode := mode
        leadingEnd := if flagAt bits 3 then .end2 else .end1
        sense := if flagAt bits 4 then .down else .up
        chainageValid := flagAt bits 5 && decide (chainage ≤ 999999)
        driverSand := flagAt bits 6
        accel := asSigned 16 (field bits 8 16)
        chainage := chainage }

/-! ## STATUS (R158) -/

def servedOf : Nat → Option ServedMode
  | 0 => some .drive
  | 1 => some .coast
  | 2 => some .brake
  | 3 => some .hold
  | 4 => some .lineLoss
  | 5 => some .emergency
  | _ => none

def servedCode : ServedMode → Nat
  | .drive => 0
  | .coast => 1
  | .brake => 2
  | .hold => 3
  | .lineLoss => 4
  | .emergency => 5

def holdOf : Nat → HoldState
  | 0 => .free
  | 1 => .holding
  | 2 => .hillStart
  | _ => .rollback

def holdCode : HoldState → Nat
  | .free => 0
  | .holding => 1
  | .hillStart => 2
  | .rollback => 3

def creepOf : Nat → Option CreepState
  | 0 => some .adhering
  | 1 => some .regulating
  | 2 => some .slipping
  | 3 => some .recovering
  | 4 => some .reapplying
  | 5 => some .locked
  | _ => none

def creepCode : CreepState → Nat
  | .adhering => 0
  | .regulating => 1
  | .slipping => 2
  | .recovering => 3
  | .reapplying => 4
  | .locked => 5

def sanderOf : Nat → Option SanderState
  | 0 => some .closed
  | 1 => some .filling
  | 2 => some .flowing
  | 3 => some .tailing
  | 4 => some .resting
  | _ => none

def sanderCode : SanderState → Nat
  | .closed => 0
  | .filling => 1
  | .flowing => 2
  | .tailing => 3
  | .resting => 4

/-- A take entry of 32 bits. -/
def decodeTake (bits : List Bool) : TakeEntry := ⟨field bits 0 3, field bits 3 8, field bits 11 21⟩

def encodeTake (t : TakeEntry) : List Bool := natToBits 3 t.peer ++ natToBits 8 t.generation ++ natToBits 21 t.amount

/-- `n` take entries, 32 bits each. -/
def decodeTakes : Nat → List Bool → List TakeEntry
  | 0, _ => []
  | n + 1, bits => decodeTake (bits.take 32) :: decodeTakes n (bits.drop 32)

/-- The leading axle map cell of a STATUS: 32,767 is no cell. -/
def mapCellOf (n : Nat) : Option Nat := if n = 32767 then none else some n

/-- The content of a STATUS with `n` take entries; `none` for a code that R159 refuses. -/
def decodeStatus (n : Nat) (bits : List Bool) : Option StatusContent :=
  match servedOf (field bits 1 3), creepOf (field bits 40 3), creepOf (field bits 44 3), sanderOf (field bits 186 3),
      sanderOf (field bits 189 3) with
  | some served, some ca, some cb, some sa, some sb =>
    some
      { parked := flagAt bits 0
        served := served
        hold := holdOf (field bits 4 2)
        rollback := flagAt bits 6
        short := flagAt bits 7
        forward := ⟨asSigned 16 (field bits 8 16), asSigned 16 (field bits 24 16)⟩
        creep := ⟨ca, cb⟩
        candidate := ⟨flagAt bits 43, flagAt bits 47⟩
        mass := 20 * field bits 48 11
        nominal := 2 * field bits 59 16
        balance := field bits 75 17
        covered := field bits 92 17
        generation := field bits 109 8
        capability := 25 * field bits 117 13
        achieved := 50 * field bits 130 11
        need := 50 * field bits 141 11
        mapCell := mapCellOf (field bits 152 15)
        clearKind := field bits 167 2
        clearId := field bits 169 8
        faultCount := field bits 177 4
        overflow := flagAt bits 181
        oldestKind := field bits 182 4
        sanders := ⟨sa, sb⟩
        boxes := ⟨field bits 192 16, field bits 208 16⟩
        takes := decodeTakes n (bits.drop 224) }
  | _, _, _, _, _ => none

/-- The bits of a STATUS content, fields in the order of R158. -/
def encodeStatus (c : StatusContent) : List Bool :=
  [c.parked] ++ natToBits 3 (servedCode c.served) ++ natToBits 2 (holdCode c.hold) ++ [c.rollback, c.short]
    ++ natToBits 16 (ofSigned 16 c.forward.a) ++ natToBits 16 (ofSigned 16 c.forward.b)
    ++ natToBits 3 (creepCode c.creep.a) ++ [c.candidate.a]
    ++ natToBits 3 (creepCode c.creep.b) ++ [c.candidate.b]
    ++ natToBits 11 (c.mass / 20) ++ natToBits 16 (c.nominal / 2)
    ++ natToBits 17 c.balance ++ natToBits 17 c.covered ++ natToBits 8 c.generation
    ++ natToBits 13 (c.capability / 25) ++ natToBits 11 (c.achieved / 50) ++ natToBits 11 (c.need / 50)
    ++ natToBits 15 (c.mapCell.getD 32767) ++ natToBits 2 c.clearKind ++ natToBits 8 c.clearId
    ++ natToBits 4 c.faultCount ++ [c.overflow] ++ natToBits 4 c.oldestKind
    ++ natToBits 3 (sanderCode c.sanders.a) ++ natToBits 3 (sanderCode c.sanders.b)
    ++ natToBits 16 c.boxes.a ++ natToBits 16 c.boxes.b
    ++ c.takes.flatMap encodeTake

/-- A figure as a scaled field carries it (R158): divided by its unit, truncated, saturated, multiplied back. -/
def scaled (unit width v : Nat) : Nat := unit * min (v / unit) (2 ^ width - 1)

/-! ## RAIL REPORT (R158) -/

def obsKindOf : Nat → Option ObsKind
  | 0 => some .peak
  | 1 => some .atLeast
  | 2 => some .sanded
  | _ => none

def obsKindCode : ObsKind → Nat
  | .peak => 0
  | .atLeast => 1
  | .sanded => 2

/-- One observation of 32 bits as its observer's frame gives it; kind code 3 names no kind (R66). -/
def decodeObs (observer : Nat) (now : Millis) (bits : List Bool) : Option Observation :=
  (obsKindOf (field bits 0 2)).map fun k =>
    ⟨k, field bits 3 15, field bits 18 5, field bits 23 9, if flagAt bits 2 then .down else .up, .station observer, now⟩

def encodeObs (o : Observation) : List Bool :=
  natToBits 2 (obsKindCode o.kind) ++ [o.direction == .down] ++ natToBits 15 o.cell ++ natToBits 5 o.count
    ++ natToBits 9 o.mu

/-- The observations of a RAIL REPORT that name a kind, in the order the frame carries them. -/
def decodeRail (observer : Nat) (now : Millis) : Nat → List Bool → List Observation
  | 0, _ => []
  | n + 1, bits =>
    match decodeObs observer now (bits.take 32) with
    | some o => o :: decodeRail observer now n (bits.drop 32)
    | none => decodeRail observer now n (bits.drop 32)

/-! ## MAP CLEAR (R158) -/

/-- The granularity that code, window number or first cell, and last cell give; `none` above 2. -/
def granularityOf (code first last : Nat) : Option Granularity :=
  match code with
  | 0 => some .all
  | 1 => some (.window first)
  | 2 => some (.cells first last)
  | _ => none

/-- The content of a MAP CLEAR; a granularity above 2 is handed on as ALL (R159). -/
def decodeClear (bits : List Bool) : BitVec 8 × Granularity :=
  (BitVec.ofNat 8 (field bits 0 8), (granularityOf (field bits 8 8) (field bits 16 16) (field bits 32 16)).getD .all)

/-- The content of a MAP CLEAR of this station (R158, R79); an ALL has no argument, and its bits 16 to 31 go out as 0, the
model's choice (notes/assumptions/42.md). -/
def encodeClear (id : BitVec 8) : Granularity → List Bool
  | .all => natToBits 8 id.toNat ++ natToBits 8 0 ++ natToBits 16 0 ++ natToBits 16 0
  | .window n => natToBits 8 id.toNat ++ natToBits 8 1 ++ natToBits 16 n ++ natToBits 16 0
  | .cells first last => natToBits 8 id.toNat ++ natToBits 8 2 ++ natToBits 16 first ++ natToBits 16 last

/-! ## Frames the station sends -/

/-- The 22 header bits of a frame (R158). -/
def headerBits (kind sender : Nat) (sequence : BitVec 8) (length : Nat) : List Bool :=
  natToBits 2 kind ++ natToBits 4 sender ++ natToBits 8 sequence.toNat ++ natToBits 8 length

/-- All bits of a frame of this station, header and content, in the order sent. -/
def frameBits (number : Nat) : LineFrame → List Bool
  | .status f => headerBits 2 number f.sequence (28 + 4 * f.content.takes.length) ++ encodeStatus f.content
  | .mapClear f => headerBits 1 number f.sequence 6 ++ encodeClear f.id f.what
  | .rail f _ => headerBits 3 number f.sequence (4 * f.observations.length) ++ f.observations.flatMap encodeObs

/-! ## Receive checks (R159) -/

/-- The cab a sender code names: 8 END1, 9 END2. -/
def cabOf (sender : BitVec 4) : Option CabEnd :=
  if sender = 8 then some .end1 else if sender = 9 then some .end2 else none

/-- The station a sender code names: 0 to 7. -/
def stationOf (sender : BitVec 4) : Option Nat := if sender.toNat < 8 then some sender.toNat else none

/-- A content of `n` bytes, as the header's length says. -/
def lengthIs (f : Frame) (n : Nat) : Bool := f.length.toNat == n && f.bits.length == 8 * n

/-- R159 for a DEMAND: from a cab, 6 bytes, a mode that exists. -/
def checkDemand (f : Frame) : Option (CabEnd × DemandContent) :=
  if lengthIs f 6 then
    match cabOf f.sender, decodeDemand f.bits with
    | some c, some d => some (c, d)
    | _, _ => none
  else none

/-- R159: the number of take entries that a STATUS length allows. -/
def takesOfLength (f : Frame) : Option Nat := (List.range 8).find? fun n => lengthIs f (28 + 4 * n)

/-- R159 for a STATUS: from a station, a length that exists, codes that exist. -/
def checkStatus (f : Frame) : Option (Nat × StatusContent) :=
  match stationOf f.sender, takesOfLength f with
  | some n, some k => (decodeStatus k f.bits).map fun c => (n, c)
  | _, _ => none

/-- R159 for a RAIL REPORT: from a station, one to six observations; the observations follow with their time. -/
def checkRail (now : Millis) (f : Frame) : Option (Nat × List Observation) :=
  match stationOf f.sender, (List.range 7).find? (fun n => n != 0 && lengthIs f (4 * n)) with
  | some n, some k => some (n, decodeRail n now k f.bits)
  | _, _ => none

/-- R159 for a MAP CLEAR: from a station or a cab, 6 bytes. -/
def checkClear (f : Frame) : Option (BitVec 8 × Granularity) :=
  if f.sender.toNat < 10 ∧ lengthIs f 6 then some (decodeClear f.bits) else none

/-! ## Link messages (R171): most significant byte first, an 8-bit sum at the end -/

/-- The sum of bytes modulo 256. -/
def byteSum (bytes : List Byte) : Byte := bytes.foldl (· + ·) 0

/-- The number that bytes spell, most significant first. -/
def bytesToNat (bytes : List Byte) : Nat := bytes.foldl (fun n b => 256 * n + b.toNat) 0

/-- The `count` bytes of a number, most significant first. -/
def natToBytes : (count : Nat) → Nat → List Byte
  | 0, _ => []
  | c + 1, n => BitVec.ofNat 8 (n / 256 ^ c) :: natToBytes c n

/-- The number in bytes `first` on, `count` of them. -/
def bytesAt (bytes : List Byte) (first count : Nat) : Nat := bytesToNat ((bytes.drop first).take count)

/-- A message of the given length whose last byte is the sum of the others (R173). -/
def messageOk (length : Nat) (bytes : List Byte) : Bool :=
  bytes.length == length && bytes.getLast? == some (byteSum bytes.dropLast)

/-- R171: an inverter report, `none` when its length or sum is wrong. -/
def decodeInverter (b : List Byte) : Option InverterReport :=
  if messageOk 16 b then
    some
      { healthy := bytesAt b 0 1 == 0
        achieved := ⟨asSigned 24 (bytesAt b 1 3), asSigned 24 (bytesAt b 4 3)⟩
        tractionCap := ⟨bytesAt b 7 2, bytesAt b 9 2⟩
        brakeCap := ⟨bytesAt b 11 2, bytesAt b 13 2⟩ }
  else none

/-- R171: a brake unit report, `none` when its length or sum is wrong. -/
def decodeBrake (b : List Byte) : Option BrakeReport :=
  if messageOk 10 b then
    some
      { healthy := bytesAt b 0 1 == 0
        friction := ⟨bytesAt b 1 2, bytesAt b 3 2⟩
        load := ⟨bytesAt b 5 2, bytesAt b 7 2⟩ }
  else none

/-- A message with its sum. -/
def withSum (bytes : List Byte) : List Byte := bytes ++ [byteSum bytes]

/-- R171: the inverter order. -/
def inverterOrder (e : CabEnd) (force : PerAxle Int) : List Byte :=
  withSum (natToBytes 1 (match e with | .end1 => 0 | .end2 => 1) ++ natToBytes 3 (ofSigned 24 force.a)
    ++ natToBytes 3 (ofSigned 24 force.b))

/-- R171: the brake unit order. -/
def brakeOrder (force : PerAxle Nat) : List Byte := withSum (natToBytes 2 force.a ++ natToBytes 2 force.b)

/-! ## Service requests (R184) -/

/-- The number of argument bytes that a command code fixes; `none` for an unknown code. -/
def argLength (code : Nat) : Option Nat :=
  match code with
  | 1 | 2 | 4 | 5 | 6 | 10 => some 0
  | 3 => some 1
  | 7 => some 5
  | 8 => some 3
  | 9 => some 1048
  | _ => none

/-- R185: whether a request's sum is right. -/
def sumOk (code : Byte) (r : Request) : Bool := r.sum == byteSum (code :: r.args)

/-- `n` signed fields of four bytes. -/
def decodeFields : Nat → List Byte → List Int
  | 0, _ => []
  | n + 1, b => asSigned 32 (bytesToNat (b.take 4)) :: decodeFields n (b.drop 4)

end Sys2Proof.Machine
end

