-- ==== Sys2Proof/Machine/Status.lean ====
section
/-! DEFINITION. The STATUS frame and the PARKED beacon as the port builds them (R128, R166, R181), and the store's running
save (R183), which the PARKED entry and FILLED ask for. -/

namespace Sys2Proof.Machine

/-! ## The STATUS content (R166) -/

/-- The kind code of the last clear in STATUS: 0 none, 1 ALL, 2 WINDOW, 3 CELLS (R158). -/
def clearKindOf : Option LastClear → Nat
  | none => 0
  | some c =>
    match c.actual with
    | .all => 1
    | .window _ => 2
    | .cells _ _ => 3

/-- The creep state STATUS shows; a failed axle shows its partner's, which R41 has given it. -/
def shownCreep (s : Station) (x : Axle) : CreepState := (pick s.creep x).state

/-- R128: the APPLIED entries at the moment of building. -/
def appliedEntries (takes : List Take) : List TakeEntry :=
  (takes.filter (·.applied)).map fun t => ⟨t.peer, t.generation, min t.amount 2097151⟩

/-- R128: a make-up figure as a frame carries it: 0 unless the unit is ACTIVE. -/
def shownFigure (s : Station) (figure : Nat) : Nat := if s.makeUp.standing = .active then figure else 0

/-- R166: the content of the STATUS built now: the hold state as the latest sample handed it over (R153), the rollback flag
for as long as ROLLBACK lasts (R152), the sanders as the latest decision left them (R104). Scaled fields are divided,
truncated and saturated (R158). -/
def statusContent (s : Station) : StatusContent :=
  let shortfall := shownFigure s s.makeUp.shortfall
  let short := decide (0 < shortfall)
  { parked := s.life == .parked
    served := s.blend.served
    hold := s.hold.shown
    rollback := s.hold.state == .rollback
    short := short
    forward := ⟨s.axles.a.forward, s.axles.b.forward⟩
    creep := ⟨shownCreep s .a, shownCreep s .b⟩
    candidate := ⟨s.axles.a.candidate, s.axles.b.candidate⟩
    mass := scaled 20 11 s.blend.mass
    nominal := scaled 2 16 s.blend.nominal
    balance := min (if short then shortfall else shownFigure s s.makeUp.spare) 131071
    covered := min (shownFigure s s.makeUp.covered) 131071
    generation := s.makeUp.generation
    capability := scaled 25 13 s.blend.capability
    achieved := scaled 50 11 s.hold.achieved
    need := scaled 50 11 s.hold.need
    mapCell := s.pos.attrLeading.mapCell
    clearKind := clearKindOf s.map.lastClear
    clearId := match s.map.lastClear with | some c => c.id.toNat | none => 0
    faultCount := pendingFaults s.faults
    overflow := s.faults.overflow
    oldestKind := oldestCode s.time s.faults
    sanders := s.sanding.shownStates
    boxes := ⟨s.sanding.shownBoxes.a / 1000, s.sanding.shownBoxes.b / 1000⟩
    takes := appliedEntries s.makeUp.takes }

/-- R166: a STATUS or beacon is built into its slot with the next sequence number, and the STATUS timer restarts. -/
def buildStatus (s : Station) : Station :=
  let n := s.port.seqStatus + 1
  { s with port := { s.port with
      seqStatus := n
      statusSlot := some ⟨statusContent s, n, s.time⟩
      lastStatus := s.time } }

/-- R154, R155, R166: `f` acts, and where it has changed the life state the port builds the STATUS of the wake or the first
beacon, after all that `f` does, so that a change within a sample shows the completed sample (notes/assumptions/38.md). -/
def announced (f : Station → Station) (s : Station) : Station :=
  let t := f s
  if t.life = s.life then t else buildStatus t

/-! ## The running save (R183) -/

/-- The trims and estimates as a save that starts now writes them. -/
def savedNow (s : Station) : StoreWrite :=
  .running ⟨s.axles.a.trim, s.axles.b.trim⟩ ⟨s.sanders.a.box, s.sanders.b.box⟩ s.time

/-- R183: a running save is asked for: it starts, or waits as the one pending save. -/
def requestSave (s : Station) : Station :=
  match s.store.write with
  | none => { s with store := { s.store with write := some (savedNow s) } }
  | some _ => { s with store := { s.store with pendingSave := true } }

end Sys2Proof.Machine
end

