-- ==== Sys2Proof/Machine/Modes.lean ====
section
/-! DEFINITION. What the station serves: the track brake's commands (R119 to R121), the lapse of takes (R133 to R136), the
hold unit's answer to an evaluation (R143 to R150), the evaluation of the effective mode (R106 to R110), standstill
(R142), rollback (R151) and the PARKED life state (R154, R155). -/

namespace Sys2Proof.Machine

/-! ## Track brake commands -/

/-- The track brake is commanded down: LOWERING, contactor closed, the lowering timer at 0 (R118, R121). -/
def commandDown (s : Station) : Station :=
  { s with blend := { s.blend with
      mtb := .lowering, contactorClosed := true, loweringSince := some s.time, escalation := none,
      release := none } }

/-- The track brake is commanded up: UP, contactor open, the three timers clear (R120). -/
def commandUp (s : Station) : Station :=
  { s with blend := { s.blend with
      mtb := .up, contactorClosed := false, escalation := none, release := none, loweringSince := none } }

/-- Whether R121 commands down: fitted, UP, above 300 mm/s. -/
def emergencyDown (s : Station) : Bool :=
  s.plug.trackBrake && s.blend.mtb == .up && decide (300 < s.ref.speed)

/-! ## Lapse of takes -/

/-- The takes with the APPLIED entries that `p` selects marked LAPSED. -/
def lapseWhere (p : Take → Bool) (takes : List Take) : List Take :=
  takes.map fun t => if p t then { t with applied := false } else t

/-- R136: every APPLIED take lapses. -/
def lapseAll (s : Station) : Station :=
  { s with makeUp := { s.makeUp with takes := lapseWhere (fun _ => true) s.makeUp.takes } }

/-- R133, R135: the take on one peer lapses. -/
def lapseOn (peer : Nat) (s : Station) : Station :=
  { s with makeUp := { s.makeUp with takes := lapseWhere (fun t => t.peer == peer) s.makeUp.takes } }

/-! ## The hold unit's states -/

/-- HOLDING is entered with the hold force on both axles; the hill-start timer stops. -/
def enterHolding (s : Station) : Station :=
  { s with hold := { s.hold with state := .holding, friction := s.hold.holdForce, hillSince := none } }

/-- R147: HILL_START is entered and announced to the sander control (R88). -/
def enterHillStart (s : Station) : Station :=
  { s with
    hold := { s.hold with
      state := .hillStart, armed := false, trailerReleased := false, hillSince := some s.time,
      friction := s.hold.holdForce }
    sanding := { s.sanding with hillExpiry := some (after s.time 2000) } }

/-- The hold unit's answer to an evaluation that gives no DRIVE request (R143, R145, R146, R150). -/
def holdNoDrive (s : Station) : Station :=
  let s1 := { s with hold := { s.hold with armed := true, levelPending := false } }
  match s1.hold.state with
  | .free => if s1.hold.standstill then enterHolding s1 else s1
  | .hillStart => enterHolding s1
  | .holding | .rollback => s1

/-- The hold unit's answer to an evaluation that gives a DRIVE request (R145, R147). -/
def holdDrive (s : Station) : Station :=
  if s.hold.state = .holding ∧ s.hold.armed = true then
    if 40 < riseHere s then enterHillStart s
    else { s with hold := { s.hold with armed := false, levelPending := true } }
  else s

/-- The hold unit responds at the evaluation event itself (R141). -/
def holdRespond (s : Station) : Station := if driveRequest s then holdDrive s else holdNoDrive s

/-! ## Evaluation (R106 to R110) -/

def effOf : DemandMode → EffMode
  | .drive => .drive
  | .coast => .coast
  | .brake => .brake
  | .hold => .hold
  | .park => .park

/-- The governing request's mode is DRIVE. -/
def governingDrive (b : Blend) : Bool :=
  match b.governing with
  | some g => g.mode == .drive
  | none => false

/-- R178: until the first delivery the loop is taken as CLOSED. -/
def loopIsOpen (s : Station) : Bool := s.link.loop.delivered == some .loopOpen

/-- R106, R107: the effective mode of an evaluation. -/
def nextEffMode (s : Station) : EffMode :=
  if loopIsOpen s then .emergency
  else if s.blend.effMode = .emergency ∧ (s.hold.standstill = false ∨ governingDrive s.blend = true) then .emergency
  else
    match s.blend.governing with
    | none => .lineLoss
    | some g => effOf g.mode

/-- LINE_LOSS or EMERGENCY. -/
def lossMode (m : EffMode) : Bool := m == .lineLoss || m == .emergency

/-- R109: traction re-arm after an evaluation that gives `m`; `arrival` at a DEMAND arrival. -/
def nextRearm (arrival : Bool) (b : Blend) (m : EffMode) : Bool :=
  if lossMode m && m != b.effMode then true
  else if arrival && !lossMode m && !governingDrive b then false
  else b.rearm

/-- R110: the served mode. -/
def servedFor (m : EffMode) (rearm standstill : Bool) : ServedMode :=
  match m with
  | .drive => if rearm then .coast else .drive
  | .coast => .coast
  | .brake => .brake
  | .hold | .park => if standstill then .hold else .brake
  | .lineLoss => .lineLoss
  | .emergency => .emergency

/-- R110: the acceleration served. -/
def accelFor (m : EffMode) (rearm standstill : Bool) (g : Option Governing) : Option Int :=
  match m with
  | .drive => if rearm then none else g.map (·.accel)
  | .coast => none
  | .brake => g.map (·.accel)
  | .hold | .park => if standstill then none else some (-1200)
  | .lineLoss => some (-1200)
  | .emergency => some (-2800)

/-- Both axle demands set to 0 (R110). -/
def zeroDemands (s : Station) : Station :=
  { s with blend := { s.blend with axles :=
      ⟨{ s.blend.axles.a with electric := 0, friction := 0 }, { s.blend.axles.b with electric := 0, friction := 0 }⟩ } }

/-- The modes in which the track brake may stay down (R120). -/
def mtbMode (m : EffMode) : Bool := m == .brake || m == .lineLoss || m == .emergency

/-- R120, R121: the track brake acts on a change of effective mode at the evaluation. -/
def mtbRespond (former : EffMode) (s : Station) : Station :=
  if s.blend.effMode = former then s
  else if mtbMode s.blend.effMode = false then commandUp s
  else if s.blend.effMode = .emergency then
    let s1 := { s with blend := { s.blend with escalation := none, release := none } }
    if emergencyDown s1 then commandDown s1 else s1
  else s

/-- The modes published by an evaluation. -/
def publishModes (arrival : Bool) (s : Station) : Station :=
  let m := nextEffMode s
  let rearm := nextRearm arrival s.blend m
  { s with blend := { s.blend with
      effMode := m
      rearm := rearm
      served := servedFor m rearm s.hold.standstill
      accel := accelFor m rearm s.hold.standstill s.blend.governing } }

/-- R110, R136: a change of effort sense zeroes the axle demands and lapses every APPLIED take. -/
def senseRespond (former : EffortSense) (s : Station) : Station :=
  if effortSense s = former then s else lapseAll (zeroDemands s)

/-- R106: an evaluation of the effective mode, with what acts on it at the same event. -/
def evaluate (arrival : Bool) (s : Station) : Station :=
  holdRespond (mtbRespond s.blend.effMode (senseRespond (effortSense s) (publishModes arrival s)))

/-! ## Standstill (R142, R152, R54) -/

/-- R152: ROLLBACK ends in HOLDING, as the hold unit hands it over at that sample. -/
def endRollback (s : Station) : Station :=
  enterHolding { s with hold := { s.hold with shown := .holding } }

/-- Standstill begins: ROLLBACK ends, the blend unit evaluates, the position unit takes a pending change. -/
def beginStandstill (s : Station) : Station :=
  let s1 := { s with hold := { s.hold with standstill := true } }
  let s2 := if s1.hold.state = .rollback then endRollback s1 else s1
  takePending (evaluate false s2)

/-- Standstill ends, with its announcement to the blend unit. -/
def endStandstill (s : Station) : Station :=
  evaluate false { s with hold := { s.hold with standstill := false, stillTime := none } }

/-! ## PARKED (R154, R155) and ROLLBACK (R151) -/

/-- R154: the life state becomes PARKED: a running save, and the edges counted afresh. The beacon is built by `announced`. The
park timer, which does not run in PARKED, is cleared: the model's choice (notes/assumptions/49.md). -/
def enterParked (s : Station) : Station :=
  requestSave { s with
    life := .parked
    hold := { s.hold with parkTime := none }
    axles := ⟨{ s.axles.a with wakeEdges := [] }, { s.axles.b with wakeEdges := [] }⟩ }

/-- R155: a PARKED station returns to RUN. -/
def rouse (s : Station) : Station := if s.life = .parked then { s with life := .run } else s

/-- R155, R166: the wake by an event between samples: RUN, with a STATUS built at once. -/
def wake : Station → Station := announced rouse

/-- R151: entry to ROLLBACK, reported with PARKED while PARKED, else with the cause given. Standstill ends with its
announcement when it held, and a PARKED station returns to RUN, whose STATUS `announced` builds. The hold state handed to
the port is ROLLBACK from here on (R152, R153; notes/assumptions/38.md). -/
def enterRollback (detail : FaultDetail) (s : Station) : Station :=
  let d := if s.life = .parked then .parked else detail
  let s1 := report .rollback none (some d) s
  let s2 := { s1 with hold := { s1.hold with
      state := .rollback, shown := .rollback, armed := false, levelPending := false, rollbackTime := none,
      hillSince := none, stillTime := none, friction := s1.hold.holdForce } }
  let s3 := if s2.hold.standstill then endStandstill s2 else s2
  rouse { s3 with hold := { s3.hold with armed := false } }

end Sys2Proof.Machine
end

