-- ==== Sys2Proof/Machine/HoldUnit.lean ====
section
/-! DEFINITION. The hold unit's part of a speed sample, in the order of R141. -/

namespace Sys2Proof.Machine

/-- R19: a condition timer at a sample, 5 ms later than the one before. -/
def runTimer (step : Nat) (holds : Bool) (t : Option Nat) : Option Nat :=
  if holds then
    match t with
    | none => some 0
    | some n => some (n + step)
  else none

/-- Whether a timer has reached a figure. -/
def reached (figure : Nat) : Option Nat → Bool
  | some n => decide (figure ≤ n)
  | none => false

/-! ## Step 1: standstill (R142) -/

/-- Standstill begins when its timer has reached 500 ms. -/
def standstillExpiry (s : Station) : Station :=
  if s.hold.standstill = false ∧ reached 500 s.hold.stillTime = true then beginStandstill s else s

/-- The standstill test of a sample. -/
def stillTest (s : Station) : Station :=
  let still := decide (s.ref.speed.natAbs < 30)
  if still then
    standstillExpiry { s with hold := { s.hold with stillTime := runTimer 5 true s.hold.stillTime } }
  else if s.hold.standstill then endStandstill s
  else { s with hold := { s.hold with stillTime := none } }

/-! ## Step 2: wheel wake (R155) -/

/-- The edges that arrived since the PARKED entry and within the last 2,000 ms. -/
def wakeCount (now : Millis) (a : AxleUnit) : Nat := (a.wakeEdges.filter fun t => age now t ≤ 2000).length

/-- More than 4 edges on one axle wake a PARKED station into ROLLBACK. -/
def wheelWake (s : Station) : Station :=
  if s.life = .parked ∧ (4 < wakeCount s.time s.axles.a ∨ 4 < wakeCount s.time s.axles.b) then
    enterRollback .parked s
  else s

/-! ## Step 3: rollback (R151) -/

/-- The states and modes in which the rollback test is made. -/
def rollbackTested (s : Station) : Bool :=
  s.hold.state != .rollback
    && (s.blend.effMode == .drive || s.blend.effMode == .coast || s.blend.effMode == .hold || s.blend.effMode == .park)

/-- ROLLBACK is entered when its timer has reached 200 ms. -/
def rollbackExpiry (s : Station) : Station :=
  if rollbackTested s = true ∧ reached 200 s.hold.rollbackTime = true then enterRollback .own s else s

/-- The lowest-numbered FRESH peer whose latest STATUS shows the rollback flag. -/
def flaggingPeer (s : Station) : Option Nat := ((freshPeers s).find? fun p => p.2.rollback).map (·.1)

/-- A peer's rollback flag puts a station that is not at standstill into ROLLBACK. -/
def peerRollback (s : Station) : Station :=
  if rollbackTested s = true ∧ s.hold.standstill = false then
    match flaggingPeer s with
    | some n => enterRollback (.peer n) s
    | none => s
  else s

/-- The rollback test of a sample. -/
def rollbackTest (s : Station) : Station :=
  let runs := rollbackTested s && decide (s.ref.speed < -150)
  let s1 := { s with hold := { s.hold with rollbackTime := runTimer 5 runs s.hold.rollbackTime } }
  peerRollback (rollbackExpiry s1)

/-! ## Step 4: the rules of the hold state -/

/-- R145: the hold state becomes FREE; a PARKED station returns to RUN (R155). -/
def releaseForward (s : Station) : Station :=
  if s.hold.state = .holding ∧ s.hold.standstill = false ∧ 30 ≤ s.ref.speed then
    rouse { s with hold := { s.hold with state := .free } }
  else s

/-- R145: traction appears in the own demands or, without a usable inverter, in the tram sums. -/
def tractionAppears (s : Station) : Bool :=
  match inverterUsable s with
  | some _ =>
    effortSense s == .traction && (decide (0 < s.blend.axles.a.electric) || decide (0 < s.blend.axles.b.electric))
  | none => decide (0 < tramTraction s) && decide (tramNeed s ≤ tramTraction s)

/-- R145: a level start pending since before this sample ends when traction appears. -/
def levelStart (wasPending : Bool) (s : Station) : Station :=
  if wasPending = true ∧ s.hold.levelPending = true ∧ tractionAppears s = true then
    { s with hold := { s.hold with levelPending := false, state := .free } }
  else s

/-- R148: the own gravity need with the rise as it stands, signed. -/
def signedNeed (s : Station) : Int := ((s.blend.mass : Int) * 9807 * riseHere s).tdiv 1000000

/-- R148: the hold friction per axle on a MOTOR station with a usable inverter. -/
def motorFriction (force : Nat) (need : Int) (achieved : Nat) : Nat :=
  if need ≤ achieved then 0 else force * (need.toNat - achieved) / need.toNat

/-- R148, R149: the hand-over of a sample in HILL_START. A MOTOR station that R149 has released and whose inverter then becomes
usable again in the same stay falls under R148, which forms the friction afresh: the model's choice
(notes/assumptions/39.md). -/
def handOver (s : Station) : Station :=
  match inverterUsable s with
  | some _ =>
    { s with hold := { s.hold with friction := motorFriction s.hold.holdForce (signedNeed s) (ownTraction s) } }
  | none =>
    let released := s.hold.trailerReleased || decide (tramNeed s ≤ tramTraction s)
    { s with hold := { s.hold with
        trailerReleased := released, friction := if released then 0 else s.hold.holdForce } }

/-- Whether a station in HILL_START is released (R148, R149). -/
def hillReleased (s : Station) : Bool :=
  match inverterUsable s with
  | some _ => s.hold.friction == 0
  | none => s.hold.trailerReleased

/-- R148 to R150: hill-start release and completion. -/
def hillSample (s : Station) : Station :=
  if s.hold.state = .hillStart then
    let s1 := handOver s
    if hillReleased s1 = true ∧ 100 < s1.ref.speed then
      { s1 with hold := { s1.hold with state := .free, hillSince := none } }
    else s1
  else s

/-- R154: PARKED is entered when the park timer has reached 2,000 ms. -/
def parkExpiry (s : Station) : Station :=
  if s.life = .run ∧ reached 2000 s.hold.parkTime = true then enterParked s else s

/-- R154: the park timer of a sample. -/
def parkTest (s : Station) : Station :=
  let runs := s.life == .run && s.blend.effMode == .park && s.hold.standstill && s.hold.state == .holding
  parkExpiry { s with hold := { s.hold with parkTime := runTimer 5 runs s.hold.parkTime } }

/-! ## Step 5: hold force and published figures (R144, R153) -/

/-- R144: the hold force per axle. -/
def holdForceOf (figs : Commissioning) (mass rise : Nat) : Nat :=
  min (max (gravityLoad mass rise * 1300 / 1000 / 2) 8000) (min figs.frictionMax figs.axleMax)

/-- The hold friction that step 5 composes: the hold force while the bogie is held, 0 in FREE, where the
unit composes none (the model's choice, notes/assumptions/48.md), and in HILL_START what the hand-over left, or the hold force
on a station that waits for the tram's sums. -/
def composedFriction (s : Station) (force : Nat) : Nat :=
  match s.hold.state with
  | .holding | .rollback => force
  | .free => 0
  | .hillStart =>
    match inverterUsable s with
    | some _ => s.hold.friction
    | none => if s.hold.trailerReleased then 0 else force

/-- Step 5 of the hold unit. -/
def holdPublish (s : Station) : Station :=
  let force := holdForceOf s.figs s.blend.mass (riseHere s).natAbs
  { s with hold := { s.hold with
      holdForce := force
      friction := composedFriction s force
      shown := s.hold.state
      achieved := ownTraction s
      need := ownNeed s } }

/-- R141: the hold unit's part of a sample. -/
def holdSample (s : Station) : Station :=
  let s3 := rollbackTest (wheelWake (stillTest s))
  holdPublish (parkTest (hillSample (levelStart s.hold.levelPending (releaseForward s3))))

/-- R150: the hill-start timer has reached 3,000 ms. -/
def hillStartExpiry (s : Station) : Station :=
  match s.hold.state, s.hold.hillSince with
  | .hillStart, some t =>
    if 3000 ≤ age s.time t then enterHolding (report .hillStartFailed none none s) else s
  | _, _ => s

end Sys2Proof.Machine
end

