-- ==== Sys2Proof/Machine/AxleSpeed.lean ====
section
/-! DEFINITION. The axle speed unit: edges (R1), axle speeds (R2 to R4), sensor failure outside braking (R17), candidates
and the reference (R6 to R13), diameter trim learning (R14, R15). -/

namespace Sys2Proof.Machine

/-- The station with the axle unit of an axle replaced. -/
def setAxle (s : Station) (x : Axle) (a : AxleUnit) : Station := { s with axles := put s.axles x a }

/-! ## Edges (R1) -/

/-- An edge joins the record as its newest, the oldest leaving a record of 32; the silence timer is 0. -/
def edge (x : Axle) (toEnd1 : Bool) (s : Station) : Station :=
  let a := pick s.axles x
  setAxle s x { a with
    edges := ⟨s.timeUs, toEnd1⟩ :: a.edges.take 31
    quietSince := s.time
    edgeSeen := true
    wakeEdges := if s.life = .parked then s.time :: a.wakeEdges.take 31 else a.wakeEdges }

/-! ## Axle speed (R2, R3) -/

/-- R2: the pulse distance in µm. -/
def pulseDistance (diameter : Nat) (trim : Int) (teeth : Nat) : Int :=
  (((diameter + trim) * 314159).tdiv 1000).tdiv teeth

/-- R3: the run of edges that continues the newest: same direction, no more than 100,000 µs old. -/
def continues (now : Micros) (dir : Bool) : List Edge → List Edge
  | [] => []
  | e :: es => if e.toEnd1 = dir ∧ age now e.stamp ≤ 100000 then e :: continues now dir es else []

/-- R3: the usable run, newest first. -/
def usableRun (now : Micros) : List Edge → List Edge
  | [] => []
  | e :: es => if age now e.stamp ≤ 100000 then e :: continues now e.toEnd1 es else []

/-- R3: the axle speed of a usable run and whether it is LOW_SPEED. -/
def speedOfRun (pulse : Int) (run : List Edge) : Int × Bool :=
  match run, run.getLast? with
  | e :: _ :: _, some o =>
    let t : Int := max 1 (age e.stamp o.stamp)
    let v := min 25000 ((((run.length - 1 : Nat) : Int) * pulse * 1000).tdiv t)
    (if e.toEnd1 then v else -v, false)
  | _, _ => (0, true)

/-- R4: a speed in the travel sense. -/
def forwardOf (e : CabEnd) (v : Int) : Int :=
  match e with
  | .end1 => v
  | .end2 => -v

/-- Steps 1 and 2 for one axle. -/
def axleSample (x : Axle) (s : Station) : Station :=
  let a := pick s.axles x
  let r := speedOfRun (pulseDistance (pick s.figs.diameter x) a.trim s.figs.teeth) (usableRun s.timeUs a.edges)
  setAxle s x { a with speed := r.1, forward := forwardOf s.pos.leadingEnd r.1, lowSpeed := r.2 }

/-- R4, step 1: after a change of leading end the reference and the last accepted change are negated. -/
def negateReference (s : Station) : Station :=
  if s.ref.heldFor = s.pos.leadingEnd then s
  else { s with ref := { s.ref with
      speed := -s.ref.speed, lastChange := -s.ref.lastChange, heldFor := s.pos.leadingEnd } }

/-! ## Sensor failure outside braking (R17) -/

/-- The served modes in which R17 declares. -/
def outsideBraking (s : Station) : Bool :=
  (s.blend.served == .drive || s.blend.served == .coast || s.blend.served == .hold) && s.hold.state != .rollback

/-- The condition of R17 for an axle. -/
def sensorSilent (s : Station) (x : Axle) : Bool :=
  let a := pick s.axles x
  let p := pick s.axles (otherAxle x)
  a.sensor == .ok && decide (1000 ≤ age s.time a.quietSince) && p.sensor == .ok && decide (2000 < p.speed.natAbs)
    && outsideBraking s

/-- R41: the own timers, creep history and re-slip history of a failed axle are cleared at the sample of failure. -/
def clearMachine (c : AxleCreep) : AxleCreep :=
  { c with stateTime := 0, history := [], calm := none, lock := none, release := none, wheelLock := false,
           slipReported := false, reslips := [] }

/-- An axle's sensor status becomes SENSOR_FAILED and SPEED_SENSOR is reported (R17, R44). -/
def failSensor (x : Axle) (s : Station) : Station :=
  let s1 := setAxle s x { pick s.axles x with sensor := .failed, candidate := false }
  report .speedSensor (some x) none { s1 with creep := put s1.creep x (clearMachine (pick s1.creep x)) }

/-- R17 for an axle. -/
def sensorSilence (x : Axle) (s : Station) : Station := if sensorSilent s x then failSensor x s else s

/-! ## Candidates and selection (R6 to R8) -/

/-- R6: whether an own axle is a candidate. -/
def ownCandidate (s : Station) (x : Axle) : Bool :=
  let c := (pick s.creep x).state
  (pick s.axles x).sensor == .ok && (c == .adhering || c == .regulating)

/-- The own candidates' forward speeds. -/
def ownCandidates (s : Station) : List Int :=
  (if ownCandidate s .a then [s.axles.a.forward] else []) ++ (if ownCandidate s .b then [s.axles.b.forward] else [])

/-- R7: the up to two candidates of one peer. -/
def candidatesOf (c : StatusContent) : List Int :=
  (if c.candidate.a then [c.forward.a] else []) ++ (if c.candidate.b then [c.forward.b] else [])

/-- R7: the peers' candidates. -/
def peerCandidates (s : Station) : List Int := (freshPeers s).flatMap fun p => candidatesOf p.2

/-- The candidate set, equal values kept as separate members. -/
def candidateSet (s : Station) : List Int := ownCandidates s ++ peerCandidates s

/-- A value put in its place in ascending order. -/
def insertAscending (v : Int) : List Int → List Int
  | [] => [v]
  | x :: xs => if v ≤ x then v :: x :: xs else x :: insertAscending v xs

/-- The values in ascending order. -/
def ascending : List Int → List Int
  | [] => []
  | x :: xs => insertAscending x (ascending xs)

/-- R8: the lower median, the member at place (n + 1) / 2 counting from 1. -/
def lowerMedian (l : List Int) : Int := (ascending l).getD ((l.length + 1) / 2 - 1) 0

def smallest (l : List Int) : Int := (ascending l).headD 0

def largest (l : List Int) : Int := (ascending l).getLastD 0

/-- R8: the selected candidate; the first matching row governs. -/
def selectCandidate (hold : HoldState) (served : ServedMode) (l : List Int) : Int :=
  match hold with
  | .rollback | .hillStart => smallest l
  | .free | .holding =>
    match served with
    | .drive => smallest l
    | .brake | .lineLoss | .emergency => largest l
    | .coast | .hold => lowerMedian l

/-! ## Rate limits (R9) -/

/-- G of R9, and the slope term of R113. -/
def slopeTerm (rise : Int) : Int := (9807 * rise).tdiv 1000

def upLimit (s : Station) : Int := max 1 (((s.figs.aTracMax - slopeTerm (riseHere s)) * 5).tdiv 1000)

def downLimit (s : Station) : Int := max 1 (((s.figs.aBrakeMax + slopeTerm (riseHere s)) * 5).tdiv 1000)

/-! ## The reference (R10 to R13) -/

/-- R13: a seeding sample. -/
def seedReference (v : Int) (r : Reference) : Reference :=
  { r with speed := v, status := .tracking, lastChange := 0, extrapTime := 0, capApplied := false }

/-- R10: the signed change of a TRACKING sample. -/
def trackChange (up down ref v : Int) : Int := max (-down) (min up (v - ref))

/-- R10: a TRACKING sample with a candidate; the result stays within −25,000 to +25,000. -/
def trackReference (up down v : Int) (r : Reference) : Reference :=
  let w := clampInt (-25000) 25000 (r.speed + trackChange up down r.speed v)
  { r with speed := w, lastChange := w - r.speed, extrapTime := 0 }

/-- R11: the reference continues its slope; it stops at 0 and never reverses (notes/assumptions/9.md). -/
def extrapolate (up down : Int) (r : Reference) : Reference :=
  let d := max (-down) (min up r.lastChange)
  let v := r.speed + d
  if (0 < r.speed ∧ 0 < v) ∨ (r.speed < 0 ∧ v < 0) then { r with speed := clampInt (-25000) 25000 v, lastChange := d }
  else { r with speed := 0, lastChange := 0 }

/-- R11, R12: the extrapolation budget of 400 ms is spent. -/
def budgetSpent (s : Station) : Station :=
  if s.ref.status = .extrapolating ∧ 400 ≤ s.ref.extrapTime then
    report .referenceUncertain none none
      { s with ref := { s.ref with status := .uncertain, lastChange := 0, capApplied := true } }
  else s

/-- R10 to R12: a sample without a candidate. In UNCERTAIN the extrapolation time stands at the 400 ms that ended the budget,
the model's choice (notes/assumptions/41.md). -/
def moveWithout (s : Station) : Station :=
  match s.ref.status with
  | .unseeded | .uncertain => s
  | .tracking =>
    { s with ref := extrapolate (upLimit s) (downLimit s) { s.ref with status := .extrapolating, extrapTime := 0 } }
  | .extrapolating =>
    let r := { s.ref with extrapTime := s.ref.extrapTime + 5 }
    if r.extrapTime < 400 then { s with ref := extrapolate (upLimit s) (downLimit s) r }
    else budgetSpent { s with ref := r }

/-- R13: whether a sample with a candidate seeds the reference. -/
def seeds (s : Station) : Bool := s.ref.status != .tracking && !(candidateSet s).isEmpty

/-- Step 4 of a sample. -/
def moveReference (s : Station) : Station :=
  let l := candidateSet s
  if l.isEmpty then moveWithout s
  else
    let v := selectCandidate s.hold.state s.blend.served l
    if s.ref.status = .tracking then { s with ref := trackReference (upLimit s) (downLimit s) v s.ref }
    else { s with ref := seedReference v s.ref }

/-! ## Trim learning (R14, R15) -/

/-- R14: the learning conditions for the station. -/
def learningHolds (s : Station) : Bool :=
  s.blend.served == .coast && s.hold.state == .free && s.ref.status == .tracking
    && decide (4000 ≤ s.ref.speed) && decide (s.ref.speed ≤ 11000)
    && s.pos.state != .lost && decide ((riseHere s).natAbs < 10)
    && decide (3 ≤ (peerCandidates s).length)

/-- R14: the sense in which an axle deviates from the median. -/
def deviationOf (forward m : Int) : Option Deviation :=
  if 0 < m then
    let d := ((forward - m) * 1000).tdiv m
    if 2 < d then some .high else if d < -2 then some .low else none
  else none

/-- R14: an axle's deviation at a sample, none where the conditions fail or the axle is no candidate. -/
def learningSense (s : Station) (x : Axle) : Option Deviation :=
  if learningHolds s && ownCandidate s x then deviationOf (pick s.axles x).forward (lowerMedian (candidateSet s)) else none

/-- R14: the trim learning timer at a sample. -/
def advanceLearning (d : Option Deviation) (a : AxleUnit) : AxleUnit :=
  match d with
  | none => { a with learnTime := 0, learnSense := none }
  | some v =>
    if a.learnSense = some v then { a with learnTime := a.learnTime + 5 }
    else { a with learnTime := 0, learnSense := some v }

/-- R15: one step of the trim toward agreement, within −80 to +80. -/
def stepTrim (d : Deviation) (trim : Int) : Int :=
  match d with
  | .high => if -80 < trim then trim - 1 else trim
  | .low => if trim < 80 then trim + 1 else trim

/-- R15: a timer that has reached 2,000 ms moves the trim and restarts, keeping its sense. -/
def trimExpiry (x : Axle) (s : Station) : Station :=
  let a := pick s.axles x
  match a.learnSense with
  | some d => if 2000 ≤ a.learnTime then setAxle s x { a with trim := stepTrim d a.trim, learnTime := 0 } else s
  | none => s

/-- Step 5 of a sample for one axle. -/
def learnSample (x : Axle) (s : Station) : Station :=
  trimExpiry x (setAxle s x (advanceLearning (learningSense s x) (pick s.axles x)))

/-- Step 7 of a sample: the own candidate flags from the creep states just left. -/
def flagCandidates (s : Station) : Station :=
  { s with axles :=
      ⟨{ s.axles.a with candidate := ownCandidate s .a, edgeSeen := false },
       { s.axles.b with candidate := ownCandidate s .b, edgeSeen := false }⟩ }

end Sys2Proof.Machine
end

