-- ==== Sys2Proof/Machine/MakeUp.lean ====
section
/-! DEFINITION. The make-up unit (chapter 7): step 4 of a blend event, the lapse of a take on a STATUS arrival, and the
withdrawal of a duplicate station number. -/

namespace Sys2Proof.Machine

/-! ## Standing (R123) -/

/-- R123: the served modes in which the unit may be ACTIVE. -/
def takesPart : ServedMode → Bool
  | .drive | .brake | .lineLoss => true
  | .coast | .hold | .emergency => false

/-- R123: the standing of a blend event. -/
def standingOf (s : Station) : Standing :=
  if s.makeUp.withdrawn then .withdrawn
  else if takesPart s.blend.served && (s.hold.state == .free || s.hold.state == .hillStart) then .active
  else .stoodDown

/-! ## Generation (R125) -/

/-- R125: whether the generation moves on. -/
def movesOn (shortfall genShortfall : Nat) : Bool :=
  decide (500 < shortfall - genShortfall) || decide (500 < genShortfall - shortfall)
    || ((shortfall == 0) != (genShortfall == 0))

/-- R125: the generation settled against a shortfall. -/
def settleGeneration (shortfall : Nat) (m : MakeUp) : MakeUp :=
  if movesOn shortfall m.genShortfall then
    { m with generation := (m.generation + 1) % 256, genShortfall := shortfall }
  else m

/-! ## Covered (R127) -/

/-- R127: the amount a peer's published takes give this station at its present generation. -/
def takeOn (number generation : Nat) (c : StatusContent) : Nat :=
  match c.takes.find? fun t => t.peer == number && t.generation == generation with
  | some t => t.amount
  | none => 0

/-- R127: the covered figure. -/
def coveredNow (s : Station) : Nat :=
  ((matchingPeers s).map fun p => takeOn s.plug.number.val s.makeUp.generation p.2).sum

/-! ## Takes (R129 to R132) -/

/-- R130, R131: the take on a short peer. -/
def takeAmount (spare q t : Nat) (c : StatusContent) : Nat :=
  let amount := shortfallOf c * spare / max q t
  if shortfallOf c < c.covered then amount * shortfallOf c / c.covered else amount

/-- R129: T, the shortfall to be covered. -/
def totalShort (peers : List (Nat × StatusContent)) : Nat := (peers.map fun p => shortfallOf p.2).sum

/-- R129: Q, the spare that could cover it. -/
def totalSpare (own : Nat) (peers : List (Nat × StatusContent)) : Nat := own + (peers.map fun p => spareOf p.2).sum

/-- R129 to R132: the takes list of a blend event with an own spare, in ascending order of peer. -/
def formTakes (spare : Nat) (peers : List (Nat × StatusContent)) : List Take :=
  let t := totalShort peers
  let q := totalSpare spare peers
  peers.filterMap fun p =>
    let amount := takeAmount spare q t p.2
    if amount = 0 then none else some ⟨p.1, p.2.generation, amount, true⟩

/-! ## Step 4 -/

/-- R124 to R132, R139: step 4 with standing ACTIVE. -/
def activeStep (s : Station) : Station :=
  let short := s.blend.nominal - s.blend.capability
  let spare := s.blend.capability - s.blend.nominal
  let s1 := { s with makeUp := settleGeneration short { s.makeUp with standing := .active, shortfall := short, spare := spare } }
  let covered := coveredNow s1
  { s1 with makeUp := { s1.makeUp with
      covered := covered
      residual := short - covered
      escResidual := short - covered
      takes := formTakes spare (matchingPeers s1) } }

/-- R137, R138: step 4 with standing STOOD DOWN or WITHDRAWN, handing over an escalation residual. -/
def idleStep (standing : Standing) (esc : Nat) (s : Station) : Station :=
  { s with makeUp := { settleGeneration 0 s.makeUp with
      standing := standing, shortfall := 0, spare := 0, covered := 0, residual := 0, escResidual := esc, takes := [] } }

/-- Step 4 of a blend event. -/
def makeUpStep (s : Station) : Station :=
  match standingOf s with
  | .active => activeStep s
  | .stoodDown => idleStep .stoodDown 0 s
  | .withdrawn => idleStep .withdrawn (s.blend.nominal - s.blend.capability) s

/-! ## Between blend events -/

/-- R133: whether an arriving STATUS shows a take on its sender out of date. -/
def outdated (s : Station) (c : StatusContent) (t : Take) : Bool :=
  c.generation != t.generation || shortfallOf c == 0 || senseOf c.served != effortSense s || senseOf c.served == .none

/-- R133: a STATUS arrival lapses an outdated take on its sender. -/
def lapseOutdated (peer : Nat) (c : StatusContent) (s : Station) : Station :=
  { s with makeUp := { s.makeUp with takes := lapseWhere (fun t => t.peer == peer && outdated s c t) s.makeUp.takes } }

/-- R138: the unit withdraws until the next start. -/
def withdrawUnit (s : Station) : Station :=
  { s with makeUp := { s.makeUp with withdrawn := true, standing := .withdrawn, takes := [] } }

end Sys2Proof.Machine
end

