-- ==== Sys2Proof/Machine/Blend.lean ====
section
/-! DEFINITION. The blend event (R111 to R117), the track brake (R118 to R121), and the governing request (R105). -/

namespace Sys2Proof.Machine

/-! ## Step 1: the track brake (R118, R120, R121) -/

/-- The force of the track brake, N (chapter 6, "Fixed in the part"). -/
def mtbForce : Nat := 50000

/-- BRAKE or LINE_LOSS, the modes of escalation and release. -/
def escalationMode (m : EffMode) : Bool := m == .brake || m == .lineLoss

/-- R118: the escalation condition. -/
def escalationCondition (s : Station) : Bool :=
  decide (1500 < s.ref.speed) && decide (150 * s.blend.nominalView < s.blend.residualView * 1000)

/-- R120: the release condition. -/
def releaseCondition (s : Station) : Bool :=
  s.blend.residualView == 0 || decide (s.blend.residualView * 1000 < 50 * s.blend.nominalView)

/-- R118: the escalation timer has reached 1,000 ms. -/
def escalationExpiry (s : Station) : Station :=
  if s.plug.trackBrake = true ∧ s.blend.mtb = .up ∧ escalationMode s.blend.effMode = true ∧ reached 1000 s.blend.escalation = true then
    commandDown s
  else s

/-- R118: the escalation test of a blend event with the track brake UP. -/
def escalationTest (s : Station) : Station :=
  escalationExpiry { s with blend := { s.blend with
    release := none
    escalation := runTimer 20 (s.plug.trackBrake && escalationCondition s) s.blend.escalation } }

/-- R120: the release timer has reached 2,000 ms. -/
def mtbReleaseExpiry (s : Station) : Station :=
  if s.blend.mtb ≠ .up ∧ escalationMode s.blend.effMode = true ∧ reached 2000 s.blend.release = true then commandUp s else s

/-- R120: the release test of a blend event with the track brake commanded. -/
def releaseTest (s : Station) : Station :=
  if s.ref.speed < 800 then commandUp s
  else
    mtbReleaseExpiry { s with blend := { s.blend with
      escalation := none, release := runTimer 20 (releaseCondition s) s.blend.release } }

/-- Both timers clear. -/
def clearMtbTimers (s : Station) : Station := { s with blend := { s.blend with escalation := none, release := none } }

/-- R121: the test of a blend event in EMERGENCY. -/
def emergencyTest (s : Station) : Station :=
  if emergencyDown s then commandDown s
  else if s.ref.speed ≤ 300 ∧ s.blend.mtb ≠ .up then commandUp s
  else clearMtbTimers s

/-- Step 1 of a blend event. -/
def trackBrakeStep (s : Station) : Station :=
  match s.blend.effMode with
  | .brake | .lineLoss => if s.blend.mtb = .up then escalationTest s else releaseTest s
  | .emergency => emergencyTest s
  | .drive | .coast | .hold | .park => clearMtbTimers s

/-! ## Steps 2 and 3: mass, nominal force, capability (R112 to R114) -/

/-- R112: the station mass. -/
def massStep (s : Station) : Station := { s with blend := { s.blend with mass := s.link.loads.a + s.link.loads.b } }

/-- R113, step 2: the force F of a mass, an acceleration and a rise. -/
def forceOf (mass : Nat) (accel rise : Int) : Int := (mass * (accel + slopeTerm rise)).tdiv 1000

/-- R113, step 3: the magnitude of F clamped by the served mode. -/
def clampedForce (served : ServedMode) (f : Int) : Nat :=
  match served with
  | .drive => f.toNat
  | .brake | .lineLoss | .emergency => (-f).toNat
  | .coast | .hold => 0

/-- R113: the nominal force. -/
def nominalForce (s : Station) : Nat :=
  min (clampedForce s.blend.served (forceOf s.blend.mass (s.blend.accel.getD 0) (riseHere s))) (2 * s.figs.axleMax)

/-- R114: the electric traction capability counted for an axle. -/
def electricTraction (s : Station) (x : Axle) : Nat :=
  match inverterUsable s with
  | some r => pick r.tractionCap x
  | none => 0

/-- R114: the electric brake capability counted for an axle. -/
def electricBrake (s : Station) (x : Axle) : Nat :=
  match inverterUsable s with
  | some r => pick r.brakeCap x
  | none => 0

/-- R114: the friction maximum counted. -/
def frictionCounted (s : Station) : Nat := if brakeUsable s then s.figs.frictionMax else 0

/-- R114: the capability of an axle. -/
def axleCapability (s : Station) (x : Axle) : Nat :=
  match effortSense s with
  | .traction => min (pick s.creep x).limit (electricTraction s x)
  | .braking => min (pick s.creep x).limit (electricBrake s x + frictionCounted s)
  | .none => 0

/-- R114: what the track brake adds to the capability. -/
def mtbCounted (s : Station) : Nat := if effortSense s = .braking ∧ s.blend.mtb = .down then mtbForce else 0

/-- R113, R114: step 3 of a blend event. -/
def forceStep (s : Station) : Station :=
  let ca := axleCapability s .a
  let cb := axleCapability s .b
  { s with blend := { s.blend with
      nominal := nominalForce s
      capNoMtb := ca + cb
      capability := ca + cb + mtbCounted s
      axles := ⟨{ s.blend.axles.a with capability := ca }, { s.blend.axles.b with capability := cb }⟩ } }

/-! ## Step 5: station demand and tram views (R115, R118) -/

/-- R115: the station demand. -/
def stationDemand (s : Station) : Nat :=
  match effortSense s with
  | .traction | .braking => min (min s.blend.nominal s.blend.capability + appliedSum s.makeUp.takes) s.blend.capability
  | .none => 0

/-- R118: the own escalation residual of the residual view. -/
def ownEscalation (s : Station) : Nat :=
  match s.blend.mtb with
  | .down => s.blend.nominal - s.blend.capNoMtb - s.makeUp.covered
  | .up | .lowering | .unconfirmed => s.makeUp.escResidual

/-- Step 5 of a blend event. -/
def demandStep (s : Station) : Station :=
  { s with blend := { s.blend with
      demand := stationDemand s
      residualView := ownEscalation s + ((matchingPeers s).map fun p => residualOf p.2).sum
      nominalView := s.blend.nominal + ((matchingPeers s).map fun p => p.2.nominal).sum } }

/-! ## Step 6: split and blend (R116, R117) -/

/-- R116: the share of an axle from its half and capability and the other axle's. -/
def shareOf (half cap otherHalf otherCap : Nat) : Nat :=
  let own := min half cap
  own + min (otherHalf - otherCap) (cap - own)

/-- R116: the axle total. -/
def axleTotal (s : Station) : Nat := s.blend.demand - mtbCounted s

/-- R116: an axle's half; the leading axle takes the odd newton. -/
def halfOf (s : Station) (x : Axle) : Nat := if leads s x then (axleTotal s + 1) / 2 else axleTotal s / 2

/-- R116: the share of an axle. -/
def axleShare (s : Station) (x : Axle) : Nat :=
  shareOf (halfOf s x) (pick s.blend.axles x).capability (halfOf s (otherAxle x)) (pick s.blend.axles (otherAxle x)).capability

/-- R117: the electric part of a share. -/
def electricPart (s : Station) (x : Axle) (share : Nat) : Nat :=
  match effortSense s with
  | .traction => share
  | .braking => min share (electricBrake s x)
  | .none => 0

/-- R117: the friction part of a share. -/
def frictionPart (s : Station) (x : Axle) (share : Nat) : Nat :=
  match effortSense s with
  | .braking => share - electricPart s x share
  | .traction | .none => 0

/-- R116, R117: what step 6 makes of an axle. -/
def blendAxle (s : Station) (x : Axle) : AxleBlend :=
  let share := axleShare s x
  { pick s.blend.axles x with share := share, electric := electricPart s x share, friction := frictionPart s x share }

/-- Step 6 of a blend event. -/
def splitStep (s : Station) : Station := { s with blend := { s.blend with axles := ⟨blendAxle s .a, blendAxle s .b⟩ } }

/-- R111: the blend event. -/
def blendEvent (s : Station) : Station :=
  let s1 := trackBrakeStep { s with blend := { s.blend with lastBlend := s.time } }
  splitStep (demandStep (makeUpStep (forceStep (massStep s1))))

/-! ## Track brake confirmation (R119) -/

/-- R119: the lowering timer has reached 500 ms; it stops, and reads as stopped from then on (notes/assumptions/47.md). -/
def loweringExpiry (s : Station) : Station :=
  match s.blend.mtb, s.blend.loweringSince with
  | .lowering, some t =>
    if 500 ≤ age s.time t then
      report .mtbNotDown none none { s with blend := { s.blend with mtb := .unconfirmed, loweringSince := none } }
    else s
  | _, _ => s

/-- R119: a delivery of the shoe-down sensor reaches the unit; a confirmation stops the lowering timer, which reads as stopped
from then on (notes/assumptions/47.md). -/
def shoeDelivered (level : ShoeLevel) (s : Station) : Station :=
  match s.blend.mtb, level with
  | .lowering, .down | .unconfirmed, .down =>
    { s with blend := { s.blend with mtb := .down, loweringSince := none } }
  | .down, .notDown => report .mtbNotDown none none { s with blend := { s.blend with mtb := .unconfirmed } }
  | .up, _ | .lowering, .notDown | .unconfirmed, .notDown | .down, .down => s

/-! ## The governing request (R105) -/

/-- R105: the acceleration request as it is taken. -/
def clampRequest (a : Int) : Int := clampInt (-3500) 1500 a

/-- R105: a request as the unit keeps it. -/
def requestOf (c : CabEnd) (r : DemandRec) : Governing := ⟨c, r.content.mode, clampRequest r.content.accel⟩

/-- R105: the place of a mode in the order BRAKE, HOLD, PARK, COAST, DRIVE. -/
def modeRank : DemandMode → Nat
  | .brake => 0
  | .hold => 1
  | .park => 2
  | .coast => 3
  | .drive => 4

/-- R105: of two current requests the one that governs; `new` is that of the frame just arrived. -/
def governs (new old : Governing) : Governing :=
  if old.accel < new.accel then old
  else if new.accel < old.accel then new
  else if modeRank old.mode < modeRank new.mode then old
  else new

/-- R105: the governing request is settled at a DEMAND arrival from a cab. -/
def settleGoverning (cab : CabEnd) (s : Station) : Station :=
  match currentDemand s cab, currentDemand s (otherEnd cab) with
  | some r, some o =>
    let s1 := { s with blend := { s.blend with
      governing := some (governs (requestOf cab r) (requestOf (otherEnd cab) o)), conflict := true } }
    if s.blend.conflict then s1 else report .demandConflict none none s1
  | some r, none => { s with blend := { s.blend with governing := some (requestOf cab r), conflict := false } }
  | none, some o => { s with blend := { s.blend with governing := some (requestOf (otherEnd cab) o), conflict := false } }
  | none, none => { s with blend := { s.blend with governing := none, conflict := false } }

end Sys2Proof.Machine
end

