-- ==== Sys2Proof/Machine/BogieLink.lean ====
section
/-! DEFINITION. The bogie link port (chapter 10): reports, silence and return of the plant units, axle loads, and the two
debounced inputs. -/

namespace Sys2Proof.Machine

/-! ## Reports (R173, R174, R176) -/

/-- R174: the inverter record after an accepted report. -/
def acceptInverter (now : Millis) (r : InverterReport) (u : InverterRec) : InverterRec :=
  match u.state with
  | .present => { u with report := some r, silentSince := now }
  | .lost =>
    if 3 ≤ u.returns + 1 then
      { u with state := .present, report := some r, silentSince := now, returns := 3, lossReported := false }
    else { u with report := some r, silentSince := now, returns := u.returns + 1 }

/-- R174: the brake unit record after an accepted report. -/
def acceptBrake (now : Millis) (r : BrakeReport) (u : BrakeRec) : BrakeRec :=
  match u.state with
  | .present => { u with report := some r, silentSince := now }
  | .lost =>
    if 3 ≤ u.returns + 1 then
      { u with state := .present, report := some r, silentSince := now, returns := 3, lossReported := false }
    else { u with report := some r, silentSince := now, returns := u.returns + 1 }

/-- R173: bytes arrive on the inverter channel; on a TRAILER station they are discarded. -/
def inverterReport (bytes : List Byte) (s : Station) : Station :=
  match s.plug.kind, decodeInverter bytes with
  | .motor, some r => { s with link := { s.link with inverter := acceptInverter s.time r s.link.inverter } }
  | _, _ => s

/-- R176: a reported load clamped to the range from empty to crush. -/
def clampLoad (figs : Commissioning) (kg : Nat) : Nat := max figs.emptyLoad (min figs.crushLoad kg)

/-- R176: the crush load on both axles. -/
def crushLoads (figs : Commissioning) : PerAxle Nat := ⟨figs.crushLoad, figs.crushLoad⟩

/-- R176: the axle loads handed to readers after a report. -/
def loadsAfter (figs : Commissioning) (r : BrakeReport) (u : BrakeRec) : PerAxle Nat :=
  match u.state with
  | .present => ⟨clampLoad figs r.load.a, clampLoad figs r.load.b⟩
  | .lost => crushLoads figs

/-- R173: bytes arrive on the brake unit channel. -/
def brakeReport (bytes : List Byte) (s : Station) : Station :=
  match decodeBrake bytes with
  | some r =>
    let u := acceptBrake s.time r s.link.brake
    { s with link := { s.link with brake := u, loads := loadsAfter s.figs r u } }
  | none => s

/-! ## Silence (R174) -/

/-- R174: the silence expiry has something to do: a loss, a return count to clear, or a loss still to report. -/
def silenceActs (now silentSince : Millis) (state : UnitState) (returns : Nat) (lossReported : Bool) : Bool :=
  decide (30 ≤ age now silentSince) &&
    match state with
    | .present => true
    | .lost => returns != 0 || !lossReported

/-- R174: the inverter's silence timer has reached 30 ms. -/
def inverterSilence (s : Station) : Station :=
  let u := s.link.inverter
  if silenceActs s.time u.silentSince u.state u.returns u.lossReported then
    let s1 := { s with link := { s.link with inverter := { u with state := .lost, returns := 0, lossReported := true } } }
    if u.state = .present ∨ u.lossReported = false then report .plantLinkLost none none s1 else s1
  else s

/-- R174, R176: the brake unit's silence timer has reached 30 ms. -/
def brakeSilence (s : Station) : Station :=
  let u := s.link.brake
  if silenceActs s.time u.silentSince u.state u.returns u.lossReported then
    let s1 := { s with link := { s.link with
      brake := { u with state := .lost, returns := 0, lossReported := true }, loads := crushLoads s.figs } }
    if u.state = .present ∨ u.lossReported = false then report .brakeUnitLost none none s1 else s1
  else s

/-- R174: the silence expiry of a unit. -/
def plantSilence (u : PlantUnit) (s : Station) : Station :=
  match u with
  | .inverter => inverterSilence s
  | .brakeUnit => brakeSilence s

/-! ## Debounced inputs (R178) -/

/-- R178: the raw level of the emergency loop; a change sets the debounce timer to 0. -/
def loopRaw (level : LoopLevel) (s : Station) : Station :=
  if s.link.loop.raw = level then s
  else { s with link := { s.link with loop := { s.link.loop with raw := level, changedAt := s.time } } }

/-- R178: the raw level of the shoe-down sensor. -/
def shoeRaw (level : ShoeLevel) (s : Station) : Station :=
  if s.link.shoe.raw = level then s
  else { s with link := { s.link with shoe := { s.link.shoe with raw := level, changedAt := s.time } } }

/-- R178: the loop is due for delivery. -/
def loopDue (s : Station) : Bool :=
  decide (10 ≤ age s.time s.link.loop.changedAt) && s.link.loop.delivered != some s.link.loop.raw

/-- R178: the shoe-down sensor is due for delivery. -/
def shoeDue (s : Station) : Bool :=
  decide (10 ≤ age s.time s.link.shoe.changedAt) && s.link.shoe.delivered != some s.link.shoe.raw

/-- R178, R155: the loop is delivered to the blend unit, and in PARKED to the hold unit, which wakes the station. -/
def loopDelivery (s : Station) : Station :=
  if loopDue s then
    wake (evaluate false { s with link := { s.link with
      loop := { s.link.loop with delivered := some s.link.loop.raw } } })
  else s

/-- R178: the shoe-down sensor is delivered; without the strap it is shown but not delivered to the blend unit. -/
def shoeDelivery (s : Station) : Station :=
  if shoeDue s then
    let s1 := { s with link := { s.link with shoe := { s.link.shoe with delivered := some s.link.shoe.raw } } }
    if s.plug.trackBrake then shoeDelivered s.link.shoe.raw s1 else s1
  else s

end Sys2Proof.Machine
end

