-- ==== Sys2Proof/Machine/Starts.lean ====
section
/-! DEFINITION. The start sequence (R182) and what each unit holds after a start (R18, R45, R62, R84, R104, R122, R140,
R156, R170, R179, R188), the loss of supply and the store's writes (R183). -/

namespace Sys2Proof.Machine

/-! ## What the units hold after a start -/

/-- R18, per axle. -/
def startAxle (now : Millis) (trim : Int) : AxleUnit :=
  { edges := [], speed := 0, forward := 0, lowSpeed := true, sensor := .ok, quietSince := now, edgeSeen := false,
    wakeEdges := [], trim := trim, learnTime := 0, learnSense := none, candidate := true }

/-- R18: the reference. -/
def startReference : Reference :=
  { speed := 0, status := .unseeded, lastChange := 0, extrapTime := 0, capApplied := true, heldFor := .end1 }

/-- R45, per axle. -/
def startCreep (figs : Commissioning) : AxleCreep :=
  { state := .adhering, limit := figs.axleMax, stateTime := 0, history := [], calm := none, lock := none, release := none,
    wheelLock := false, slipReported := false, peaks := [], reslips := [], ceiling := none, preLimit := none,
    electric := 0, friction := 0 }

/-- R62. -/
def startPosition : Position :=
  { station := 0, remainder := 0, reckoned := 0, state := .lost, leadingEnd := .end1, sense := .up, endTaken := false,
    change := none, lastTaken := none, attrStation := lostAttrs 0, attrLeading := lostAttrs 0,
    attrSander := ⟨lostAttrs 0, lostAttrs 0⟩ }

/-- R84. -/
def startMap (now : Millis) : RailMap := { entries := [], outbox := [], lastClear := none, lastSweep := now }

/-- R104, per sander. -/
def startSander (now : Millis) (box : Nat) : Sander :=
  { state := .closed, flowDelay := 0, fillBase := 0, pipe := 0, duty := 0, restOwed := false, rest := 0, dosing := none,
    interval := none, lastCell := none, box := box, emptyReported := false, valveOpen := false, advancedTo := now }

/-- No source. -/
def noSources : Sources :=
  { slip := false, preArm := false, driver := false, hillStart := false, rollback := false, emergency := false }

/-- R104, for the station; the first decision falls at the entry to RUN. -/
def startSanding (now : Millis) (boxes : PerAxle Nat) : Sanding :=
  { shownStates := ⟨.closed, .closed⟩, shownBoxes := boxes, slipHold := none, reslipHold := none, hillExpiry := none,
    aim := none, asks := noSources, admitted := noSources, demandOn := false, high := false, lastDecision := now - 5 }

/-- An axle of the blend unit at 0. -/
def zeroAxle : AxleBlend := { capability := 0, share := 0, electric := 0, friction := 0 }

/-- R122; the first blend event falls at the entry to RUN. -/
def startBlend (now : Millis) (figs : Commissioning) : Blend :=
  { governing := none, conflict := false, effMode := .lineLoss, rearm := true, served := .lineLoss, accel := some (-1200),
    mass := 2 * figs.crushLoad, nominal := 0, capability := 0, capNoMtb := 0, demand := 0, axles := ⟨zeroAxle, zeroAxle⟩,
    mtb := .up, contactorClosed := false, escalation := none, release := none, loweringSince := none, residualView := 0,
    nominalView := 0, lastBlend := now - 20 }

/-- R140. -/
def startMakeUp : MakeUp :=
  { withdrawn := false, standing := .stoodDown, shortfall := 0, spare := 0, generation := 0, genShortfall := 0,
    covered := 0, residual := 0, escResidual := 0, takes := [] }

/-- R156. -/
def startHold : Hold :=
  { state := .holding, standstill := false, stillTime := none, armed := true, levelPending := false, hillSince := none,
    trailerReleased := false, rollbackTime := none, parkTime := none, holdForce := 0, friction := 0, shown := .holding,
    achieved := 0, need := 0 }

/-- R170; the first STATUS is built as the station enters RUN. -/
def startPort (now : Millis) : Port :=
  { peers := List.replicate 8 ⟨.absent, none⟩, demands := ⟨none, none⟩, announced := false, heardAt := now,
    dupSeen := false, seqStatus := 0, seqRail := 0, seqClear := 0, statusSlot := none, clearSlot := none, railSlot := none,
    onLine := none, lastStatus := now }

/-- R179: the raw levels are those read at the start; no order stands as sent until the first sample
(notes/assumptions/25.md). -/
def startLink (now : Millis) (kind : BogieKind) (figs : Commissioning) (loop : LoopLevel) (shoe : ShoeLevel) : BogieLink :=
  { inverter := { state := .lost, report := none, silentSince := now, returns := 0, lossReported := kind == .trailer }
    brake := { state := .lost, report := none, silentSince := now, returns := 0, lossReported := false }
    loads := crushLoads figs
    loop := { raw := loop, changedAt := now, delivered := none }
    shoe := { raw := shoe, changedAt := now, delivered := none }
    sentInverter := []
    sentBrake := [] }

/-! ## Reading the store (R182) -/

/-- What two readings of a block find together (notes/assumptions/12.md). -/
def joinFindings (a b : EccFinding) : EccFinding :=
  { corrected := a.corrected || b.corrected, uncorrectable := a.uncorrectable || b.uncorrectable }

/-- The blocks that show a finding, the commissioning block first, as a fault detail. -/
def blocksShowing (comm run : Bool) : Option FaultDetail :=
  match comm, run with
  | true, true => some .both
  | true, false => some .commissioning
  | false, true => some .running
  | false, false => none

/-- R182: one STORE_ fault when a block shows its finding. -/
def reportStore (kind : FaultKind) (comm run : Bool) (s : Station) : Station :=
  match blocksShowing comm run with
  | some d => report kind none (some d) s
  | none => s

/-- R182: the figures of a start. -/
def startFigures (c : CommBlock) : Commissioning :=
  if c.ecc.uncorrectable then defaultFigures else loadFigures c.fields

/-- R16: the trims of a power-on start. -/
def startTrims (r : RunBlock) : PerAxle Int :=
  if r.ecc.uncorrectable then ⟨0, 0⟩ else ⟨clampInt (-80) 80 r.trims.a, clampInt (-80) 80 r.trims.b⟩

/-- R103: the estimates of a power-on start. -/
def startBoxes (figs : Commissioning) (r : RunBlock) : PerAxle Nat :=
  if r.ecc.uncorrectable then ⟨reserveMg, reserveMg⟩
  else ⟨min r.boxes.a (capacityMg figs), min r.boxes.b (capacityMg figs)⟩

/-! ## Entering RUN -/

/-- What a start hands to the units, and what it leaves as it was. -/
structure StartInput where
  time : Millis
  timeUs : Micros
  subMs : Nat
  plug : CodePlug
  store : Store
  trims : PerAxle Int
  boxes : PerAxle Nat
  faults : FaultTable
  loop : LoopLevel
  shoe : ShoeLevel
  reply : Option Reply
  deriving DecidableEq, Repr

/-- The units after a start, before its faults are reported and the first STATUS is built. -/
def startUnits (i : StartInput) : Station :=
  let figs := startFigures i.store.comm
  { time := i.time, timeUs := i.timeUs, subMs := i.subMs, life := .run
    degraded := i.store.comm.ecc.uncorrectable
    plug := i.plug, figs := figs
    axles := ⟨startAxle i.time i.trims.a, startAxle i.time i.trims.b⟩
    ref := startReference, lastSample := i.time - 5
    creep := ⟨startCreep figs, startCreep figs⟩, creepDir := .rest, cellRec := none
    pos := startPosition, map := startMap i.time
    sanders := ⟨startSander i.time i.boxes.a, startSander i.time i.boxes.b⟩
    sanding := startSanding i.time i.boxes, blend := startBlend i.time figs, makeUp := startMakeUp, hold := startHold
    port := startPort i.time, link := startLink i.time i.plug.kind figs i.loop i.shoe
    faults := i.faults, store := i.store, reply := i.reply }

/-- R182: the start sequence ends: the STORE_ faults of this start, STORE_CORRECTED taken first (R180 leaves the order open;
the model's choice, notes/assumptions/43.md), then RUN with its first STATUS (R166). -/
def enterRun (comm run : EccFinding) (i : StartInput) : Station :=
  buildStatus (reportStore .storeInvalid comm.uncorrectable run.uncorrectable
    (reportStore .storeCorrected comm.corrected run.corrected (startUnits i)))

/-- R182: a power-on start from the store as it stands, with time from 0 (notes/assumptions/3.md). -/
def powerOnFrom (plug : CodePlug) (st : Store) (loop : LoopLevel) (shoe : ShoeLevel) : Station :=
  enterRun st.comm.ecc st.run.ecc
    { time := 0, timeUs := 0, subMs := 0, plug := plug, store := { st with write := none, pendingSave := false },
      trims := startTrims st.run, boxes := startBoxes (startFigures st.comm) st.run, faults := emptyTable, loop := loop,
      shoe := shoe, reply := none }

/-! ## The station after reset (notes/assumptions/3.md) -/

/-- The code plug of the reset station. -/
def resetPlug : CodePlug := { number := 0, kind := .motor, trackBrake := false, d1 := 0, serviceStrap := false }

/-- The store of the reset station: every commissioned figure at its default, trims 0, both estimates at the reserve. -/
def resetStore : Store :=
  { comm := ⟨defaultFields, .clean⟩, run := ⟨⟨0, 0⟩, ⟨reserveMg, reserveMg⟩, .clean⟩, write := none, pendingSave := false }

/-- The station that a power-on start leaves in RUN, with the loop CLOSED and the shoe-down sensor NOT DOWN. -/
def resetStation : Station := powerOnFrom resetPlug resetStore .loopClosed .notDown

/-! ## Loss of supply (R177, R183) -/

/-- R183: the block under a write is left with uncorrectable words; a pending save is lost. -/
def storeAfterLoss (st : Store) : Store :=
  match st.write with
  | none => { st with pendingSave := false }
  | some (.commissioning _ _) =>
    { st with comm := { st.comm with ecc := { st.comm.ecc with uncorrectable := true } }, write := none, pendingSave := false }
  | some (.running _ _ _) =>
    { st with run := { st.run with ecc := { st.run.ecc with uncorrectable := true } }, write := none, pendingSave := false }

/-- R177, R183: supply is lost: each valve closes, the contactor opens. -/
def supplyLoss (s : Station) : Station :=
  { s with
    life := .off
    store := storeAfterLoss s.store
    sanders := ⟨{ s.sanders.a with valveOpen := false, interval := none }, { s.sanders.b with valveOpen := false, interval := none }⟩
    blend := { s.blend with contactorClosed := false }
    reply := none }

/-! ## The two kinds of start -/

/-- The store as this start's reading finds it: a finding stays until a write replaces the block. -/
def readStore (comm run : EccFinding) (st : Store) : Store :=
  { st with
    comm := { st.comm with ecc := joinFindings comm st.comm.ecc }
    run := { st.run with ecc := joinFindings run st.run.ecc } }

/-- POWER_ON_START; on a station that has supply, the loss of supply comes first. -/
def powerOnStart (plug : CodePlug) (comm run : EccFinding) (s : Station) : Station :=
  let st := if s.life = .off then s.store else storeAfterLoss s.store
  powerOnFrom plug (readStore comm run st) s.link.loop.raw s.link.shoe.raw

/-- R187: RESTART, taken: the start sequence without step 3; trims, estimates and fault table are kept.
Trims and estimates are kept at a DEGRADED RESTART too: the model's choice (notes/assumptions/44.md). -/
def restart (plug : CodePlug) (comm : EccFinding) (s : Station) : Station :=
  let st := readStore comm .clean s.store
  let cap := capacityMg (startFigures st.comm)
  enterRun st.comm.ecc .clean
    { time := s.time, timeUs := s.timeUs, subMs := s.subMs, plug := plug, store := { st with pendingSave := false }
      trims := ⟨s.axles.a.trim, s.axles.b.trim⟩
      boxes := ⟨min (settleBox s.time s.sanders.a).box cap, min (settleBox s.time s.sanders.b).box cap⟩
      faults := s.faults, loop := s.link.loop.raw, shoe := s.link.shoe.raw, reply := s.reply }

/-! ## The end of a store write (R183) -/

/-- R183: the block after a write. -/
def storeWritten (st : Store) : Store :=
  match st.write with
  | none => st
  | some (.commissioning fields _) => { st with comm := ⟨fields, .clean⟩, write := none }
  | some (.running trims boxes _) => { st with run := ⟨trims, boxes, .clean⟩, write := none }

/-- R183: the write in progress ends, and a pending save starts with the figures of that moment. -/
def storeWriteEnd (s : Station) : Station :=
  match s.store.write with
  | none => s
  | some _ =>
    let s1 := { s with store := storeWritten s.store }
    if s.store.pendingSave then { s1 with store := { s1.store with write := some (savedNow s1), pendingSave := false } }
    else s1

end Sys2Proof.Machine
end

