-- ==== Sys2Proof/Machine/State.lean ====
section
/-! DEFINITION. The state of the machine: the commands that wait, first in, first out, and everything the station holds
(Machine/Station.lean). A command acts on the station alone. -/

namespace Sys2Proof.Machine

/-- Why a step could stop with a fault: never. Every rule of the spec gives its command an effect, and what the BA31 calls
a fault is a record in its fault record table (R180). -/
inductive Fault where
  deriving DecidableEq, Repr

/-- Why a step could be refused. -/
inductive Refusal where
  /-- A command without a meaning. No arm raises it. Safe: the machine stops where the station goes on. -/
  | notModelled (mnemonic : String)
  deriving DecidableEq, Repr

/-- The machine: a queue of commands and the station. -/
structure State where
  /-- the commands that wait, the first to act in front -/
  pending : List Instr
  station : Station
  deriving DecidableEq, Repr

/-- The machine right after reset: the state that a power-on start leaves (R182), with no command waiting. -/
def State.reset : State := { pending := [], station := resetStation }

end Sys2Proof.Machine
end

