-- ==== Sys2Proof/Machine/Ops.lean ====
section
/-! DEFINITION. How a command acts on the machine: on the station alone, and, except for a start, only while the station
runs (in START, and without supply, no unit acts: section 11.2). -/

namespace Sys2Proof.Machine

/-- An operation of a station that runs. -/
def whenRunning (f : Station → Station) (s : Station) : Station := if running s then f s else s

/-- The outcome of a command that acts on the station. -/
def act (f : Station → Station) (s : State) : Host.Outcome State Fault Refusal := .next { s with station := f s.station }

/-- The outcome of a command that acts on a station that runs. -/
def actRunning (f : Station → Station) (s : State) : Host.Outcome State Fault Refusal := act (whenRunning f) s

end Sys2Proof.Machine
end

