-- ==== Sys2Proof/Machine/Creep.lean ====
section
/-! DEFINITION. The creep controller (chapter 2): effort direction, creep, effort limits, the creep state machine, what the
leading axle observes, pre-limits and axle orders. -/

namespace Sys2Proof.Machine

/-- The station with the creep record of an axle replaced. -/
def setCreep (s : Station) (x : Axle) (c : AxleCreep) : Station := { s with creep := put s.creep x c }

/-! ## Direction, creep and thresholds (R20, R21) -/

/-- R20: the effort direction; the first matching row governs. -/
def dirOf (hold : HoldState) (served : ServedMode) : EffortDir :=
  match hold with
  | .holding => .rest
  | .rollback => .backward
  | .hillStart => .traction
  | .free =>
    match served with
    | .drive => .traction
    | .brake | .lineLoss | .emergency => .braking
    | .coast | .hold => .rest

/-- R20: the creep of an axle in a direction. -/
def creepIn (dir : EffortDir) (ref forward : Int) : Int :=
  match dir with
  | .traction | .backward => forward - ref
  | .braking => ref - forward
  | .rest => 0

/-- The creep of an axle in the direction last set. -/
def creepNow (s : Station) (x : Axle) : Int := creepIn s.creepDir s.ref.speed (pick s.axles x).forward

/-- R21: the creep target of a reference magnitude. -/
def creepTarget (v : Nat) : Nat := max 100 (40 * v / 1000)

/-- R21: the slip threshold of a reference magnitude. -/
def slipThreshold (v : Nat) : Nat := max 300 (120 * v / 1000)

/-- The creep target of the sample. -/
def targetNow (s : Station) : Int := creepTarget s.ref.speed.natAbs

/-- The slip threshold of the sample. -/
def thresholdNow (s : Station) : Int := slipThreshold s.ref.speed.natAbs

/-- R21: the acceleration test, made only when the creep history holds four values. -/
def accelerates (creep : Int) (history : List Int) : Bool :=
  match history with
  | [c, _, _, _] => decide (c + 50 < creep)
  | _ => false

/-- R21: the axle slips at the sample. -/
def slips (s : Station) (x : Axle) : Bool :=
  decide (thresholdNow s < creepNow s x) || accelerates (creepNow s x) (pick s.creep x).history

/-! ## Applied force and peak (R22) -/

/-- The electric part of the applied force. -/
def appliedElectric (s : Station) (dir : EffortDir) (x : Axle) : Nat :=
  match s.plug.kind, inverterUsed s with
  | .trailer, _ => 0
  | .motor, none => (pick s.creep x).electric
  | .motor, some r =>
    match dir with
    | .traction => asTraction (pick r.achieved x)
    | .braking | .backward => asBraking (pick r.achieved x)
    | .rest => 0

/-- The friction part of the applied force. -/
def appliedFriction (s : Station) (x : Axle) : Nat :=
  match brakeUsed s with
  | none => (pick s.creep x).friction
  | some r => pick r.friction x

/-- R22: the applied force of an axle at a sample. -/
def appliedForce (s : Station) (dir : EffortDir) (x : Axle) : Nat :=
  match dir with
  | .traction => appliedElectric s dir x
  | .braking | .backward => appliedElectric s dir x + appliedFriction s x
  | .rest => 0

/-- R22: the applied force joins the peak history as its newest member, the oldest leaving a history of 20. -/
def pushPeak (force : Nat) (c : AxleCreep) : AxleCreep := { c with peaks := force :: c.peaks.take 19 }

/-- R22: the peak, the greatest member of the peak history. -/
def peakOf (c : AxleCreep) : Nat := c.peaks.foldr max 0

/-! ## Adhesion (R34, R35) -/

/-- R34: the weight of an axle on the rail, N. -/
def axleWeight (s : Station) (x : Axle) : Nat := pick s.link.loads x * 981 / 100

/-- R34: a force as adhesion. -/
def muOf (force weight : Nat) : Nat := min 500 (force * 1000 / weight)

/-- R35: the conditions under which the leading axle observes. -/
def observes (s : Station) : Bool :=
  let x := leadingAxle s
  s.pos.state != .lost && !s.pos.attrLeading.obsInhibit
    && (sanderAt s x).state != .flowing && (sanderAt s x).state != .tailing
    && (pick s.axles x).sensor == .ok

/-! ## Ceiling (R23) -/

/-- R12, R41: 300‰ of the axle maximum. -/
def uncertainForce (figs : Commissioning) : Nat := 300 * figs.axleMax / 1000

/-- The smaller of a figure and one that may be absent. -/
def capBy (cap : Option Nat) (n : Nat) : Nat :=
  match cap with
  | some c => min c n
  | none => n

/-- The re-slip ceiling while it has not expired. -/
def reslipForce (now : Millis) (c : AxleCreep) : Option Nat :=
  match c.ceiling with
  | some r => if before now r.expires then some r.force else none
  | none => none

/-- The uncertain cap while it is applied. -/
def uncertainCap (s : Station) : Option Nat := if s.ref.capApplied then some (uncertainForce s.figs) else none

/-- R23: the ceiling of an axle. -/
def ceilingOf (s : Station) (x : Axle) : Nat :=
  let c := pick s.creep x
  capBy c.preLimit (capBy (reslipForce s.time c) (capBy (uncertainCap s) s.figs.axleMax))

/-- A limit raised by a step toward a bound, not beyond it. -/
def raiseToward (step bound limit : Nat) : Nat := if limit < bound then min (limit + step) bound else limit

/-- R23: a limit above the ceiling is lowered to it. -/
def lowerToCeiling (x : Axle) (s : Station) : Station :=
  let c := pick s.creep x
  setCreep s x { c with limit := min c.limit (ceilingOf s x) }

/-- R33: the re-slip ceiling is removed at or after its expiry time. -/
def reslipExpiry (x : Axle) (s : Station) : Station :=
  let c := pick s.creep x
  match c.ceiling with
  | some r => if before s.time r.expires then s else setCreep s x { c with ceiling := none }
  | none => s

/-- R33: the re-slip history keeps entries no older than 5,000 ms. -/
def pruneReslips (x : Axle) (s : Station) : Station :=
  let c := pick s.creep x
  setCreep s x { c with reslips := c.reslips.filter fun r => age s.time r.time ≤ 5000 }

/-! ## SLIPPING (R28, R29, R33) -/

/-- R33: the lowest peak of a re-slip history. -/
def lowestPeak : List Reslip → Nat
  | [] => 0
  | [r] => r.peak
  | r :: rs => min r.peak (lowestPeak rs)

/-- R33: an entry joins the re-slip history; three within 5,000 ms set the ceiling and send a re-slip request. -/
def joinReslips (peak : Nat) (x : Axle) (s : Station) : Station :=
  let c := pick s.creep x
  let l := (⟨s.time, peak⟩ :: c.reslips.filter fun r => age s.time r.time ≤ 5000).take 3
  if l.length = 3 then
    { setCreep s x { c with reslips := l, ceiling := some ⟨900 * lowestPeak l / 1000, after s.time 10000⟩ } with
      sanding := { s.sanding with reslipHold := some (after s.time 10000) } }
  else setCreep s x { c with reslips := l }

/-- R87: a slip request reaches the sander control. -/
def slipRequest (s : Station) : Station := { s with sanding := { s.sanding with slipHold := some (after s.time 3000) } }

/-- R36: the PEAK of a SLIPPING entry. -/
def peakObservation (peak : Nat) (x : Axle) (s : Station) : Station :=
  if leads s x && observes s then observe .peak s.pos.attrLeading.mapCell (muOf peak (axleWeight s x)) s else s

/-- R28: the record of an axle that enters SLIPPING. -/
def slippingRecord (c : AxleCreep) : AxleCreep :=
  { c with state := .slipping, limit := min c.limit (700 * peakOf c / 1000), stateTime := 0, calm := none,
           slipReported := false }

/-- R28: SLIPPING is entered. -/
def enterSlipping (x : Axle) (s : Station) : Station :=
  let c := pick s.creep x
  let peak := peakOf c
  joinReslips peak x (slipRequest (peakObservation peak x (setCreep s x (slippingRecord c))))

/-- R29: the state time of SLIPPING has reached 1,500 ms. -/
def slipPersistent (x : Axle) (s : Station) : Station :=
  let c := pick s.creep x
  if c.state = .slipping ∧ 1500 ≤ c.stateTime ∧ c.slipReported = false then
    report .slipPersistent (some x) none (setCreep s x { c with limit := 0, slipReported := true })
  else s

/-- R29: SLIPPING's own rule. -/
def slippingRule (x : Axle) (s : Station) : Station :=
  let c := pick s.creep x
  if creepNow s x ≤ targetNow s then setCreep s x { c with state := .recovering, stateTime := 0 }
  else slipPersistent x s

/-! ## REGULATING (R27) -/

/-- R27: the limit of a sample in REGULATING. -/
def regulatedLimit (creep target : Int) (ceiling limit : Nat) : Nat :=
  if target < creep then limit - 250
  else if creep < target.tdiv 2 then raiseToward 100 ceiling limit
  else limit

/-- R27: the calm timer has reached 100 ms with the limit at or above the demand total. -/
def calmExpiry (x : Axle) (s : Station) : Station :=
  let c := pick s.creep x
  if c.state = .regulating ∧ reached 100 c.calm = true ∧ demandTotal s x ≤ c.limit then
    setCreep s x { c with state := .adhering, stateTime := 0, calm := none }
  else s

/-- R27: REGULATING's own rule. -/
def regulatingRule (x : Axle) (s : Station) : Station :=
  let c := pick s.creep x
  let creep := creepNow s x
  calmExpiry x (setCreep s x { c with
    limit := regulatedLimit creep (targetNow s) (ceilingOf s x) c.limit
    calm := runTimer 5 (decide (creep ≤ targetNow s)) c.calm })

/-- R26, R31: REGULATING is entered and its rule acts. -/
def enterRegulating (x : Axle) (s : Station) : Station :=
  regulatingRule x (setCreep s x { pick s.creep x with state := .regulating, stateTime := 0, calm := none })

/-! ## ADHERING, REAPPLYING, RECOVERING (R26, R30, R31) -/

/-- R26: ADHERING's own rule. -/
def adheringRule (x : Axle) (s : Station) : Station :=
  let c := pick s.creep x
  if creepNow s x ≤ targetNow s then setCreep s x { c with limit := raiseToward 100 (ceilingOf s x) c.limit }
  else enterRegulating x s

/-- R31: the record of a sample in REAPPLYING with creep at or below the creep target. -/
def reapplied (target : Nat) (c : AxleCreep) : AxleCreep :=
  let limit := raiseToward 150 target c.limit
  if target ≤ limit then { c with limit := limit, state := .adhering, stateTime := 0 } else { c with limit := limit }

/-- R31: REAPPLYING's own rule. -/
def reapplyingRule (x : Axle) (s : Station) : Station :=
  if targetNow s < creepNow s x then enterRegulating x s
  else setCreep s x (reapplied (min (demandTotal s x) (ceilingOf s x)) (pick s.creep x))

/-- R30: the state time of RECOVERING has reached 200 ms, with creep at or below the slip threshold. -/
def recoveryHoldExpiry (x : Axle) (s : Station) : Station :=
  let c := pick s.creep x
  if c.state = .recovering ∧ 200 ≤ c.stateTime ∧ creepNow s x ≤ thresholdNow s then
    reapplyingRule x (setCreep s x { c with state := .reapplying, stateTime := 0 })
  else s

/-- R30: RECOVERING's own rule. -/
def recoveringRule (x : Axle) (s : Station) : Station :=
  if thresholdNow s < creepNow s x then enterSlipping x s else recoveryHoldExpiry x s

/-! ## LOCKED (R42 to R44) -/

/-- R42: the lock condition of an axle under BRAKING. -/
def lockCondition (s : Station) (x : Axle) : Bool :=
  s.creepDir == .braking && decide (2000 < s.ref.speed)
    && decide ((pick s.axles x).forward < (100 * s.ref.speed).tdiv 1000)

/-- R42: the record of an axle that enters LOCKED. -/
def lockedRecord (c : AxleCreep) : AxleCreep :=
  { c with state := .locked, limit := min c.limit (700 * peakOf c / 1000), stateTime := 0, lock := none, release := none,
           wheelLock := false }

/-- R42: whether the lock timer has reached 150 ms on an axle that is not LOCKED. -/
def lockReached (c : AxleCreep) : Bool := c.state != .locked && reached 150 c.lock

/-- R42: the lock timer has reached 150 ms. -/
def lockExpiry (x : Axle) (s : Station) : Station :=
  if lockReached (pick s.creep x) then setCreep s x (lockedRecord (pick s.creep x)) else s

/-- R42: the state time of LOCKED has reached 800 ms. -/
def wheelLockExpiry (x : Axle) (s : Station) : Station :=
  let c := pick s.creep x
  if c.state = .locked ∧ 800 ≤ c.stateTime ∧ c.wheelLock = false then
    report .wheelLock (some x) none (setCreep s x { c with wheelLock := true })
  else s

/-- R44: no edge since the previous sample, and the brake unit reports no friction on the axle. -/
def runsFree (s : Station) (x : Axle) : Bool :=
  !(pick s.axles x).edgeSeen &&
    match brakeUsed s with
    | some r => pick r.friction x == 0
    | none => false

/-- R44: whether the release timer has reached 1,000 ms in LOCKED with the WHEEL_LOCK flag set. -/
def releaseReached (c : AxleCreep) : Bool := c.state == .locked && c.wheelLock && reached 1000 c.release

/-- R44: the release timer has reached 1,000 ms. -/
def releaseExpiry (x : Axle) (s : Station) : Station := if releaseReached (pick s.creep x) then failSensor x s else s

/-- R44: the release timer at a sample, once the WHEEL_LOCK flag is set. -/
def releaseSample (x : Axle) (s : Station) : Station :=
  let c := pick s.creep x
  if c.wheelLock then releaseExpiry x (setCreep s x { c with release := runTimer 5 (runsFree s x) c.release }) else s

/-- R42 to R44: LOCKED's own rule. -/
def lockedRule (x : Axle) (s : Station) : Station :=
  if (500 * s.ref.speed).tdiv 1000 ≤ (pick s.axles x).forward then
    setCreep s x { pick s.creep x with state := .recovering, stateTime := 0 }
  else releaseSample x (wheelLockExpiry x s)

/-! ## The state machine (R25) -/

/-- The state's own rule. -/
def ownRule (x : Axle) (s : Station) : Station :=
  match (pick s.creep x).state with
  | .adhering => adheringRule x s
  | .regulating => regulatingRule x s
  | .slipping => slippingRule x s
  | .recovering => recoveringRule x s
  | .reapplying => reapplyingRule x s
  | .locked => lockedRule x s

/-- R25: the states in which the slip test is made. -/
def slipTested : CreepState → Bool
  | .adhering | .regulating | .reapplying => true
  | .slipping | .recovering | .locked => false

/-- R42: the lock timer at a sample; it does not run while the axle is LOCKED. -/
def advanceLock (x : Axle) (s : Station) : Station :=
  let c := pick s.creep x
  setCreep s x { c with lock := runTimer 5 (c.state != .locked && lockCondition s x) c.lock }

/-- R25: the lock test, the slip test, then the state's own rule; the rule of a state entered by a test acts at once. -/
def runTests (x : Axle) (s : Station) : Station :=
  let c := pick s.creep x
  if lockReached c then lockedRule x (lockExpiry x s)
  else if slipTested c.state && slips s x then slippingRule x (enterSlipping x s)
  else ownRule x s

/-- R21: the creep of the sample joins the creep history, whose oldest leaves once it holds four. -/
def pushCreep (x : Axle) (s : Station) : Station :=
  let c := pick s.creep x
  let h := if c.history.length < 4 then c.history else c.history.tail
  setCreep s x { c with history := h ++ [creepNow s x] }

/-- R25, R23, R21: a sample that is not REST for an axle with sensor status OK. -/
def machineSample (x : Axle) (s : Station) : Station :=
  if (pick s.axles x).sensor = .ok then
    let s1 := runTests x (advanceLock x s)
    if (pick s1.axles x).sensor = .ok then pushCreep x (lowerToCeiling x s1) else s1
  else s

/-- R24: an axle at a REST sample. -/
def restAxle (figs : Commissioning) (c : AxleCreep) : AxleCreep :=
  { c with state := .adhering, stateTime := 0, limit := figs.axleMax, calm := none, lock := none, release := none,
           wheelLock := false, history := [] }

/-- R24: a REST sample for an axle with sensor status OK. -/
def restSample (x : Axle) (s : Station) : Station :=
  if (pick s.axles x).sensor = .ok then setCreep s x (restAxle s.figs (pick s.creep x)) else s

/-- R19: the state time of an axle grows by 5 ms. -/
def growStateTime (x : Axle) (s : Station) : Station :=
  let c := pick s.creep x
  if (pick s.axles x).sensor = .ok then setCreep s x { c with stateTime := c.stateTime + 5 } else s

/-- R32: an axle at a change of effort direction. -/
def redirectAxle (c : AxleCreep) : AxleCreep :=
  let d := { c with history := [], lock := none, release := none, wheelLock := false }
  match c.state with
  | .slipping | .locked | .recovering => { d with state := .recovering, stateTime := 0 }
  | .adhering | .regulating | .reapplying => d

/-- R32 for an axle with sensor status OK. -/
def redirect (x : Axle) (s : Station) : Station :=
  if (pick s.axles x).sensor = .ok then setCreep s x (redirectAxle (pick s.creep x)) else s

/-! ## Failed sensors (R41) -/

/-- R41: a failed axle takes its partner's creep state and limit. It takes the limit after R23 has lowered it to the partner's
ceiling, and its own ceiling is not applied to it: the model's choice (notes/assumptions/51.md). -/
def followPartner (x : Axle) (s : Station) : Station :=
  if (pick s.axles x).sensor = .failed ∧ (pick s.axles (otherAxle x)).sensor = .ok then
    let p := pick s.creep (otherAxle x)
    setCreep s x { pick s.creep x with state := p.state, limit := p.limit }
  else s

/-- R41: both axles failed stand in ADHERING at 300‰ of the axle maximum. -/
def bothFailed (s : Station) : Station :=
  if s.axles.a.sensor = .failed ∧ s.axles.b.sensor = .failed then
    { s with creep :=
        ⟨{ s.creep.a with state := .adhering, limit := uncertainForce s.figs },
         { s.creep.b with state := .adhering, limit := uncertainForce s.figs }⟩ }
  else s

/-- R41 for the bogie. -/
def followPartners (s : Station) : Station := bothFailed (followPartner .b (followPartner .a s))

/-- R17, R44: an axle is declared failed by a row of its own, and from then on follows its partner (R41). -/
def failAndFollow (x : Axle) (s : Station) : Station := followPartners (failSensor x s)

/-- R17 as an event of its own (notes/assumptions/27.md). -/
def silenceRow (x : Axle) (s : Station) : Station := if sensorSilent s x then failAndFollow x s else s

/-- R44 as an event of its own (notes/assumptions/27.md). -/
def releaseRow (x : Axle) (s : Station) : Station := if releaseReached (pick s.creep x) then failAndFollow x s else s

/-! ## Pre-limit (R38, R39) -/

/-- R38: the pre-limit at an effective μ. -/
def preLimitOf (mu weight : Nat) : Nat := mu * weight / 1000 * 1100 / 1000

/-- R38, R39: the pre-limits of a sample; at a REST sample both are removed, as R39 says, though R24 has them stay recorded
(notes/assumptions/35.md). -/
def queryAhead (s : Station) : Station :=
  if s.pos.state = .lost ∨ s.creepDir = .rest then removePreLimits s
  else
    match lookAhead s s.pos.attrLeading.position s.figs.lookAhead with
    | some (mu, _) =>
      { s with creep :=
          ⟨{ s.creep.a with preLimit := some (preLimitOf mu (axleWeight s .a)) },
           { s.creep.b with preLimit := some (preLimitOf mu (axleWeight s .b)) }⟩ }
    | none => removePreLimits s

/-! ## Cell record (R37) -/

/-- The route cell adjoining ahead in the travel sense. -/
def isAhead (sense : Sense) (cell new : Nat) : Bool :=
  match sense with
  | .up => new == cell + 1
  | .down => new + 1 == cell

/-- The mean applied force of a closed record. -/
def meanForce (r : CellRec) : Nat := r.sum / r.count

/-- R37: what a record closed forward gives. -/
def closeCell (r : CellRec) (s : Station) : Station :=
  let mu := muOf (meanForce r) (axleWeight s (leadingAxle s))
  if r.clean && observes s && decide (50 ≤ mu) then observe .atLeast r.mapCell mu s else s

/-- R37: the record is closed and opened afresh when the leading axle lies in another cell. -/
def turnCell (s : Station) : Station :=
  let a := s.pos.attrLeading
  let cell := routeCell a.position
  match s.cellRec with
  | none => { s with cellRec := some ⟨cell, a.mapCell, 0, 0, false⟩ }
  | some r =>
    if r.cell = cell then s
    else if isAhead s.pos.sense r.cell cell then
      { closeCell r s with cellRec := some ⟨cell, a.mapCell, 0, 0, true⟩ }
    else { s with cellRec := some ⟨cell, a.mapCell, 0, 0, false⟩ }

/-- R37: a sample joins the record; `changed` marks a sample at which the effort direction changes. -/
def sampleCell (changed : Bool) (force : Nat) (s : Station) : Station :=
  match s.cellRec with
  | none => s
  | some r =>
    let spoils := (pick s.creep (leadingAxle s)).state != .adhering || s.creepDir == .rest || s.creepDir == .backward
      || changed || !observes s
    { s with cellRec := some { r with sum := r.sum + force, count := r.count + 1, clean := r.clean && !spoils } }

/-! ## Axle orders (R40) -/

/-- R40: a demand cut to a limit, the electric part first. -/
def cutOrder (electric friction limit : Nat) : Nat × Nat :=
  let excess := electric + friction - limit
  (electric - excess, friction - (excess - electric))

/-- R40: the orders of an axle. -/
def formOrder (x : Axle) (s : Station) : Station :=
  let c := pick s.creep x
  match c.state with
  | .locked => setCreep s x { c with electric := 0, friction := 0 }
  | .adhering | .regulating | .slipping | .recovering | .reapplying =>
    let o := cutOrder (demandElectric s x) (demandFriction s x) c.limit
    setCreep s x { c with electric := o.1, friction := o.2 }

/-! ## The sample -/

/-- Both peak histories gain the sample's applied force. -/
def recordApplied (dir : EffortDir) (s : Station) : Station :=
  { s with creep := ⟨pushPeak (appliedForce s dir .a) s.creep.a, pushPeak (appliedForce s dir .b) s.creep.b⟩ }

/-- The state machines of a sample, axle A before axle B (notes/assumptions/50.md). -/
def runMachines (changed : Bool) (s : Station) : Station :=
  match s.creepDir with
  | .rest => restSample .b (restSample .a s)
  | .traction | .braking | .backward =>
    let s1 := growStateTime .b (growStateTime .a s)
    let s2 := if changed then redirect .b (redirect .a s1) else s1
    machineSample .b (machineSample .a s2)

/-- The creep controller's part of a speed sample; `seeded` when the sample seeded the reference (R21). The state machines
run, and hand over their PEAKs, before the cell record is turned and gives its AT_LEAST (notes/assumptions/36.md). -/
def creepSample (seeded : Bool) (s : Station) : Station :=
  let former := s.creepDir
  let dir := dirOf s.hold.state s.blend.served
  let force := appliedForce s dir (leadingAxle s)
  let changed := dir != former
  let redirected := changed && dir != .rest && former != .rest
  let s1 := recordApplied dir { s with creepDir := dir }
  let s2 := pruneReslips .b (pruneReslips .a (reslipExpiry .b (reslipExpiry .a s1)))
  let s3 := if seeded then emptyHistories s2 else s2
  let s4 := followPartners (runMachines redirected (queryAhead s3))
  formOrder .b (formOrder .a (sampleCell changed force (turnCell s4)))

end Sys2Proof.Machine
end

