-- ==== Sys2Proof/Machine/Sample.lean ====
section
/-! DEFINITION. The speed sample (R5): the axle speed unit, the position unit, the hold unit and the creep controller, in
the order of notes/assumptions/7.md, and the axle orders it ends with (R172). -/

namespace Sys2Proof.Machine

/-- R172: an electric order signed by the effort direction. -/
def signedOrder (dir : EffortDir) (force : Nat) : Int :=
  match dir with
  | .traction => force
  | .braking | .backward => -force
  | .rest => 0

/-- R172: the inverter order of a sample. -/
def inverterBytes (s : Station) : List Byte :=
  inverterOrder s.pos.leadingEnd
    ⟨signedOrder s.creepDir s.creep.a.electric, signedOrder s.creepDir s.creep.b.electric⟩

/-- R172: the brake unit order of a sample. -/
def brakeBytes (s : Station) : List Byte := brakeOrder ⟨s.creep.a.friction, s.creep.b.friction⟩

/-- R172: the orders are sent; a TRAILER station sends no inverter order. -/
def sendOrders (s : Station) : Station :=
  { s with link := { s.link with
      sentInverter := match s.plug.kind with | .motor => inverterBytes s | .trailer => s.link.sentInverter
      sentBrake := brakeBytes s } }

/-- Steps 1 to 3 of R5: leading end, speeds, sensor failure outside braking; axle A comes before axle B
(notes/assumptions/50.md). -/
def measure (s : Station) : Station :=
  sensorSilence .b (sensorSilence .a (axleSample .b (axleSample .a (negateReference s))))

/-- Steps 4 and 5 of R5, then the position unit and the hold unit. -/
def judge (s : Station) : Station :=
  holdSample (positionSample (learnSample .b (learnSample .a (moveReference s))))

/-- Steps 6 and 7 of R5 with the orders of R172. -/
def command (seeded : Bool) (s : Station) : Station := sendOrders (flagCandidates (creepSample seeded s))

/-- Steps 1 to 7 of R5, with the units that act in the sample. -/
def sampleSteps (s : Station) : Station :=
  let s1 := measure { s with lastSample := s.time }
  command (seeds s1) (judge s1)

/-- R5: the speed sample; a STATUS that it causes shows the sample as completed (R18, R166; notes/assumptions/38.md). -/
def speedSample : Station → Station := announced sampleSteps

end Sys2Proof.Machine
end

