-- ==== Sys2Proof/Machine/Sanding.lean ====
section
/-! DEFINITION. The sander decision (R86): times (R93 to R96), the pre-arm aim (R89, R90), sources and admission (R87, R88,
R91), the sander states (R92 to R96), and the expiries that fall between decisions. -/

namespace Sys2Proof.Machine

/-! ## Step 1: times and boxes -/

/-- R96: the duty timer, which stops at 30,000 ms. -/
def growDuty (dt : Nat) (d : Sander) : Sander :=
  let t := min 30000 (d.duty + dt)
  { d with duty := t, restOwed := d.restOwed || t == 30000 }

/-- R93, R95, R96: the times of a sander advanced by the elapsed time. -/
def advanceTimes (now : Millis) (d : Sander) : Sander :=
  let dt := age now d.advancedTo
  let e := { d with advancedTo := now }
  match d.state with
  | .closed => e
  | .filling => growDuty dt { e with pipe := min (d.pipe + dt) d.flowDelay }
  | .flowing => growDuty dt e
  | .tailing => { e with pipe := d.pipe - dt }
  | .resting => { e with rest := d.rest + dt }

/-- R98: the valve closes once the open time of the period running has ended. -/
def openTimeEnd (x : Axle) (s : Station) : Station :=
  let d := sanderAt s x
  if d.valveOpen = true ∧ openTimeOver s.time d = true then setSander s x (closeValve s.time d) else s

/-- Step 1 for a sander. -/
def advanceSander (x : Axle) (s : Station) : Station :=
  let s1 := openTimeEnd x (setSander s x (advanceTimes s.time (sanderAt s x)))
  noteEmpty x (setSander s1 x (settleBox s1.time (sanderAt s1 x)))

/-! ## Step 3: the pre-arm aim (R89, R90) -/

/-- A route cell lies beyond another in the travel sense. -/
def isBeyond (sense : Sense) (cell aimed : Nat) : Bool :=
  match sense with
  | .up => decide (aimed < cell)
  | .down => decide (cell < aimed)

/-- R90: an aim that the leading sander has passed is removed. -/
def dropPassedAim (s : Station) : Station :=
  match s.sanding.aim with
  | some a =>
    if isBeyond s.pos.sense (routeCell (pick s.pos.attrSander (leadingAxle s)).position) a.routeCell then cancelAim s else s
  | none => s

/-- R89: the pre-arm distance. -/
def preArmDistance (v : Int) (delay : Nat) : Nat := v.toNat * delay / 1000 + 2000

/-- R89: the look-ahead query of the decision. -/
def queryAim (s : Station) : Station :=
  let x := leadingAxle s
  let d := preArmDistance s.ref.speed (sanderRateSet s x).flowDelay
  match lookAhead s (pick s.pos.attrSander x).position d with
  | some (mu, a) => if mu < 100 then { s with sanding := { s.sanding with aim := some a } } else s
  | none => s

/-! ## Step 4: sources and admission (R87, R88, R91) -/

/-- An expiry that has passed is removed. -/
def dropExpired (now : Millis) (e : Option Millis) : Option Millis := if stillAhead now e then e else none

/-- R87: passed slip hold expiries are removed. -/
def slipHoldExpiry (s : Station) : Station :=
  { s with sanding := { s.sanding with
      slipHold := dropExpired s.time s.sanding.slipHold
      reslipHold := dropExpired s.time s.sanding.reslipHold } }

/-- R88: a passed hill-start expiry is removed. -/
def hillSandExpiry (s : Station) : Station :=
  { s with sanding := { s.sanding with hillExpiry := dropExpired s.time s.sanding.hillExpiry } }

/-- R88: a cab's current record asks for sand. -/
def cabSands (s : Station) (c : CabEnd) : Bool :=
  match currentDemand s c with
  | some r => r.content.driverSand
  | none => false

/-- R87 to R89: the sources that ask. -/
def asking (s : Station) : Sources :=
  { slip := stillAhead s.time s.sanding.slipHold || stillAhead s.time s.sanding.reslipHold
    preArm := s.sanding.aim.isSome
    driver := cabSands s .end1 || cabSands s .end2
    hillStart := stillAhead s.time s.sanding.hillExpiry
    rollback := s.hold.state == .rollback
    emergency := s.blend.effMode == .emergency }

/-- The inhibits of R91, each with whether it holds for the leading sander. -/
structure Inhibits where
  window : Bool
  standstill : Bool
  reserve : Bool
  empty : Bool
  rest : Bool
  degraded : Bool
  deriving DecidableEq, Repr

/-- R91: the inhibits that hold. -/
def inhibits (s : Station) : Inhibits :=
  let x := leadingAxle s
  let d := sanderAt s x
  { window := (pick s.pos.attrSander x).sandInhibit || s.pos.state == .lost
    standstill := decide (s.ref.speed.natAbs < 300)
    reserve := decide (d.box ≤ reserveMg)
    empty := d.box == 0
    rest := d.restOwed
    degraded := s.degraded }

/-- R91: what is left of the sources after the inhibits have barred theirs. -/
def unbarred (i : Inhibits) (a : Sources) : Sources :=
  let plain := !i.window && !i.standstill && !i.reserve && !i.empty && !i.rest && !i.degraded
  { slip := a.slip && plain
    preArm := a.preArm && plain
    driver := a.driver && plain
    hillStart := a.hillStart && !i.window && !i.empty && !i.rest && !i.degraded
    rollback := a.rollback && !i.empty && !i.rest
    emergency := a.emergency && !i.empty }

/-- Whether any source of a set is on. -/
def anySource (a : Sources) : Bool := a.slip || a.preArm || a.driver || a.hillStart || a.rollback || a.emergency

/-- Whether a source of a set asks HIGH. -/
def anyHigh (a : Sources) : Bool := a.hillStart || a.rollback || a.emergency

/-- Step 4 of a decision. -/
def admitSources (s : Station) : Station :=
  let s1 := hillSandExpiry (slipHoldExpiry s)
  let asks := asking s1
  let adm := unbarred (inhibits s1) asks
  { s1 with sanding := { s1.sanding with
      asks := asks, admitted := adm, demandOn := anySource adm, high := anyHigh adm } }

/-! ## Steps 5 and 6: the sander states (R92 to R96) -/

/-- The valve demand as a sander sees it: a trailing sander admits no source (R85). -/
def demandFor (s : Station) (x : Axle) : Bool := leads s x && s.sanding.demandOn

/-- R93, R94: what ends FILLING or FLOWING. -/
def mustTail (s : Station) (x : Axle) : Bool :=
  let d := sanderAt s x
  d.box == 0 || !demandFor s x || (d.restOwed && !s.sanding.admitted.emergency)

/-- R93: a FILLING sander whose pipe is full enters FLOWING. -/
def pipeFull (x : Axle) (s : Station) : Station :=
  let d := sanderAt s x
  if d.state = .filling ∧ d.flowDelay ≤ d.pipe ∧ mustTail s x = false then enterFlowing x s else s

/-- R96: a sander whose duty timer has reached 30,000 ms owes rest, and leaves FILLING or FLOWING unless EMERGENCY is
admitted. -/
def dutyLimit (x : Axle) (s : Station) : Station :=
  let d := sanderAt s x
  if spreading d = true ∧ 30000 ≤ d.duty then
    let s1 := setSander s x { d with restOwed := true }
    if s1.sanding.admitted.emergency then s1 else tailNow x s1
  else s

/-- R95, R96: a TAILING sander whose pipe is empty enters RESTING when it owes rest, else CLOSED. -/
def tailEmpty (x : Axle) (s : Station) : Station :=
  let d := sanderAt s x
  if d.state = .tailing ∧ d.pipe = 0 ∧ demandFor s x = false then
    setSander s x (if d.restOwed then toResting d else toClosed d)
  else s

/-- R96: a RESTING sander whose rest timer has reached 10,000 ms enters CLOSED and owes no rest. That
the rest timer then reads 0 is the model's choice (notes/assumptions/52.md). -/
def restExpiry (x : Axle) (s : Station) : Station :=
  let d := sanderAt s x
  if d.state = .resting ∧ 10000 ≤ d.rest then setSander s x (toClosed { d with restOwed := false, rest := 0 }) else s

/-- R98: a dosing period begins 400 ms after the one before, while the sander is FLOWING. -/
def dosingPeriodStart (x : Axle) (s : Station) : Station :=
  let d := sanderAt s x
  match d.state, d.dosing with
  | .flowing, some p => if 400 ≤ age s.time p.start then beginPeriod (after p.start 400) x s else s
  | _, _ => s

/-- R92, R96: a sander enters FILLING with its pipe empty. -/
def startFilling (x : Axle) (s : Station) : Station :=
  setSander s x (fillFromEmpty s.time (sanderRateSet s x) (sanderAt s x))

/-- R97: within the open time of its dosing period a FLOWING sander's valve stands open while its box holds sand: one that
the period's start found empty opens at the decision after it has been filled. -/
def reopen (x : Axle) (s : Station) : Station :=
  let d := sanderAt s x
  match d.state, d.dosing with
  | .flowing, some p =>
    if d.valveOpen || d.box == 0 || openTimeOver s.time d then s else setSander s x (openValve s.time p.base d)
  | _, _ => s

/-- Step 5 for a sander, with the valve of step 6. A dosing period that is due at the decision begins here, with the level
that step 4 has just formed: the model's choice (notes/assumptions/45.md). -/
def runSander (x : Axle) (s : Station) : Station :=
  let d := sanderAt s x
  match d.state with
  | .closed => if demandFor s x then startFilling x s else s
  | .filling => if mustTail s x then tailNow x s else pipeFull x s
  | .flowing => if mustTail s x then tailNow x s else reopen x (dosingPeriodStart x s)
  | .tailing => if demandFor s x then setSander s x (refill s.time d) else tailEmpty x s
  | .resting => if demandFor s x && s.sanding.admitted.emergency then startFilling x s else restExpiry x s

/-! ## The decision -/

/-- R104: the sander states and box estimates that STATUS shows until the next decision. -/
def showSanders (s : Station) : Station :=
  { s with sanding := { s.sanding with
      shownStates := ⟨s.sanders.a.state, s.sanders.b.state⟩, shownBoxes := ⟨s.sanders.a.box, s.sanders.b.box⟩ } }

/-- R86: the sander decision; at each of its steps the end-1 sander comes first (notes/assumptions/33.md). -/
def sanderDecision (s : Station) : Station :=
  let s1 := advanceSander .b (advanceSander .a { s with sanding := { s.sanding with lastDecision := s.time } })
  let s2 := recordNewCell .b (recordNewCell .a s1)
  let s3 := admitSources (queryAim (dropPassedAim s2))
  showSanders (runSander .b (runSander .a s3))

/-! ## Between decisions -/

/-- R101: an estimate that has come to 0 is reported, and the sander leaves FILLING or FLOWING. The estimate is judged as
brought up to this moment; while it is above 0 the station stays as it was (notes/assumptions/8.md). -/
def sandEmpty (x : Axle) (s : Station) : Station :=
  let d := settleBox s.time (sanderAt s x)
  if d.box = 0 then tailNow x (noteEmpty x (setSander s x d)) else s

/-- R102: what FILLED sets a box estimate to. -/
def filledMg (figs : Commissioning) (grams : Nat) : Nat := min (grams * 1000) (capacityMg figs)

/-- R102: the open interval running ends, the estimate is set, and with sand in the box a new interval begins from it. An
estimate that had come to 0 and was not yet reported is then not reported any more: the model's choice
(notes/assumptions/53.md). -/
def fillBox (now : Millis) (mg : Nat) (d : Sander) : Sander :=
  let e := { d with box := mg, emptyReported := if 0 < mg then false else d.emptyReported }
  match d.interval with
  | some i =>
    if mg = 0 then { e with valveOpen := false, interval := none }
    else { e with interval := some ⟨now, mg, i.base⟩ }
  | none => e

/-- R102: FILLED taken for a sander; a FILLED of 0 g reports SAND_EMPTY when the estimate stood above 0 and sends the
sander to TAILING. One reported so before the first decision after a start is not reported again there: the model's choice
(notes/assumptions/46.md). -/
def takeFilled (x : Axle) (grams : Nat) (s : Station) : Station :=
  let d := sanderAt s x
  let stood := (settleBox s.time d).box
  let mg := filledMg s.figs grams
  let s1 := setSander s x (fillBox s.time mg d)
  if mg = 0 then
    let s2 := if 0 < stood then report .sandEmpty (some x) none (setSander s1 x { sanderAt s1 x with emptyReported := true })
      else s1
    tailNow x s2
  else s1

end Sys2Proof.Machine
end

