-- ==== Sys2Proof/Machine/Trainline.lean ====
section
/-! DEFINITION. The trainline port (chapter 9): what each arriving frame does, silence and ageing, and the transmit slots.
The checks of R159 and the layouts of R158 stand in Machine/Operands.lean. -/

namespace Sys2Proof.Machine

/-! ## DEMAND (R160 to R162) -/

/-- R160: a frame repeats the sequence number last accepted from its sender. -/
def repeatsDemand (s : Station) (cab : CabEnd) (sequence : BitVec 8) : Bool :=
  match pick s.port.demands (axleOf cab) with
  | some r => r.sequence == sequence
  | none => false

/-- R161, R162: an accepted DEMAND replaces the cab's record and arms the silence. -/
def recordDemand (cab : CabEnd) (d : DemandContent) (sequence : BitVec 8) (s : Station) : Station :=
  { s with port := { s.port with
      demands := put s.port.demands (axleOf cab) (some ⟨d, s.time, sequence⟩)
      announced := false
      heardAt := s.time } }

/-- R155: a DEMAND arrival whose governing request has a mode other than PARK wakes a PARKED station. -/
def demandWake (s : Station) : Station :=
  match s.blend.governing with
  | some g => if g.mode = .park then s else wake s
  | none => s

/-- R161: an accepted DEMAND goes to the blend unit, then to the position unit. -/
def acceptDemand (cab : CabEnd) (d : DemandContent) (sequence : BitVec 8) (s : Station) : Station :=
  demandWake (positionDemand cab d (evaluate true (settleGoverning cab (recordDemand cab d sequence s))))

/-- R159 to R161: a DEMAND frame arrives. -/
def demandArrival (f : Frame) (s : Station) : Station :=
  match checkDemand f with
  | some (cab, d) => if repeatsDemand s cab f.sequence then s else acceptDemand cab d f.sequence s
  | none => s

/-- R162: the silence expiry is due. -/
def silenceDue (s : Station) : Bool := !s.port.announced && decide (100 ≤ age s.time s.port.heardAt)

/-- R108: a DEMAND has arrived since the start. -/
def demandHeard (s : Station) : Bool := s.port.demands.a.isSome || s.port.demands.b.isSome

/-- R162: the demand-silence announcement to the blend unit (R105, R108) and the position unit (R52). -/
def announceSilence (s : Station) : Station :=
  let s1 := { s with
    port := { s.port with announced := true }
    blend := { s.blend with governing := none, conflict := false } }
  let s2 := if demandHeard s1 then report .demandLost none none s1 else s1
  deadReckon (evaluate false s2)

/-- R162: the silence expiry. -/
def demandSilence (s : Station) : Station := if silenceDue s then announceSilence s else s

/-! ## STATUS and the peer table (R163 to R165) -/

/-- The station with a peer record replaced. -/
def setPeer (n : Nat) (p : Peer) (s : Station) : Station :=
  { s with port := { s.port with peers := s.port.peers.set n p } }

/-- R160: a frame repeats the sequence number last accepted from the peer. -/
def repeatsStatus (s : Station) (n : Nat) (sequence : BitVec 8) : Bool :=
  match (peerAt s n).latest with
  | some l => l.sequence == sequence
  | none => false

/-- R165: a STATUS bearing the own number. -/
def duplicate (s : Station) : Station :=
  if s.port.dupSeen then s
  else withdrawUnit (report .duplicateStation none none { s with port := { s.port with dupSeen := true } })

/-- R163: an accepted STATUS of a peer. -/
def acceptStatus (n : Nat) (c : StatusContent) (sequence : BitVec 8) (s : Station) : Station :=
  let former := (peerAt s n).state
  let s1 := lapseOutdated n c (setPeer n ⟨if c.parked then .parked else .fresh, some ⟨c, s.time, sequence⟩⟩ s)
  if former = .fresh ∧ c.parked = true then lapseOn n s1 else s1

/-- R159, R160, R163, R165: a STATUS frame arrives. -/
def statusArrival (f : Frame) (s : Station) : Station :=
  match checkStatus f with
  | some (n, c) =>
    if n = s.plug.number.val then duplicate s
    else if repeatsStatus s n f.sequence then s
    else acceptStatus n c f.sequence s
  | none => s

/-- The age of a peer record. -/
def peerAge (s : Station) (n : Nat) : Option Nat := (peerAt s n).latest.map fun l => age s.time l.arrived

/-- The record's age exceeds a figure. -/
def olderThan (s : Station) (n figure : Nat) : Bool :=
  match peerAge s n with
  | some a => decide (figure < a)
  | none => false

/-- R164: a FRESH record's age exceeds 60 ms. -/
def silentDue (s : Station) (n : Nat) : Bool := (peerAt s n).state == .fresh && olderThan s n 60

/-- R164: a SILENT record's age exceeds 2,000 ms, or a PARKED record's 5,000 ms. -/
def lostDue (s : Station) (n : Nat) : Bool :=
  ((peerAt s n).state == .silent && olderThan s n 2000) || ((peerAt s n).state == .parked && olderThan s n 5000)

/-- R164, R135: a record becomes SILENT. -/
def peerSilent (n : Nat) (s : Station) : Station :=
  if silentDue s n then lapseOn n (setPeer n { peerAt s n with state := .silent } s) else s

/-- R164: a record becomes LOST. -/
def peerLost (n : Nat) (s : Station) : Station :=
  if lostDue s n then report .peerLost none (some (.peer n)) (setPeer n { peerAt s n with state := .lost } s) else s

/-! ## RAIL REPORT and MAP CLEAR -/

/-- R66: a RAIL REPORT arrives; the map merges nothing from one that bears the own number. -/
def railReportArrival (f : Frame) (s : Station) : Station :=
  match checkRail s.time f with
  | some (n, l) => if n = s.plug.number.val then s else l.foldl mergePeerObs s
  | none => s

/-- R75: a MAP CLEAR arrives. -/
def mapClearArrival (f : Frame) (s : Station) : Station :=
  match checkClear f with
  | some (id, g) => takeClear id g s
  | none => s

/-! ## Transmitting (R157, R167 to R169) -/

/-- The station with nothing on the line. -/
def offLine (s : Station) : Station := { s with port := { s.port with onLine := none } }

/-- R168: a STATUS that lost contention returns to its slot while the slot is empty and it is younger than 20 ms. -/
def returnStatus (f : StatusFrame) (s : Station) : Station :=
  if s.port.statusSlot.isNone ∧ age s.time f.built < 20 then { s with port := { s.port with statusSlot := some f } } else s

/-- R167, R168: a MAP CLEAR that lost contention returns to its slot unless a newer one holds it. -/
def returnClear (f : ClearFrame) (s : Station) : Station :=
  if s.port.clearSlot.isNone then { s with port := { s.port with clearSlot := some f } } else s

/-- R167, R168: a RAIL REPORT that lost contention returns to its slot, and is withdrawn there when it is spoiled. -/
def returnRail (f : RailFrame) (spoiled : Bool) (s : Station) : Station :=
  let s1 := { s with port := { s.port with railSlot := some f } }
  if spoiled then withdrawRail s1 else s1

/-- R157: contention lost. -/
def contentionLost (s : Station) : Station :=
  match s.port.onLine with
  | none => s
  | some (.status f) => returnStatus f (offLine s)
  | some (.mapClear f) => returnClear f (offLine s)
  | some (.rail f spoiled) => returnRail f spoiled (offLine s)

/-- R82: the observations of the sent frame leave the outbox. -/
def dropSent (s : Station) : Station :=
  { s with map := { s.map with outbox := s.map.outbox.filter fun i => !i.inFrame } }

/-- R157: the station's frame is sent. -/
def frameSent (s : Station) : Station :=
  match s.port.onLine with
  | none => s
  | some (.status _) | some (.mapClear _) => offLine s
  | some (.rail _ _) => buildRail (dropSent (offLine s))

/-- R168: the line is free: one frame is offered, STATUS before MAP CLEAR before RAIL REPORT. -/
def lineFreeOffer (s : Station) : Station :=
  match s.port.onLine, s.port.statusSlot, s.port.clearSlot, s.port.railSlot with
  | some _, _, _, _ => s
  | none, some f, _, _ => { s with port := { s.port with statusSlot := none, onLine := some (.status f) } }
  | none, none, some f, _ => { s with port := { s.port with clearSlot := none, onLine := some (.mapClear f) } }
  | none, none, none, some f => { s with port := { s.port with railSlot := none, onLine := some (.rail f false) } }
  | none, none, none, none => s

/-- R169: a STATUS waiting in its slot has reached 20 ms. -/
def slotExpired (s : Station) : Bool :=
  match s.port.statusSlot with
  | some f => decide (20 ≤ age s.time f.built)
  | none => false

/-- R169: the expiry of a waiting STATUS. -/
def statusSlotExpiry (s : Station) : Station :=
  if slotExpired s then { s with port := { s.port with statusSlot := none } } else s

end Sys2Proof.Machine
end

