-- ==== Sys2Proof/Machine/Replies.lean ====
section
/-! DEFINITION. The replies of the service connector: the items of READ STATUS chapter by chapter, of READ FAULTS and of
READ MAP (R185), and the bytes of a reply (R184). -/

namespace Sys2Proof

/-- The data bytes that carry READ STATUS: R185 lists the items, no rule gives their layout (notes/assumptions/6.md). -/
opaque Config.readStatusLayout : Machine.StatusItems → List Byte

/-- The data bytes that carry READ FAULTS: R185 gives the order of the records, no rule their layout. -/
opaque Config.readFaultsLayout : List (Option Machine.FaultRecord) → Bool → List Byte

/-- The data bytes that carry READ MAP: R84 gives the order, no rule the layout. -/
opaque Config.readMapLayout : Machine.MapItems → List Byte

namespace Machine

/-! ## READ STATUS -/

/-- R18. -/
def axleItems (a : AxleUnit) : AxleItems := ⟨a.speed, a.lowSpeed, a.sensor, a.trim⟩

/-- R45: the re-slip ceiling with its remaining time. -/
def reslipItem (now : Millis) (c : AxleCreep) : Option (Nat × Nat) :=
  match c.ceiling with
  | some r => if before now r.expires then some (r.force, age r.expires now) else none
  | none => none

/-- R45. -/
def creepItems (s : Station) (x : Axle) : CreepItems :=
  let c := pick s.creep x
  { state := c.state, limit := c.limit, ceiling := ceilingOf s x, preLimit := c.preLimit, reslip := reslipItem s.time c,
    uncertainCap := uncertainCap s, peak := peakOf c, electric := c.electric, friction := c.friction }

/-- R62. -/
def positionItems (p : Position) : PositionItems :=
  { station := p.station, state := p.state, leadingEnd := p.leadingEnd, sense := p.sense, change := p.change,
    reckoned := p.reckoned, attrStation := p.attrStation, attrLeading := p.attrLeading, attrSander := p.attrSander }

/-- R104, per sander. -/
def sanderItems (d : Sander) : SanderItems :=
  { state := d.state, pipe := d.pipe, flowDelay := d.flowDelay, duty := d.duty, restOwed := d.restOwed, rest := d.rest,
    box := d.box, openTime := d.dosing.map (·.openTime) }

/-- R104, for the station. -/
def sandingItems (g : Sanding) : SandingItems :=
  { asks := g.asks, admitted := g.admitted, demandOn := g.demandOn, high := g.high, slipHold := g.slipHold,
    reslipHold := g.reslipHold, hillExpiry := g.hillExpiry, aim := g.aim }

/-- R122. -/
def blendItems (s : Station) : BlendItems :=
  { governing := s.blend.governing, conflict := s.blend.conflict, loop := if loopIsOpen s then .loopOpen else .loopClosed,
    effMode := s.blend.effMode, served := s.blend.served, rearm := s.blend.rearm, demand := s.blend.demand,
    axles := s.blend.axles, capNoMtb := s.blend.capNoMtb, mtb := s.blend.mtb, escalation := s.blend.escalation,
    release := s.blend.release, lowering := s.blend.loweringSince.map (age s.time ·), shoe := s.link.shoe.delivered,
    residualView := s.blend.residualView, nominalView := s.blend.nominalView }

/-- R140. -/
def makeUpItems (m : MakeUp) : MakeUpItems :=
  { standing := m.standing, shortfall := m.shortfall, spare := m.spare, generation := m.generation,
    genShortfall := m.genShortfall, covered := m.covered, residual := m.residual, escResidual := m.escResidual,
    appliedSum := appliedSum m.takes, takes := m.takes }

/-- R156. -/
def holdItems (s : Station) : HoldItems :=
  { state := s.hold.state, life := s.life, standstill := s.hold.standstill, stillTime := s.hold.stillTime,
    armed := s.hold.armed, levelPending := s.hold.levelPending, trailerReleased := s.hold.trailerReleased,
    hillTime := s.hold.hillSince.map (age s.time ·), rollbackTime := s.hold.rollbackTime, parkTime := s.hold.parkTime,
    holdForce := s.hold.holdForce, friction := ⟨s.hold.friction, s.hold.friction⟩ }

/-- R170: a peer record with its age. -/
def peerItems (now : Millis) (p : Peer) : PeerItems :=
  { state := p.state, age := p.latest.map fun l => age now l.arrived, content := p.latest.map (·.content) }

/-- R170: a demand record with its age. -/
def demandItems (now : Millis) (r : DemandRec) : DemandItems := ⟨age now r.arrived, r.content⟩

/-- R170. -/
def portItems (s : Station) : PortItems :=
  { peers := s.port.peers.map (peerItems s.time)
    demands := ⟨s.port.demands.a.map (demandItems s.time), s.port.demands.b.map (demandItems s.time)⟩
    announced := s.port.announced, dupSeen := s.port.dupSeen, statusSlot := s.port.statusSlot, clearSlot := s.port.clearSlot,
    railSlot := s.port.railSlot, onLine := s.port.onLine }

/-- R179. -/
def linkItems (s : Station) : LinkItems :=
  let l := s.link
  { inverterState := l.inverter.state, inverterSilence := age s.time l.inverter.silentSince,
    inverterReturns := l.inverter.returns, inverterReport := l.inverter.report, brakeState := l.brake.state,
    brakeSilence := age s.time l.brake.silentSince, brakeReturns := l.brake.returns, brakeReport := l.brake.report,
    loads := l.loads, valves := ⟨s.sanders.a.valveOpen, s.sanders.b.valveOpen⟩, contactorClosed := s.blend.contactorClosed,
    loopRaw := l.loop.raw, loopTimer := age s.time l.loop.changedAt, loopDelivered := l.loop.delivered,
    shoeRaw := l.shoe.raw, shoeTimer := age s.time l.shoe.changedAt, shoeDelivered := l.shoe.delivered }

/-- Which write is in progress. -/
def writeKind : StoreWrite → WriteKind
  | .commissioning _ _ => .commissioning
  | .running _ _ _ => .running

/-- R185: everything READ STATUS answers. -/
def statusItems (s : Station) : StatusItems :=
  { axles := ⟨axleItems s.axles.a, axleItems s.axles.b⟩, refSpeed := s.ref.speed, refStatus := s.ref.status,
    creep := ⟨creepItems s .a, creepItems s .b⟩, position := positionItems s.pos,
    sanders := ⟨sanderItems s.sanders.a, sanderItems s.sanders.b⟩, sanding := sandingItems s.sanding,
    blend := blendItems s, makeUp := makeUpItems s.makeUp, hold := holdItems s, port := portItems s, link := linkItems s,
    degraded := s.degraded, write := s.store.write.map writeKind, pendingSave := s.store.pendingSave }

/-! ## READ MAP (R84) -/

/-- An adhesion with its age. -/
def agedMu (now : Millis) (t : TimedMu) : Nat × Nat := (t.mu, age now t.time)

/-- R84: an entry with its ages. -/
def entryItems (now : Millis) (e : MapEntry) : MapEntryItems :=
  { cell := e.cell, peak := e.peak.map (agedMu now), atLeast := e.atLeast.map (agedMu now), sanded := e.sanded.map (age now ·),
    observer := e.observer, direction := e.direction, count := e.count }

/-- R84: an outbox observation with its age. -/
def outboxItems (now : Millis) (i : OutboxItem) : OutboxItems := ⟨i.obs, i.inFrame, age now i.obs.time⟩

/-- R84, R185: everything READ MAP answers. -/
def mapItems (s : Station) : MapItems :=
  { entries := s.map.entries.map (entryItems s.time), outbox := s.map.outbox.map (outboxItems s.time),
    lastClear := s.map.lastClear }

/-! ## Reply bytes (R184) -/

/-- The value of a reply code. -/
def replyValue : ReplyCode → Byte
  | .ok => 0
  | .refusedLocked => 1
  | .refusedMotion => 2
  | .busy => 3
  | .badValue => 4
  | .badRequest => 5

/-- The data bytes of a reply. -/
def dataBytes : ReplyData → List Byte
  | .empty => []
  | .status items => Config.readStatusLayout items
  | .faults records overflow => Config.readFaultsLayout records overflow
  | .map items => Config.readMapLayout items

/-- R184: a reply as sent: the command code, the reply code, the data, the sum. -/
def replyBytes (r : Reply) : List Byte := withSum (r.command :: replyValue r.code :: dataBytes r.data)

end Machine

end Sys2Proof
end

