-- ==== Sys2Proof/Machine/Service.lean ====
section
/-! DEFINITION. The service connector (section 11.4): the discard of a wrong sum and the length check, then what each
command does and answers (R185 to R187). -/

namespace Sys2Proof.Machine

/-- A request is answered. -/
def answer (code : Byte) (rc : ReplyCode) (data : ReplyData) (s : Station) : Station := { s with reply := some ⟨code, rc, data⟩ }

/-- A request is answered with a reply code alone. -/
def answerCode (code : Byte) (rc : ReplyCode) (s : Station) : Station := answer code rc .empty s

/-- R185: a request with a wrong sum is discarded unanswered; one of unknown code or wrong length is answered BAD_REQUEST;
any other is taken. -/
def taken (code : Byte) (r : Request) (act : Station → Station) (s : Station) : Station :=
  if sumOk code r = false then { s with reply := none }
  else if argLength code.toNat = some r.args.length then act s
  else answerCode code .badRequest s

/-- Argument byte `i` of a request. -/
def argByte (r : Request) (i : Nat) : Nat := bytesAt r.args i 1

/-! ## Reading -/

/-- R185: READ STATUS. -/
def readStatus (s : Station) : Station := answer 1 .ok (.status (statusItems s)) s

/-- R185: READ FAULTS. -/
def readFaults (s : Station) : Station := answer 2 .ok (.faults s.faults.records s.faults.overflow) s

/-- R185: READ MAP. -/
def readMap (s : Station) : Station := answer 6 .ok (.map (mapItems s)) s

/-! ## The fault table (R181) -/

/-- R181, R185: CLEAR FAULT n. -/
def clearFault (n : Nat) (s : Station) : Station :=
  if n ≤ 7 then answerCode 3 .ok { s with faults := freeRecord n s.faults } else answerCode 3 .badValue s

/-- R181: CLEAR ALL FAULTS. -/
def clearAllFaults (s : Station) : Station := answerCode 4 .ok { s with faults := freeAllRecords s.faults }

/-- R181: CLEAR OVERFLOW. -/
def clearOverflow (s : Station) : Station := answerCode 5 .ok { s with faults := clearOverflowFlag s.faults }

/-! ## CLEAR MAP (R79) -/

/-- R79: the identifier of the next service clear. -/
def nextClearId (s : Station) : BitVec 8 :=
  match s.map.lastClear with
  | some c => c.id + 1
  | none => 1

/-- R79: a service clear, with its MAP CLEAR frame of the actual granularity placed in the slot. -/
def serviceClear (g : Granularity) (s : Station) : Station :=
  let id := nextClearId s
  let s1 := takeClear id g s
  let n := s1.port.seqClear + 1
  { s1 with port := { s1.port with seqClear := n, clearSlot := some ⟨id, actualGranularity s.figs g, n⟩ } }

/-- R185: CLEAR MAP. -/
def clearMap (r : Request) (s : Station) : Station :=
  match granularityOf (argByte r 0) (bytesAt r.args 1 2) (bytesAt r.args 3 2) with
  | some g => answerCode 7 .ok (serviceClear g s)
  | none => answerCode 7 .badValue s

/-! ## FILLED (R102) -/

/-- R185: the sander that a number names. -/
def sanderNumber (n : Nat) : Option Axle := if n = 1 then some .a else if n = 2 then some .b else none

/-- R102, R185: FILLED, with the running save it asks for. -/
def filled (r : Request) (s : Station) : Station :=
  match sanderNumber (argByte r 0) with
  | some x => answerCode 8 .ok (requestSave (takeFilled x (bytesAt r.args 1 2) s))
  | none => answerCode 8 .badValue s

/-! ## WRITE COMMISSIONING (R186) -/

/-- R186: the reply that the first failing check gives. -/
def writeCheck (fields : List Int) (s : Station) : ReplyCode :=
  if s.plug.serviceStrap = false then .refusedLocked
  else if s.hold.state ≠ .holding then .refusedMotion
  else if s.store.write.isSome then .busy
  else if blockInRange fields then .ok
  else .badValue

/-- R183: a commissioning write starts. -/
def beginWrite (fields : List Int) (s : Station) : Station :=
  { s with store := { s.store with write := some (.commissioning fields s.time) } }

/-- R186: WRITE COMMISSIONING. -/
def writeCommissioning (r : Request) (s : Station) : Station :=
  let fields := decodeFields 262 r.args
  match writeCheck fields s with
  | .ok => answerCode 9 .ok (beginWrite fields s)
  | .refusedLocked => answerCode 9 .refusedLocked s
  | .refusedMotion => answerCode 9 .refusedMotion s
  | .busy => answerCode 9 .busy s
  | .badValue => answerCode 9 .badValue s
  | .badRequest => answerCode 9 .badRequest s

/-! ## RESTART (R187) -/

/-- R187: RESTART; the answer is given before the station enters START. -/
def serviceRestart (plug : CodePlug) (comm : EccFinding) (s : Station) : Station :=
  if s.store.write.isSome then answerCode 10 .busy s else restart plug comm (answerCode 10 .ok s)

end Sys2Proof.Machine
end

