-- ==== Sys2Proof/Machine/Clock.lean ====
section
/-! DEFINITION. Time (notes/assumptions/1.md and 2.md): on an empty queue a running station first finds the events that
fall at the present moment, and where there are none, a microsecond passes. -/

namespace Sys2Proof.Machine

/-- A command when its event is due. -/
def dueIf (b : Bool) (i : Instr) : List Instr := if b then [i] else []

/-- R183: the write in progress has run for 400 ms, its longest. -/
def writeDue (s : Station) : Bool :=
  match s.store.write with
  | some (.commissioning _ t) | some (.running _ _ t) => decide (400 ≤ age s.time t)
  | none => false

/-- R174: the silence expiry of a plant unit has something to do. -/
def plantDue (s : Station) : PlantUnit → Bool
  | .inverter =>
    let u := s.link.inverter
    silenceActs s.time u.silentSince u.state u.returns u.lossReported
  | .brakeUnit =>
    let u := s.link.brake
    silenceActs s.time u.silentSince u.state u.returns u.lossReported

/-- R83: an outbox observation is older than 2,000 ms. -/
def outboxDue (s : Station) : Bool := s.map.outbox.any fun i => decide (2000 < age s.time i.obs.time)

/-- R119: the lowering timer has reached 500 ms. -/
def loweringDue (s : Station) : Bool :=
  match s.blend.mtb, s.blend.loweringSince with
  | .lowering, some t => decide (500 ≤ age s.time t)
  | _, _ => false

/-- R150: the hill-start timer has reached 3,000 ms. -/
def hillDue (s : Station) : Bool :=
  match s.hold.state, s.hold.hillSince with
  | .hillStart, some t => decide (3000 ≤ age s.time t)
  | _, _ => false

/-- R98: the open time of the period running has ended with the valve open. -/
def openTimeDue (s : Station) (x : Axle) : Bool := (sanderAt s x).valveOpen && openTimeOver s.time (sanderAt s x)

/-- R98: a dosing period is due. -/
def periodDue (s : Station) (x : Axle) : Bool :=
  match (sanderAt s x).state, (sanderAt s x).dosing with
  | .flowing, some p => decide (400 ≤ age s.time p.start)
  | _, _ => false

/-- R166: the STATUS period, 20 ms in RUN and 1,000 ms in PARKED. -/
def statusPeriod (s : Station) : Nat := if s.life = .parked then 1000 else 20

/-- The eight station numbers. -/
def stationNumbers : List (Fin 8) := [0, 1, 2, 3, 4, 5, 6, 7]

/-- The timer expiries that fall at the present moment. -/
def dueExpiries (s : Station) : List Instr :=
  dueIf (writeDue s) .storeWriteEnd
    ++ dueIf (loopDue s) .emergencyLoopDelivery
    ++ dueIf (shoeDue s) .shoeDownDelivery
    ++ dueIf (silenceDue s) .demandSilence
    ++ stationNumbers.flatMap (fun n : Fin 8 => dueIf (silentDue s n.val) (.peerRecordSilent n))
    ++ stationNumbers.flatMap (fun n : Fin 8 => dueIf (lostDue s n.val) (.peerLost n))
    ++ dueIf (plantDue s .inverter) (.plantSilenceExpiry .inverter)
    ++ dueIf (plantDue s .brakeUnit) (.plantSilenceExpiry .brakeUnit)
    ++ dueIf (slotExpired s) .statusSlotExpiry
    ++ dueIf (outboxDue s) .outboxExpiry
    ++ dueIf (loweringDue s) .loweringTimerExpiry
    ++ dueIf (hillDue s) .hillStartTimerExpiry
    ++ dueIf (openTimeDue s .a) (.openTimeEnd .end1)
    ++ dueIf (openTimeDue s .b) (.openTimeEnd .end2)
    ++ dueIf (periodDue s .a) (.dosingPeriodStart .end1)
    ++ dueIf (periodDue s .b) (.dosingPeriodStart .end2)

/-- The periodic events that fall at the present moment: sample, decision, blend event, sweep, STATUS. -/
def duePeriods (s : Station) : List Instr :=
  dueIf (decide (5 ≤ age s.time s.lastSample)) .speedSample
    ++ dueIf (decide (5 ≤ age s.time s.sanding.lastDecision)) .sanderDecision
    ++ dueIf (decide (20 ≤ age s.time s.blend.lastBlend)) .blendEvent
    ++ dueIf (decide (1000 ≤ age s.time s.map.lastSweep)) .sweep
    ++ dueIf (decide (statusPeriod s ≤ age s.time s.port.lastStatus)) .statusBuild

/-- The events that fall at the present moment, in the order in which they are taken. -/
def dueEvents (s : Station) : List Instr := dueExpiries s ++ duePeriods s

/-- A microsecond passes. -/
def passMicro (s : Station) : Station :=
  if s.subMs + 1 < 1000 then { s with timeUs := s.timeUs + 1, subMs := s.subMs + 1 }
  else { s with timeUs := s.timeUs + 1, subMs := 0, time := s.time + 1 }

/-- The step on an empty queue. -/
def tick (s : State) : State :=
  if running s.station then
    match dueEvents s.station with
    | [] => { s with station := passMicro s.station }
    | i :: is => { s with pending := i :: is }
  else s

end Sys2Proof.Machine
end

