-- ==== Sys2Proof/Machine/ExecExpiries.lean ====
section
/-! DEFINITION. The expiries that a sample, a decision or a blend event also finds for itself: each acts through the
same operation, when its condition holds in the station as it stands (notes/assumptions/8.md). -/

namespace Sys2Proof.Machine

/-- R119: LOWERING_TIMER_EXPIRY. -/
def execLoweringTimerExpiry (s : State) : Host.Outcome State Fault Refusal := actRunning loweringExpiry s

/-- R150: HILL_START_TIMER_EXPIRY. -/
def execHillStartTimerExpiry (s : State) : Host.Outcome State Fault Refusal := actRunning hillStartExpiry s

/-- R11, R12: EXTRAPOLATION_BUDGET_SPENT. -/
def execExtrapolationBudgetSpent (s : State) : Host.Outcome State Fault Refusal := actRunning budgetSpent s

/-- R17: SENSOR_SILENCE_EXPIRY; a failed axle follows its partner at once (R41). -/
def execSensorSilenceExpiry (axle : Axle) (s : State) : Host.Outcome State Fault Refusal :=
  actRunning (silenceRow axle) s

/-- R15: TRIM_STEP. -/
def execTrimStep (axle : Axle) (s : State) : Host.Outcome State Fault Refusal := actRunning (trimExpiry axle) s

/-- R27: CALM_TIMER_EXPIRY. -/
def execCalmTimerExpiry (axle : Axle) (s : State) : Host.Outcome State Fault Refusal := actRunning (calmExpiry axle) s

/-- R29: SLIP_PERSISTENT. -/
def execSlipPersistent (axle : Axle) (s : State) : Host.Outcome State Fault Refusal :=
  actRunning (slipPersistent axle) s

/-- R30: RECOVERY_HOLD_EXPIRY. -/
def execRecoveryHoldExpiry (axle : Axle) (s : State) : Host.Outcome State Fault Refusal :=
  actRunning (recoveryHoldExpiry axle) s

/-- R42: LOCK_TIMER_EXPIRY. -/
def execLockTimerExpiry (axle : Axle) (s : State) : Host.Outcome State Fault Refusal := actRunning (lockExpiry axle) s

/-- R42: WHEEL_LOCK. -/
def execWheelLock (axle : Axle) (s : State) : Host.Outcome State Fault Refusal := actRunning (wheelLockExpiry axle) s

/-- R44: RELEASE_TIMER_EXPIRY; a failed axle follows its partner at once (R41). -/
def execReleaseTimerExpiry (axle : Axle) (s : State) : Host.Outcome State Fault Refusal :=
  actRunning (releaseRow axle) s

/-- R33: RESLIP_CEILING_EXPIRY. -/
def execReslipCeilingExpiry (axle : Axle) (s : State) : Host.Outcome State Fault Refusal :=
  actRunning (reslipExpiry axle) s

/-- R52: DEAD_RECKONING_LIMIT. -/
def execDeadReckoningLimit (s : State) : Host.Outcome State Fault Refusal := actRunning deadReckoningLimit s

/-- R93: PIPE_FULL. -/
def execPipeFull (sander : CabEnd) (s : State) : Host.Outcome State Fault Refusal :=
  actRunning (pipeFull (axleOf sander)) s

/-- R95: TAIL_EMPTY. -/
def execTailEmpty (sander : CabEnd) (s : State) : Host.Outcome State Fault Refusal :=
  actRunning (tailEmpty (axleOf sander)) s

/-- R96: DUTY_LIMIT. -/
def execDutyLimit (sander : CabEnd) (s : State) : Host.Outcome State Fault Refusal :=
  actRunning (dutyLimit (axleOf sander)) s

/-- R96: REST_EXPIRY. -/
def execRestExpiry (sander : CabEnd) (s : State) : Host.Outcome State Fault Refusal :=
  actRunning (restExpiry (axleOf sander)) s

/-- R98: DOSING_PERIOD_START. -/
def execDosingPeriodStart (sander : CabEnd) (s : State) : Host.Outcome State Fault Refusal :=
  actRunning (dosingPeriodStart (axleOf sander)) s

/-- R98: OPEN_TIME_END. -/
def execOpenTimeEnd (sander : CabEnd) (s : State) : Host.Outcome State Fault Refusal :=
  actRunning (openTimeEnd (axleOf sander)) s

/-- R87: SLIP_HOLD_EXPIRY. -/
def execSlipHoldExpiry (s : State) : Host.Outcome State Fault Refusal := actRunning slipHoldExpiry s

/-- R88: HILL_START_SANDING_EXPIRY. -/
def execHillStartSandingExpiry (s : State) : Host.Outcome State Fault Refusal := actRunning hillSandExpiry s

/-- R101: SAND_EMPTY. -/
def execSandEmpty (sander : CabEnd) (s : State) : Host.Outcome State Fault Refusal :=
  actRunning (sandEmpty (axleOf sander)) s

/-- R118: ESCALATION_TIMER_EXPIRY. -/
def execEscalationTimerExpiry (s : State) : Host.Outcome State Fault Refusal := actRunning escalationExpiry s

/-- R120: TRACK_BRAKE_RELEASE_EXPIRY. -/
def execTrackBrakeReleaseExpiry (s : State) : Host.Outcome State Fault Refusal := actRunning mtbReleaseExpiry s

/-- R142: STANDSTILL. -/
def execStandstill (s : State) : Host.Outcome State Fault Refusal := actRunning standstillExpiry s

/-- R151: ROLLBACK_TIMER_EXPIRY. -/
def execRollbackTimerExpiry (s : State) : Host.Outcome State Fault Refusal :=
  actRunning (announced rollbackExpiry) s

/-- R154: PARK_TIMER_EXPIRY. -/
def execParkTimerExpiry (s : State) : Host.Outcome State Fault Refusal :=
  actRunning (announced parkExpiry) s

/-- R155: WHEEL_MOVEMENT_WAKE. -/
def execWheelMovementWake (s : State) : Host.Outcome State Fault Refusal :=
  actRunning (announced wheelWake) s

end Sys2Proof.Machine
end

