-- ==== Sys2Proof/Machine/ExecLink.lean ====
section
/-! DEFINITION. The bogie link and the plant lines. The raw levels of the debounced inputs are kept in every life
state, so that a start finds them. -/

namespace Sys2Proof.Machine

/-- R173, R174: INVERTER_REPORT. -/
def execInverterReport (bytes : List Byte) (s : State) : Host.Outcome State Fault Refusal :=
  actRunning (inverterReport bytes) s

/-- R173, R174, R176: BRAKE_UNIT_REPORT. -/
def execBrakeUnitReport (bytes : List Byte) (s : State) : Host.Outcome State Fault Refusal :=
  actRunning (brakeReport bytes) s

/-- R174: PLANT_SILENCE_EXPIRY. -/
def execPlantSilenceExpiry (unit : PlantUnit) (s : State) : Host.Outcome State Fault Refusal :=
  actRunning (plantSilence unit) s

/-- R178: EMERGENCY_LOOP_CHANGE. -/
def execEmergencyLoopChange (level : LoopLevel) (s : State) : Host.Outcome State Fault Refusal := act (loopRaw level) s

/-- R178: EMERGENCY_LOOP_DELIVERY. -/
def execEmergencyLoopDelivery (s : State) : Host.Outcome State Fault Refusal := actRunning loopDelivery s

/-- R178: SHOE_DOWN_SENSOR_CHANGE. -/
def execShoeDownSensorChange (level : ShoeLevel) (s : State) : Host.Outcome State Fault Refusal := act (shoeRaw level) s

/-- R178: SHOE_DOWN_DELIVERY. -/
def execShoeDownDelivery (s : State) : Host.Outcome State Fault Refusal := actRunning shoeDelivery s

end Sys2Proof.Machine
end

