-- ==== Sys2Proof/Machine/ExecPeriodic.lean ====
section
/-! DEFINITION. The periodic events and the wheel-speed edge. -/

namespace Sys2Proof.Machine

/-- R1: WHEEL_SPEED_EDGE; a low level on track 2 gives TOWARD END 1. -/
def execWheelSpeedEdge (axle : Axle) (track2 : TrackLevel) (s : State) : Host.Outcome State Fault Refusal :=
  actRunning (edge axle (track2 == .low)) s

/-- R5: SPEED_SAMPLE. -/
def execSpeedSample (s : State) : Host.Outcome State Fault Refusal := actRunning speedSample s

/-- R86: SANDER_DECISION. -/
def execSanderDecision (s : State) : Host.Outcome State Fault Refusal := actRunning sanderDecision s

/-- R111: BLEND_EVENT. -/
def execBlendEvent (s : State) : Host.Outcome State Fault Refusal := actRunning blendEvent s

/-- R71: SWEEP. -/
def execSweep (s : State) : Host.Outcome State Fault Refusal := actRunning sweepMap s

/-- R166: STATUS_BUILD. -/
def execStatusBuild (s : State) : Host.Outcome State Fault Refusal := actRunning buildStatus s

end Sys2Proof.Machine
end

