-- ==== Sys2Proof/Machine/ExecService.lean ====
section
/-! DEFINITION. The service commands (R184, R185). -/

namespace Sys2Proof.Machine

/-- READ STATUS. -/
def execReadStatus (req : Request) (s : State) : Host.Outcome State Fault Refusal :=
  actRunning (taken 1 req readStatus) s

/-- READ FAULTS. -/
def execReadFaults (req : Request) (s : State) : Host.Outcome State Fault Refusal :=
  actRunning (taken 2 req readFaults) s

/-- CLEAR FAULT. -/
def execClearFault (req : Request) (s : State) : Host.Outcome State Fault Refusal :=
  actRunning (taken 3 req (clearFault (argByte req 0))) s

/-- CLEAR ALL FAULTS. -/
def execClearAllFaults (req : Request) (s : State) : Host.Outcome State Fault Refusal :=
  actRunning (taken 4 req clearAllFaults) s

/-- CLEAR OVERFLOW. -/
def execClearOverflow (req : Request) (s : State) : Host.Outcome State Fault Refusal :=
  actRunning (taken 5 req clearOverflow) s

/-- READ MAP. -/
def execReadMap (req : Request) (s : State) : Host.Outcome State Fault Refusal := actRunning (taken 6 req readMap) s

/-- CLEAR MAP. -/
def execClearMap (req : Request) (s : State) : Host.Outcome State Fault Refusal :=
  actRunning (taken 7 req (clearMap req)) s

/-- FILLED. -/
def execFilled (req : Request) (s : State) : Host.Outcome State Fault Refusal := actRunning (taken 8 req (filled req)) s

/-- WRITE COMMISSIONING. -/
def execWriteCommissioning (req : Request) (s : State) : Host.Outcome State Fault Refusal :=
  actRunning (taken 9 req (writeCommissioning req)) s

/-- A request of unknown code. -/
def execBadRequest (code : Byte) (req : Request) (s : State) : Host.Outcome State Fault Refusal :=
  actRunning (taken code req id) s

end Sys2Proof.Machine
end

