-- ==== Sys2Proof/Machine/ExecStarts.lean ====
section
/-! DEFINITION. The starts and the store: POWER_ON_START, SUPPLY_LOSS, STORE_WRITE_END, RESTART. -/

namespace Sys2Proof.Machine

/-- R182: POWER_ON_START. -/
def execPowerOnStart (plug : CodePlug) (comm run : EccFinding) (s : State) : Host.Outcome State Fault Refusal :=
  act (powerOnStart plug comm run) s

/-- R177, R183: SUPPLY_LOSS. -/
def execSupplyLoss (s : State) : Host.Outcome State Fault Refusal := act supplyLoss s

/-- R183: STORE_WRITE_END. -/
def execStoreWriteEnd (s : State) : Host.Outcome State Fault Refusal := actRunning storeWriteEnd s

/-- R187: RESTART. -/
def execRestart (req : Request) (plug : CodePlug) (comm : EccFinding) (s : State) : Host.Outcome State Fault Refusal :=
  actRunning (taken 10 req (serviceRestart plug comm)) s

end Sys2Proof.Machine
end

