-- ==== Sys2Proof/Machine/ExecTrainline.lean ====
section
/-! DEFINITION. The trainline: arrivals, silence and ageing, the transmit slots. -/

namespace Sys2Proof.Machine

/-- R159 to R161: DEMAND_ARRIVAL. -/
def execDemandArrival (frame : Frame) (s : State) : Host.Outcome State Fault Refusal :=
  actRunning (demandArrival frame) s

/-- R159, R160, R163, R165: STATUS_ARRIVAL. -/
def execStatusArrival (frame : Frame) (s : State) : Host.Outcome State Fault Refusal :=
  actRunning (statusArrival frame) s

/-- R66, R159: RAIL_REPORT_ARRIVAL. -/
def execRailReportArrival (frame : Frame) (s : State) : Host.Outcome State Fault Refusal :=
  actRunning (railReportArrival frame) s

/-- R75, R159: MAP_CLEAR_ARRIVAL. -/
def execMapClearArrival (frame : Frame) (s : State) : Host.Outcome State Fault Refusal :=
  actRunning (mapClearArrival frame) s

/-- R162: DEMAND_SILENCE. -/
def execDemandSilence (s : State) : Host.Outcome State Fault Refusal := actRunning demandSilence s

/-- R164: PEER_RECORD_SILENT. -/
def execPeerRecordSilent (peer : Fin 8) (s : State) : Host.Outcome State Fault Refusal := actRunning (peerSilent peer) s

/-- R164: PEER_LOST. -/
def execPeerLost (peer : Fin 8) (s : State) : Host.Outcome State Fault Refusal := actRunning (peerLost peer) s

/-- R157, R168: CONTENTION_LOST. -/
def execContentionLost (s : State) : Host.Outcome State Fault Refusal := actRunning contentionLost s

/-- R157: FRAME_SENT. -/
def execFrameSent (s : State) : Host.Outcome State Fault Refusal := actRunning frameSent s

/-- R168: LINE_FREE_OFFER. -/
def execLineFreeOffer (s : State) : Host.Outcome State Fault Refusal := actRunning lineFreeOffer s

/-- R169: STATUS_SLOT_EXPIRY. -/
def execStatusSlotExpiry (s : State) : Host.Outcome State Fault Refusal := actRunning statusSlotExpiry s

/-- R83: OUTBOX_EXPIRY. -/
def execOutboxExpiry (s : State) : Host.Outcome State Fault Refusal := actRunning expireOutbox s

end Sys2Proof.Machine
end

