-- ==== Sys2Proof/Machine/Dispatch.lean ====
section
/-! DEFINITION. What each command does: one meaning for each row of spec/opcode_table.json. -/

namespace Sys2Proof.Machine

def exec (i : Instr) (s : State) : Host.Outcome State Fault Refusal :=
  match i with
  | .powerOnStart plug comm run => Sys2Proof.Machine.execPowerOnStart plug comm run s
  | .supplyLoss => Sys2Proof.Machine.execSupplyLoss s
  | .wheelSpeedEdge axle track2 => Sys2Proof.Machine.execWheelSpeedEdge axle track2 s
  | .speedSample => Sys2Proof.Machine.execSpeedSample s
  | .sanderDecision => Sys2Proof.Machine.execSanderDecision s
  | .blendEvent => Sys2Proof.Machine.execBlendEvent s
  | .sweep => Sys2Proof.Machine.execSweep s
  | .statusBuild => Sys2Proof.Machine.execStatusBuild s
  | .demandArrival frame => Sys2Proof.Machine.execDemandArrival frame s
  | .statusArrival frame => Sys2Proof.Machine.execStatusArrival frame s
  | .railReportArrival frame => Sys2Proof.Machine.execRailReportArrival frame s
  | .mapClearArrival frame => Sys2Proof.Machine.execMapClearArrival frame s
  | .demandSilence => Sys2Proof.Machine.execDemandSilence s
  | .peerRecordSilent peer => Sys2Proof.Machine.execPeerRecordSilent peer s
  | .peerLost peer => Sys2Proof.Machine.execPeerLost peer s
  | .contentionLost => Sys2Proof.Machine.execContentionLost s
  | .frameSent => Sys2Proof.Machine.execFrameSent s
  | .lineFreeOffer => Sys2Proof.Machine.execLineFreeOffer s
  | .statusSlotExpiry => Sys2Proof.Machine.execStatusSlotExpiry s
  | .outboxExpiry => Sys2Proof.Machine.execOutboxExpiry s
  | .inverterReport bytes => Sys2Proof.Machine.execInverterReport bytes s
  | .brakeUnitReport bytes => Sys2Proof.Machine.execBrakeUnitReport bytes s
  | .plantSilenceExpiry unit => Sys2Proof.Machine.execPlantSilenceExpiry unit s
  | .emergencyLoopChange level => Sys2Proof.Machine.execEmergencyLoopChange level s
  | .emergencyLoopDelivery => Sys2Proof.Machine.execEmergencyLoopDelivery s
  | .shoeDownSensorChange level => Sys2Proof.Machine.execShoeDownSensorChange level s
  | .shoeDownDelivery => Sys2Proof.Machine.execShoeDownDelivery s
  | .loweringTimerExpiry => Sys2Proof.Machine.execLoweringTimerExpiry s
  | .hillStartTimerExpiry => Sys2Proof.Machine.execHillStartTimerExpiry s
  | .storeWriteEnd => Sys2Proof.Machine.execStoreWriteEnd s
  | .readStatus req => Sys2Proof.Machine.execReadStatus req s
  | .readFaults req => Sys2Proof.Machine.execReadFaults req s
  | .clearFault req => Sys2Proof.Machine.execClearFault req s
  | .clearAllFaults req => Sys2Proof.Machine.execClearAllFaults req s
  | .clearOverflow req => Sys2Proof.Machine.execClearOverflow req s
  | .readMap req => Sys2Proof.Machine.execReadMap req s
  | .clearMap req => Sys2Proof.Machine.execClearMap req s
  | .filled req => Sys2Proof.Machine.execFilled req s
  | .writeCommissioning req => Sys2Proof.Machine.execWriteCommissioning req s
  | .restart req plug comm => Sys2Proof.Machine.execRestart req plug comm s
  | .badRequest code req => Sys2Proof.Machine.execBadRequest code req s
  | .extrapolationBudgetSpent => Sys2Proof.Machine.execExtrapolationBudgetSpent s
  | .sensorSilenceExpiry axle => Sys2Proof.Machine.execSensorSilenceExpiry axle s
  | .trimStep axle => Sys2Proof.Machine.execTrimStep axle s
  | .calmTimerExpiry axle => Sys2Proof.Machine.execCalmTimerExpiry axle s
  | .slipPersistent axle => Sys2Proof.Machine.execSlipPersistent axle s
  | .recoveryHoldExpiry axle => Sys2Proof.Machine.execRecoveryHoldExpiry axle s
  | .lockTimerExpiry axle => Sys2Proof.Machine.execLockTimerExpiry axle s
  | .wheelLock axle => Sys2Proof.Machine.execWheelLock axle s
  | .releaseTimerExpiry axle => Sys2Proof.Machine.execReleaseTimerExpiry axle s
  | .reslipCeilingExpiry axle => Sys2Proof.Machine.execReslipCeilingExpiry axle s
  | .deadReckoningLimit => Sys2Proof.Machine.execDeadReckoningLimit s
  | .pipeFull sander => Sys2Proof.Machine.execPipeFull sander s
  | .tailEmpty sander => Sys2Proof.Machine.execTailEmpty sander s
  | .dutyLimit sander => Sys2Proof.Machine.execDutyLimit sander s
  | .restExpiry sander => Sys2Proof.Machine.execRestExpiry sander s
  | .dosingPeriodStart sander => Sys2Proof.Machine.execDosingPeriodStart sander s
  | .openTimeEnd sander => Sys2Proof.Machine.execOpenTimeEnd sander s
  | .slipHoldExpiry => Sys2Proof.Machine.execSlipHoldExpiry s
  | .hillStartSandingExpiry => Sys2Proof.Machine.execHillStartSandingExpiry s
  | .sandEmpty sander => Sys2Proof.Machine.execSandEmpty sander s
  | .escalationTimerExpiry => Sys2Proof.Machine.execEscalationTimerExpiry s
  | .trackBrakeReleaseExpiry => Sys2Proof.Machine.execTrackBrakeReleaseExpiry s
  | .standstill => Sys2Proof.Machine.execStandstill s
  | .rollbackTimerExpiry => Sys2Proof.Machine.execRollbackTimerExpiry s
  | .parkTimerExpiry => Sys2Proof.Machine.execParkTimerExpiry s
  | .wheelMovementWake => Sys2Proof.Machine.execWheelMovementWake s

end Sys2Proof.Machine
end

