-- ==== Sys2Proof/Safety.lean ====
section
/-! DEFINITION. The laws of the device as predicates on a station, and the values that both kinds of start leave. The
statements of Certificates/Slice0/Obligations.lean are made in these terms. -/

namespace Sys2Proof.Machine

/-! ## The rail condition map (R63, R70) -/

/-- An entry holds at least one part, an AT_LEAST never above its PEAK, and an observation count from 1 to 15. -/
def EntryLaw (e : MapEntry) : Prop :=
  hasPart e = true ∧ 1 ≤ e.count ∧ e.count ≤ 15 ∧ ∀ p a, e.peak = some p → e.atLeast = some a → a.mu ≤ p.mu

/-- R63: entries in strictly ascending order of map cell, no more than the depth, each by `EntryLaw`. -/
def MapLaw (s : Station) : Prop :=
  s.map.entries.Pairwise (fun a b => a.cell < b.cell) ∧ s.map.entries.length ≤ s.figs.mapDepth ∧
    ∀ e ∈ s.map.entries, EntryLaw e

/-- R77, R78: the station `t` after the cells of an actual granularity have been cleared from `z`: their entries gone and
no other changed, the outbox without the observations there, an aim there cancelled; the port's RAIL REPORT and the last
clear with its frame may change beside. -/
def Cleared (g : Granularity) (z t : Station) : Prop :=
  t = { z with
    map := { z.map with entries := t.map.entries, outbox := t.map.outbox, lastClear := t.map.lastClear }
    sanding := { z.sanding with aim := t.sanding.aim }
    port := { z.port with
      railSlot := t.port.railSlot, seqRail := t.port.seqRail, onLine := t.port.onLine, clearSlot := t.port.clearSlot
      seqClear := t.port.seqClear } } ∧
  t.map.entries = z.map.entries.filter (fun e => !clearsCell z.figs g e.cell) ∧
  t.map.outbox.map (·.obs) = (z.map.outbox.map (·.obs)).filter (keptByClear z.figs g) ∧
  (∀ a, z.sanding.aim = some a → t.sanding.aim = if clearsCell z.figs g a.mapCell then none else some a) ∧
  (z.sanding.aim = none → t.sanding.aim = none)

/-- R78, R82, R83: the RAIL REPORT after observations that fail `keep` have left the outbox of `z`: one that waits and held
such an observation is withdrawn and built afresh from the oldest that remain, one on the line goes on. -/
def RailAfterDrop (keep : Observation → Bool) (z t : Station) : Prop :=
  ((∀ i ∈ z.map.outbox, i.inFrame = true → keep i.obs = true) →
    t.map.outbox = z.map.outbox.filter (fun i => keep i.obs) ∧ t.port.railSlot = z.port.railSlot ∧
    t.port.seqRail = z.port.seqRail ∧ t.port.onLine = z.port.onLine) ∧
  ((∃ i ∈ z.map.outbox, i.inFrame = true ∧ keep i.obs = false) →
    (∀ f, z.port.railSlot = some f → t.port.onLine = z.port.onLine ∧
      (t.map.outbox = [] → t.port.railSlot = none ∧ t.port.seqRail = z.port.seqRail) ∧
      (t.map.outbox ≠ [] → t.port.railSlot = some ⟨(t.map.outbox.map (·.obs)).take 6, z.port.seqRail + 1⟩ ∧
        t.port.seqRail = z.port.seqRail + 1 ∧
        (t.map.outbox.filter (·.inFrame)).map (·.obs) = (t.map.outbox.map (·.obs)).take 6)) ∧
    (∀ f b, z.port.railSlot = none → z.port.onLine = some (.rail f b) →
      t.map.outbox = z.map.outbox.filter (fun i => keep i.obs) ∧ t.port.railSlot = none ∧
      t.port.seqRail = z.port.seqRail ∧ t.port.onLine = some (.rail f true)))

/-! ## Modes (R106 to R110) -/

/-- R106: the mode that the governing request gives, LINE_LOSS without one. -/
def requestedMode (b : Blend) : EffMode :=
  match b.governing with
  | none => .lineLoss
  | some g => effOf g.mode

/-- R106, R109, R110: a delivered OPEN loop gives EMERGENCY; the effective mode is EMERGENCY or the requested one; re-arm is
NEEDED in LINE_LOSS and EMERGENCY; the served mode and acceleration are those of R110's table. -/
def ModeLaw (s : Station) : Prop :=
  (s.link.loop.delivered = some .loopOpen → s.blend.effMode = .emergency) ∧
  (s.blend.effMode = .emergency ∨ s.blend.effMode = requestedMode s.blend) ∧
  (lossMode s.blend.effMode = true → s.blend.rearm = true) ∧
  s.blend.served = servedFor s.blend.effMode s.blend.rearm s.hold.standstill ∧
  s.blend.accel = accelFor s.blend.effMode s.blend.rearm s.hold.standstill s.blend.governing

/-- R145, R147, R152, R154: HILL_START and a pending level start stand under a DRIVE request; a PARKED station is HOLDING and
serves no request but PARK; the park timer never stands at 2,000 ms between events; the hold state handed to the port is
ROLLBACK exactly while ROLLBACK lasts (notes/assumptions/38.md). That the park timer is cleared at the PARKED entry is
notes/assumptions/49.md. -/
def HoldLaw (s : Station) : Prop :=
  (s.hold.state = .hillStart → driveRequest s = true ∧ s.hold.hillSince.isSome = true) ∧
  (s.hold.levelPending = true → driveRequest s = true) ∧
  (s.life = .parked → s.hold.state = .holding ∧ ∀ g, s.blend.governing = some g → g.mode = .park) ∧
  reached 2000 s.hold.parkTime = false ∧
  (s.hold.shown = .rollback ↔ s.hold.state = .rollback)

/-- R119, R120: the track brake is down only in BRAKE, LINE_LOSS or EMERGENCY and only on a station with the strap; the
contactor is closed only while it is commanded down, and throughout that on a station with supply; the lowering timer
runs in LOWERING alone, and reads as stopped elsewhere (notes/assumptions/47.md). -/
def TrackBrakeLaw (s : Station) : Prop :=
  (s.blend.mtb ≠ .up → mtbMode s.blend.effMode = true ∧ s.plug.trackBrake = true) ∧
  (s.blend.contactorClosed = true → s.blend.mtb ≠ .up) ∧
  (s.life ≠ .off → s.blend.mtb ≠ .up → s.blend.contactorClosed = true) ∧
  (s.blend.loweringSince.isSome = true ↔ s.blend.mtb = .lowering)

/-! ## Takes (R130, R133, R135) -/

/-- The sum of the takes is within the spare they were computed from, and an APPLIED take stands on a peer that matches,
is short, and has published the generation it is linked to. -/
def TakesLaw (s : Station) : Prop :=
  (s.makeUp.takes.map (·.amount)).sum ≤ s.makeUp.spare ∧
  ∀ t ∈ s.makeUp.takes, t.applied = true →
    ∃ c, (t.peer, c) ∈ matchingPeers s ∧ c.generation = t.generation ∧ 0 < shortfallOf c

/-! ## Sander valves (R97, R100) -/

/-- R97: a valve is open only in FILLING and FLOWING, with sand in the box; an open interval runs while it is open. -/
def ValveLaw (d : Sander) : Prop :=
  (d.valveOpen = true → spreading d = true ∧ d.box ≠ 0) ∧ (d.valveOpen = d.interval.isSome)

/-- Both valves. -/
def ValvesLaw (s : Station) : Prop := ValveLaw s.sanders.a ∧ ValveLaw s.sanders.b

/-- R92, R93, R97, R98: a FILLING sander's valve stands open on a station with supply, and a dosing period runs in FLOWING
alone. -/
def FillingLaw (s : Station) : Prop :=
  ∀ x, (s.life ≠ .off → (pick s.sanders x).state = .filling → (pick s.sanders x).valveOpen = true) ∧
    ((pick s.sanders x).dosing.isSome = true → (pick s.sanders x).state = .flowing)

/-- R99, step 2 of a decision for the sander at an axle: the map's entries before and after. -/
def CellRecorded (z : Station) (x : Axle) (es es' : List MapEntry) : Prop :=
  ∀ (d : Sander) (a : Attrs) (enters : Prop), d = pick z.sanders x → a = pick z.pos.attrSander x →
    (enters ↔ (d.state = .flowing ∨ d.state = .tailing) ∧ d.lastCell ≠ some (a.position / 5000)) →
    (∀ c, enters → a.mapCell = some c →
      es' = mergeObs z.figs.mapDepth z.pos.sense ⟨.sanded, c, 1, 0, z.pos.sense, .own, z.time⟩ es) ∧
    (¬enters ∨ a.mapCell = none → es' = es)

/-! ## The outbox and the RAIL REPORT slot (R81 to R83, R167) -/

/-- The observations marked IN FRAME, oldest first. -/
def inFrameObs (box : List OutboxItem) : List Observation := (box.filter (·.inFrame)).map (·.obs)

/-- A RAIL REPORT carries one to six observations. -/
def RailFrameLaw (f : RailFrame) : Prop := 1 ≤ f.observations.length ∧ f.observations.length ≤ 6

/-- At most 12 observations, at most 6 IN FRAME; a RAIL REPORT waits or is on the line, not both, and carries exactly the
observations IN FRAME until one of them has left; with neither, the outbox is empty. -/
def OutboxLaw (s : Station) : Prop :=
  s.map.outbox.length ≤ 12 ∧ (inFrameObs s.map.outbox).length ≤ 6 ∧
  match s.port.railSlot, s.port.onLine with
  | some _, some (.rail _ _) => False
  | some f, _ => RailFrameLaw f ∧ f.observations = inFrameObs s.map.outbox
  | none, some (.rail f spoiled) => RailFrameLaw f ∧ (spoiled = false → f.observations = inFrameObs s.map.outbox)
  | none, _ => s.map.outbox = []

/-! ## Faults (R180) -/

/-- The table has eight records. -/
def FaultLaw (s : Station) : Prop := s.faults.records.length = 8

/-- The pending records of a kind. -/
def pendingOf (k : FaultKind) (t : FaultTable) : List FaultRecord := t.records.filterMap (Option.filter fun r => r.kind == k)

/-! ## The commissioned figures and the route windows (R55 to R60, R176) -/

/-- R55, R56: a window as loaded from its seven stored fields. That a negative start block disables it is the model's choice
(notes/assumptions/20.md). -/
def WindowOf (f : Nat → Int) (w : RouteWindow) : Prop :=
  w.startBlock = (f 0).toNat ∧ w.stopBlock = (f 1).toNat ∧ w.gradient = max (-160) (min 160 (f 2)) ∧
  (w.sandInhibit = true ↔ f 3 = 1) ∧ (w.obsInhibit = true ↔ f 4 = 1) ∧ w.rateSet = (f 5).toNat ∧
  w.mapOffset = max (-20000) (min 20000 (f 6)) ∧
  (w.enabled = true ↔ 0 ≤ f 0 ∧ f 0 ≤ 9999 ∧ f 1 ≤ 9999 ∧ f 0 ≤ f 1)

/-- R182, R184: the figures in force from the 262 stored fields, in their order; a crush load below the empty load is taken
as the empty load (R176). That a negative figure is taken as 0 is the model's choice (notes/assumptions/20.md). -/
def FiguresOf (fields : List Int) (c : Commissioning) : Prop :=
  ∀ f : Nat → Int, (∀ i, f i = fields.getD i 0) →
    c.teeth = (f 0).toNat ∧ c.diameter = ⟨(f 1).toNat, (f 2).toNat⟩ ∧ c.aTracMax = f 3 ∧ c.aBrakeMax = f 4 ∧
    c.axleMax = (f 5).toNat ∧ c.lookAhead = (f 6).toNat ∧ c.tramLength = (f 7).toNat ∧ c.wheelbase = (f 8).toNat ∧
    c.windows.length = 32 ∧ (∀ n w, c.windows[n]? = some w → WindowOf (fun i => f (9 + 7 * n + i)) w) ∧
    c.mapDepth = (f 233).toNat ∧ c.boxCapacity = (f 234).toNat ∧
    c.rateSets.length = 4 ∧ (∀ n r, c.rateSets[n]? = some r → r.base = (f (235 + 6 * n)).toNat ∧
      r.flowDelay = (f (236 + 6 * n)).toNat ∧ r.dividers.length = 4 ∧
      ∀ b d, r.dividers[b]? = some d → d = (f (237 + 6 * n + b)).toNat) ∧
    c.frictionMax = (f 259).toNat ∧ c.emptyLoad = (f 260).toNat ∧ c.crushLoad = max (f 261).toNat (f 260).toNat

/-- R182, R55: the figures of a DEGRADED start: the defaults of the chapters' tables, every window disabled. -/
def DefaultFigures (c : Commissioning) : Prop :=
  c.teeth = 90 ∧ c.diameter = ⟨6200, 6200⟩ ∧ c.aTracMax = 1600 ∧ c.aBrakeMax = 3800 ∧ c.axleMax = 40000 ∧
  c.lookAhead = 30000 ∧ c.tramLength = 36000 ∧ c.wheelbase = 1800 ∧ c.windows.length = 32 ∧
  (∀ w ∈ c.windows, w.enabled = false) ∧ c.mapDepth = 256 ∧ c.boxCapacity = 25000 ∧
  c.rateSets = List.replicate 4 ⟨15000, 300, [4, 2, 1, 1]⟩ ∧ c.frictionMax = 28000 ∧ c.emptyLoad = 7500 ∧
  c.crushLoad = 14500

/-- R56: an enabled window contains a position. -/
def Contains (w : RouteWindow) (p : Nat) : Prop :=
  w.enabled = true ∧ w.startBlock * 10000 ≤ p ∧ p ≤ w.stopBlock * 10000 + 9999

/-- R57 to R59: the attributes of a position while the position state is not LOST: those of the lowest-numbered window that
contains it, or the defaults, with the rise in the travel sense and the map cell. -/
def Governed (figs : Commissioning) (sense : Sense) (a : Attrs) : Prop :=
  (∀ n w, figs.windows[n]? = some w → Contains w a.position →
    (∀ k u, k < n → figs.windows[k]? = some u → ¬Contains u a.position) →
    a.window = some n ∧ a.gradient = w.gradient ∧ a.sandInhibit = w.sandInhibit ∧ a.obsInhibit = w.obsInhibit ∧
      a.rateSet = w.rateSet ∧ a.mapOffset = w.mapOffset) ∧
  ((∀ w ∈ figs.windows, ¬Contains w a.position) →
    a.window = none ∧ a.gradient = 0 ∧ a.sandInhibit = false ∧ a.obsInhibit = false ∧ a.rateSet = 0 ∧ a.mapOffset = 0) ∧
  (sense = .up → a.rise = a.gradient) ∧ (sense = .down → a.rise = -a.gradient) ∧
  ∀ c : Int, c = ((a.position / 5000 : Nat) : Int) + a.mapOffset →
    (0 ≤ c → c ≤ 19999 → a.mapCell = some c.toNat) ∧ (c < 0 ∨ 19999 < c → a.mapCell = none)

/-- R60: the attributes of a position in LOST. -/
def LostAttrs (a : Attrs) : Prop :=
  a.gradient = 0 ∧ a.rise = 0 ∧ a.sandInhibit = true ∧ a.obsInhibit = true ∧ a.rateSet = 0 ∧
    a.mapOffset = 0 ∧ a.mapCell = none

/-- R47, R61: the four attribute sets as a resolution leaves them: at the station position, half a wheelbase ahead of it and
half a wheelbase behind, each with the attributes of R57 to R60. -/
def Resolved (figs : Commissioning) (p : Position) : Prop :=
  p.attrStation.position = p.station ∧
  (∀ half d : Int, half = (figs.wheelbase / 2 : Nat) → d = (match p.sense with | .up => half | .down => -half) →
    p.attrLeading.position = (max 0 (min 100000000 (p.station + d))).toNat ∧
    (pick p.attrSander (axleOf p.leadingEnd)).position = (max 0 (min 100000000 (p.station + d))).toNat ∧
    (pick p.attrSander (axleOf (otherEnd p.leadingEnd))).position = (max 0 (min 100000000 (p.station - d))).toNat) ∧
  ∀ a ∈ [p.attrStation, p.attrLeading, p.attrSander.a, p.attrSander.b],
    (p.state ≠ .lost → Governed figs p.sense a) ∧ (p.state = .lost → LostAttrs a)

/-! ## The creep controller's fault reports of a sample (R29, R42, R44) -/

/-- What an axle adds to the fault table at a sample from the station `z` to the station `t`; `m` is the station after step 3
of R5. An axle that fails there reports WHEEL_LOCK first where its flag was not yet set. -/
def creepReports (z m t : Station) (x : Axle) (f : FaultTable) : FaultTable :=
  let add := fun kind g => recordFault g z.time t.pos.attrLeading.mapCell kind (some x) none
  if (pick m.axles x).sensor = .ok ∧ (pick t.axles x).sensor = .failed then
    add .speedSensor (if (pick z.creep x).wheelLock then f else add .wheelLock f)
  else if (pick z.creep x).slipReported = false ∧ (pick t.creep x).slipReported = true then add .slipPersistent f
  else if (pick z.creep x).wheelLock = false ∧ (pick t.creep x).wheelLock = true then add .wheelLock f
  else f

/-! ## A sample of the creep state machine (R21, R25 to R33, R42 to R44) -/

/-- R22: the applied force `F` of an axle at a sample in a direction; the premises on the reports hold of every station
that is reached (notes/assumptions/24.md). -/
def AppliedForce (z : Station) (dir : EffortDir) (x : Axle) (F : Nat) : Prop :=
  ∀ E B : Nat, (z.link.inverter.state = .present → z.link.inverter.report ≠ none) →
    (z.link.brake.state = .present → z.link.brake.report ≠ none) →
    (z.plug.kind = .trailer → E = 0) →
    (z.plug.kind = .motor → z.link.inverter.state = .lost → E = (pick z.creep x).electric) →
    (∀ r, z.plug.kind = .motor → z.link.inverter.state = .present → z.link.inverter.report = some r →
      E = if dir = .traction then (pick r.achieved x).toNat else (-(pick r.achieved x)).toNat) →
    (z.link.brake.state = .lost → B = (pick z.creep x).friction) →
    (∀ r, z.link.brake.state = .present → z.link.brake.report = some r → B = pick r.friction x) →
    (dir = .rest → F = 0) ∧ (dir = .traction → F = E) ∧ (dir = .braking ∨ dir = .backward → F = E + B)

/-- R28, R33: what an entry to SLIPPING at the sample leaves in the record `u`, from the record `c` before the sample. -/
def SlipEntered (z t : Station) (c u : AxleCreep) (peak ceiling : Nat) : Prop :=
  u.limit = min (min c.limit (700 * peak / 1000)) ceiling ∧ u.stateTime = 0 ∧ u.calm = none ∧
  t.sanding.slipHold = some (after z.time 3000) ∧
  u.reslips = (⟨z.time, peak⟩ :: c.reslips.filter fun r => age z.time r.time ≤ 5000).take 3 ∧
  ∀ low : Nat, u.reslips.length = 3 → (∀ r ∈ u.reslips, low ≤ r.peak) → (∃ r ∈ u.reslips, r.peak = low) →
    u.ceiling = some ⟨900 * low / 1000, after z.time 10000⟩ ∧ t.sanding.reslipHold = some (after z.time 10000)

/-- One sample outside REST of an axle whose sensor is OK, from the station `z` to the station `t`: the lock test, the slip
test, then the rule of the state. `turn` is a change of effort direction, `hist` the creep history that the sample finds;
`state` and `time` are those after R32, `lock` the lock timer of the sample. The order of the tests where R25 leaves it
open is notes/assumptions/15.md. -/
def MachineSampled (z t : Station) (x : Axle) (turn : Prop) (hist : List Int) : Prop :=
  ∀ (c u : AxleCreep) (v fwd creep target slip : Int) (peak ceiling demand time : Nat) (state : CreepState)
    (locks slips : Prop) (lock : Option Nat),
    c = pick z.creep x → u = pick t.creep x → v = t.ref.speed → fwd = (pick t.axles x).forward →
    creep = (if t.creepDir = .braking then v - fwd else fwd - v) →
    target = (max 100 (40 * v.natAbs / 1000) : Nat) → slip = (max 300 (120 * v.natAbs / 1000) : Nat) →
    (∀ f ∈ u.peaks, f ≤ peak) → (peak = 0 ∨ peak ∈ u.peaks) →
    ceiling = ceilingOf t x → demand = demandElectric t x + demandFriction t x →
    (turn → c.state = .slipping ∨ c.state = .locked ∨ c.state = .recovering → state = .recovering ∧ time = 0) →
    (¬turn ∨ (c.state ≠ .slipping ∧ c.state ≠ .locked ∧ c.state ≠ .recovering) →
      state = c.state ∧ time = c.stateTime + 5) →
    (locks ↔ state ≠ .locked ∧ t.creepDir = .braking ∧ 2000 < v ∧ fwd < (100 * v).tdiv 1000) →
    (¬locks → lock = none) → (locks → turn ∨ c.lock = none → lock = some 0) →
    (∀ n, locks → ¬turn → c.lock = some n → lock = some (n + 5)) →
    (slips ↔ slip < creep ∨ ∃ a b d e, hist = [a, b, d, e] ∧ a + 50 < creep) →
    u.history = (if hist.length < 4 then hist else hist.tail) ++ [creep] ∧
    (∀ n, lock = some n → 150 ≤ n → u.state = .locked ∧ u.limit = min (min c.limit (700 * peak / 1000)) ceiling ∧
      u.stateTime = 0 ∧ u.lock = none ∧ u.release = none ∧ u.wheelLock = false) ∧
    ((∀ n, lock = some n → n < 150) → u.lock = lock ∧
      (state = .adhering ∨ state = .regulating ∨ state = .reapplying → slips →
        u.state = (if creep ≤ target then .recovering else .slipping) ∧ SlipEntered z t c u peak ceiling) ∧
      (state = .adhering → ¬slips → creep ≤ target →
        u.state = .adhering ∧ u.stateTime = time ∧ u.limit = min (c.limit + 100) ceiling) ∧
      (state = .adhering ∨ state = .reapplying → ¬slips → target < creep →
        u.state = .regulating ∧ u.stateTime = 0 ∧ u.calm = none ∧ u.limit = min (c.limit - 250) ceiling) ∧
      (state = .regulating → ¬slips → target < creep →
        u.state = .regulating ∧ u.stateTime = time ∧ u.calm = none ∧ u.limit = min (c.limit - 250) ceiling) ∧
      (∀ lim n : Nat, state = .regulating → ¬slips → creep ≤ target →
        (creep < target.tdiv 2 → lim = if c.limit < ceiling then min (c.limit + 100) ceiling else c.limit) →
        (target.tdiv 2 ≤ creep → lim = c.limit) → (c.calm = none → n = 0) → (∀ k, c.calm = some k → n = k + 5) →
        u.limit = min lim ceiling ∧
        (100 ≤ n → demand ≤ lim → u.state = .adhering ∧ u.stateTime = 0 ∧ u.calm = none) ∧
        (n < 100 ∨ lim < demand → u.state = .regulating ∧ u.stateTime = time ∧ u.calm = some n)) ∧
      (∀ goal lim : Nat, state = .reapplying ∨ (state = .recovering ∧ creep ≤ slip ∧ 200 ≤ time) →
        (state = .reapplying → ¬slips) → creep ≤ target → goal = min demand ceiling →
        lim = (if c.limit < goal then min (c.limit + 150) goal else c.limit) →
        u.limit = min lim ceiling ∧ (goal ≤ lim → u.state = .adhering ∧ u.stateTime = 0) ∧
        (lim < goal → u.state = .reapplying ∧ u.stateTime = if state = .recovering then 0 else time)) ∧
      (state = .recovering → creep ≤ slip → 200 ≤ time → target < creep →
        u.state = .regulating ∧ u.stateTime = 0 ∧ u.calm = none ∧ u.limit = min (c.limit - 250) ceiling) ∧
      (state = .recovering → creep ≤ slip → time < 200 →
        u.state = .recovering ∧ u.stateTime = time ∧ u.limit = min c.limit ceiling) ∧
      (state = .recovering → slip < creep → u.state = .slipping ∧ SlipEntered z t c u peak ceiling) ∧
      (state = .slipping → creep ≤ target → u.state = .recovering ∧ u.stateTime = 0 ∧ u.limit = min c.limit ceiling) ∧
      (state = .slipping → target < creep → u.state = .slipping ∧ u.stateTime = time ∧
        (1500 ≤ time → c.slipReported = false → u.limit = 0 ∧ u.slipReported = true) ∧
        (time < 1500 ∨ c.slipReported = true → u.limit = min c.limit ceiling ∧ u.slipReported = c.slipReported)) ∧
      (state = .locked → (500 * v).tdiv 1000 ≤ fwd →
        u.state = .recovering ∧ u.stateTime = 0 ∧ u.limit = min c.limit ceiling) ∧
      (state = .locked → fwd < (500 * v).tdiv 1000 → u.state = .locked ∧ u.stateTime = time ∧
        u.limit = min c.limit ceiling ∧ (u.wheelLock = true ↔ c.wheelLock = true ∨ 800 ≤ time) ∧
        ∀ free : Prop, (free ↔ (pick z.axles x).edgeSeen = false ∧ ∃ r, z.link.brake.state = .present ∧
            z.link.brake.report = some r ∧ pick r.friction x = 0) →
          (u.wheelLock = true → free → c.release = none → u.release = some 0) ∧
          (∀ n, u.wheelLock = true → free → c.release = some n → u.release = some (n + 5)) ∧
          (u.wheelLock = true → ¬free → u.release = none)))

/-! ## What both kinds of start leave -/

/-- R18, per axle; the trim is left to the kind of start. -/
def StartAxle (now : Millis) (a : AxleUnit) : Prop :=
  a.edges = [] ∧ a.speed = 0 ∧ a.forward = 0 ∧ a.lowSpeed = true ∧ a.sensor = .ok ∧ age now a.quietSince = 0 ∧
    a.learnTime = 0 ∧ a.learnSense = none

/-- R45, per axle. -/
def StartCreep (axleMax : Nat) (c : AxleCreep) : Prop :=
  c.state = .adhering ∧ c.limit = axleMax ∧ c.stateTime = 0 ∧ c.calm = none ∧ c.lock = none ∧ c.release = none ∧
    c.wheelLock = false ∧ c.history = [] ∧ c.peaks = [] ∧ c.reslips = [] ∧ c.ceiling = none ∧ c.preLimit = none ∧
    c.electric = 0 ∧ c.friction = 0

/-- R104, per sander; the estimate is left to the kind of start. -/
def StartSander (d : Sander) : Prop :=
  d.state = .closed ∧ d.pipe = 0 ∧ d.duty = 0 ∧ d.rest = 0 ∧ d.flowDelay = 0 ∧ d.restOwed = false ∧ d.dosing = none ∧
    d.interval = none ∧ d.lastCell = none ∧ d.valveOpen = false

/-- R60: the attributes of a position in LOST. That no window number is recorded is the model's choice
(notes/assumptions/34.md). -/
def LostAttributes (a : Attrs) : Prop :=
  a.position = 0 ∧ a.window = none ∧ a.gradient = 0 ∧ a.rise = 0 ∧ a.sandInhibit = true ∧ a.obsInhibit = true ∧
    a.rateSet = 0 ∧ a.mapOffset = 0 ∧ a.mapCell = none

/-- R18 and R45: the axle speed unit and the creep controller. -/
def StartWheels (s : Station) : Prop :=
  StartAxle s.time s.axles.a ∧ StartAxle s.time s.axles.b ∧
  s.ref.speed = 0 ∧ s.ref.status = .unseeded ∧ s.ref.lastChange = 0 ∧ s.ref.extrapTime = 0 ∧ s.ref.capApplied = true ∧
  StartCreep s.figs.axleMax s.creep.a ∧ StartCreep s.figs.axleMax s.creep.b ∧ s.cellRec = none ∧ s.creepDir = .rest

/-- R62 and R84: the position unit and the map. -/
def StartPlace (s : Station) : Prop :=
  s.pos.station = 0 ∧ s.pos.remainder = 0 ∧ s.pos.reckoned = 0 ∧ s.pos.state = .lost ∧ s.pos.leadingEnd = .end1 ∧
  s.pos.sense = .up ∧ s.pos.endTaken = false ∧ s.pos.change = none ∧
  LostAttributes s.pos.attrStation ∧ LostAttributes s.pos.attrLeading ∧ LostAttributes s.pos.attrSander.a ∧
  LostAttributes s.pos.attrSander.b ∧
  s.map.entries = [] ∧ s.map.outbox = [] ∧ s.map.lastClear = none ∧ age s.time s.map.lastSweep = 0

/-- R104: the sander control. -/
def StartSanders (s : Station) : Prop :=
  StartSander s.sanders.a ∧ StartSander s.sanders.b ∧ s.sanding.slipHold = none ∧ s.sanding.reslipHold = none ∧
  s.sanding.hillExpiry = none ∧ s.sanding.aim = none ∧ s.sanding.demandOn = false ∧
  s.sanding.shownStates = ⟨.closed, .closed⟩ ∧ s.sanding.shownBoxes = ⟨s.sanders.a.box, s.sanders.b.box⟩

/-- R122 and R140: the blend unit and the make-up unit. The axle capabilities of 0 are the model's choice
(notes/assumptions/3.md). -/
def StartForces (s : Station) : Prop :=
  s.blend.governing = none ∧ s.blend.conflict = false ∧ s.blend.effMode = .lineLoss ∧ s.blend.rearm = true ∧
  s.blend.served = .lineLoss ∧ s.blend.mass = 2 * s.figs.crushLoad ∧ s.blend.nominal = 0 ∧ s.blend.capability = 0 ∧
  s.blend.capNoMtb = 0 ∧ s.blend.demand = 0 ∧ s.blend.axles = ⟨⟨0, 0, 0, 0⟩, ⟨0, 0, 0, 0⟩⟩ ∧ s.blend.mtb = .up ∧
  s.blend.contactorClosed = false ∧ s.blend.escalation = none ∧ s.blend.release = none ∧ s.blend.loweringSince = none ∧
  s.blend.residualView = 0 ∧ s.blend.nominalView = 0 ∧
  s.makeUp.withdrawn = false ∧ s.makeUp.shortfall = 0 ∧ s.makeUp.spare = 0 ∧ s.makeUp.generation = 0 ∧
  s.makeUp.genShortfall = 0 ∧ s.makeUp.covered = 0 ∧ s.makeUp.residual = 0 ∧ s.makeUp.takes = []

/-- R156: the hold unit. -/
def StartHold (s : Station) : Prop :=
  s.life = .run ∧ s.hold.state = .holding ∧ s.hold.standstill = false ∧ s.hold.stillTime = none ∧ s.hold.armed = true ∧
  s.hold.levelPending = false ∧ s.hold.trailerReleased = false ∧ s.hold.hillSince = none ∧ s.hold.rollbackTime = none ∧
  s.hold.parkTime = none ∧ s.hold.shown = .holding ∧ s.hold.achieved = 0 ∧ s.hold.need = 0

/-- R170: the trainline port, with the STATUS built at the entry to RUN (R166) in its slot. -/
def StartPort (s : Station) : Prop :=
  s.port.peers = List.replicate 8 ⟨.absent, none⟩ ∧ s.port.demands = ⟨none, none⟩ ∧ s.port.announced = false ∧
  age s.time s.port.heardAt = 0 ∧ s.port.dupSeen = false ∧ s.port.seqStatus = 1 ∧ s.port.seqRail = 0 ∧
  s.port.seqClear = 0 ∧ s.port.clearSlot = none ∧ s.port.railSlot = none ∧ s.port.onLine = none ∧
  s.port.statusSlot = some ⟨statusContent s, 1, s.time⟩

/-- R179: the bogie link port. -/
def StartLink (s : Station) : Prop :=
  s.link.inverter.state = .lost ∧ s.link.brake.state = .lost ∧ s.link.brake.lossReported = false ∧
  s.link.inverter.lossReported = (s.plug.kind == .trailer) ∧ s.link.inverter.returns = 0 ∧ s.link.brake.returns = 0 ∧
  age s.time s.link.inverter.silentSince = 0 ∧ age s.time s.link.brake.silentSince = 0 ∧ s.link.inverter.report = none ∧
  s.link.brake.report = none ∧ s.link.loads = ⟨s.figs.crushLoad, s.figs.crushLoad⟩ ∧ s.link.loop.delivered = none ∧
  s.link.shoe.delivered = none ∧ age s.time s.link.loop.changedAt = 0 ∧ age s.time s.link.shoe.changedAt = 0

/-- The start values of every unit. -/
def StartValues (s : Station) : Prop :=
  StartWheels s ∧ StartPlace s ∧ StartSanders s ∧ StartForces s ∧ StartHold s ∧ StartPort s ∧ StartLink s

/-! ## What a frame can carry (R158) -/

/-- Every field of a STATUS content fits the bits that carry it, scaled fields at whole steps. -/
def StatusFits (c : StatusContent) : Prop :=
  -32768 ≤ c.forward.a ∧ c.forward.a ≤ 32767 ∧ -32768 ≤ c.forward.b ∧ c.forward.b ≤ 32767 ∧
  c.mass % 20 = 0 ∧ c.mass ≤ 40940 ∧ c.nominal % 2 = 0 ∧ c.nominal ≤ 131070 ∧ c.balance ≤ 131071 ∧ c.covered ≤ 131071 ∧
  c.generation ≤ 255 ∧ c.capability % 25 = 0 ∧ c.capability ≤ 204775 ∧ c.achieved % 50 = 0 ∧ c.achieved ≤ 102350 ∧
  c.need % 50 = 0 ∧ c.need ≤ 102350 ∧ (∀ n, c.mapCell = some n → n ≤ 32766) ∧ c.clearKind ≤ 3 ∧ c.clearId ≤ 255 ∧
  c.faultCount ≤ 15 ∧ c.oldestKind ≤ 15 ∧ c.boxes.a ≤ 65535 ∧ c.boxes.b ≤ 65535 ∧ c.takes.length ≤ 7 ∧
  ∀ t ∈ c.takes, t.peer ≤ 7 ∧ t.generation ≤ 255 ∧ t.amount ≤ 2097151

/-- Every field of an observation fits the bits that carry it. -/
def ObservationFits (o : Observation) : Prop := o.cell ≤ 32767 ∧ o.count ≤ 31 ∧ o.mu ≤ 511

/-- The argument of a granularity fits the bits that carry it. -/
def GranularityFits : Granularity → Prop
  | .all => True
  | .window n => n ≤ 65535
  | .cells first last => first ≤ 65535 ∧ last ≤ 65535

end Sys2Proof.Machine
end

