-- ==== Sys2Proof/Certificates/Slice0/Obligations.lean ====
section
/-! DEFINITION. The statements for the provers: each a proposition about the machine, made in the terms of Safety.lean and of
the named operations. `q` is the queue's rest, `z` the station before the command, `t` the station after it. A statement
that gives `t` as `z` with named fields replaced says with it that every other field of the station is unchanged. -/

section
open Sys2Proof Sys2Proof.Machine

/-! ## The step, the starts, the store -/

/-- A step takes the command at the front of the queue and runs it with the queue's rest. -/
def Obligations.StepRunsFrontCommand : Prop :=
  ∀ (c : Instr) (rest : List Instr) (z : Station), step ⟨c :: rest, z⟩ = exec c ⟨rest, z⟩

/-- The model's choice (notes/assumptions/1.md, 2.md and 8.md): on an empty queue a station without supply idles, a running
station first enqueues the events due, and with none due a microsecond passes. Without supply, and in START, no unit acts:
every command but a power-on start, a loss of supply and the raw levels of the two debounced inputs changes nothing. -/
def Obligations.EmptyQueueAndNoSupply : Prop :=
  (∀ z : Station,
    (running z = false → step ⟨[], z⟩ = .next ⟨[], z⟩) ∧
    (running z = true → dueEvents z ≠ [] → step ⟨[], z⟩ = .next ⟨dueEvents z, z⟩) ∧
    (running z = true → dueEvents z = [] → z.subMs < 999 →
      step ⟨[], z⟩ = .next ⟨[], { z with timeUs := z.timeUs + 1, subMs := z.subMs + 1 }⟩) ∧
    (running z = true → dueEvents z = [] → 999 ≤ z.subMs →
      step ⟨[], z⟩ = .next ⟨[], { z with timeUs := z.timeUs + 1, subMs := 0, time := z.time + 1 }⟩)) ∧
  ∀ (c : Instr) (q : List Instr) (z : Station), running z = false →
    (∀ plug comm run, c ≠ .powerOnStart plug comm run) → c ≠ .supplyLoss → (∀ l, c ≠ .emergencyLoopChange l) →
    (∀ l, c ≠ .shoeDownSensorChange l) → exec c ⟨q, z⟩ = .next ⟨q, z⟩

/-- POWER_ON_START on a station without supply: the start values of every unit, the figures of the commissioning block or
their defaults when it is uncorrectable, the trims and estimates of the running block or 0 and the reserve, and a fault
table that holds at most the two STORE_ faults of this start. The model's choices in it: time 0, axle capabilities of 0 and
every other start value without a rule (notes/assumptions/3.md); what this reading finds joins what is still found in the store
(notes/assumptions/12.md); negative fields and a negative start block (notes/assumptions/20.md); no window number in LOST
(notes/assumptions/34.md). -/
def Obligations.PowerOnStart : Prop :=
  ∀ (plug : CodePlug) (comm run : EccFinding) (q : List Instr) (z : Station), z.life = .off →
    ∃ t, exec (.powerOnStart plug comm run) ⟨q, z⟩ = .next ⟨q, t⟩ ∧
      StartValues t ∧ t.time = 0 ∧ t.plug = plug ∧
      t.store.comm = ⟨z.store.comm.fields, comm.corrected || z.store.comm.ecc.corrected,
        comm.uncorrectable || z.store.comm.ecc.uncorrectable⟩ ∧
      t.store.run = ⟨z.store.run.trims, z.store.run.boxes, run.corrected || z.store.run.ecc.corrected,
        run.uncorrectable || z.store.run.ecc.uncorrectable⟩ ∧
      t.degraded = t.store.comm.ecc.uncorrectable ∧
      (t.store.comm.ecc.uncorrectable = true → DefaultFigures t.figs) ∧
      (t.store.comm.ecc.uncorrectable = false → FiguresOf z.store.comm.fields t.figs) ∧
      (t.store.run.ecc.uncorrectable = true →
        t.axles.a.trim = 0 ∧ t.axles.b.trim = 0 ∧ t.sanders.a.box = 2000000 ∧ t.sanders.b.box = 2000000) ∧
      (t.store.run.ecc.uncorrectable = false →
        t.axles.a.trim = max (-80) (min 80 z.store.run.trims.a) ∧ t.axles.b.trim = max (-80) (min 80 z.store.run.trims.b) ∧
        t.sanders.a.box = min z.store.run.boxes.a (t.figs.boxCapacity * 1000) ∧
        t.sanders.b.box = min z.store.run.boxes.b (t.figs.boxCapacity * 1000)) ∧
      t.faults.overflow = false ∧
      (∀ r, some r ∈ t.faults.records ↔
        (∃ d, blocksShowing t.store.comm.ecc.corrected t.store.run.ecc.corrected = some d ∧
          r = ⟨.storeCorrected, none, none, 0, 0, 1, some d⟩) ∨
        (∃ d, blocksShowing t.store.comm.ecc.uncorrectable t.store.run.ecc.uncorrectable = some d ∧
          r = ⟨.storeInvalid, none, none, 0, 0, 1, some d⟩)) ∧
      ∀ a b d, blocksShowing a b = some d ↔
        (a = true ∧ b = true ∧ d = .both) ∨ (a = true ∧ b = false ∧ d = .commissioning) ∨ (a = false ∧ b = true ∧ d = .running)

/-- RESTART: BUSY during a store write; otherwise OK and a start that keeps the trims, the estimates clamped to the capacity
read again, the running block and the fault table, to which it reports what it finds in the commissioning block. The
model's choices in it: time runs on, the reply stands after the start, what this reading finds joins what is still found in the
block (notes/assumptions/12.md); the start values without a rule (notes/assumptions/3.md); negative fields
(notes/assumptions/20.md); no window number in LOST (notes/assumptions/34.md); STORE_CORRECTED is taken before STORE_INVALID
(notes/assumptions/43.md); a DEGRADED RESTART keeps trims and estimates (notes/assumptions/44.md). -/
def Obligations.Restart : Prop :=
  ∀ (req : Request) (plug : CodePlug) (comm : EccFinding) (q : List Instr) (z : Station),
    running z = true → sumOk 10 req = true → req.args = [] →
    (z.store.write ≠ none →
      exec (.restart req plug comm) ⟨q, z⟩ = .next ⟨q, { z with reply := some ⟨10, .busy, .empty⟩ }⟩) ∧
    (z.store.write = none →
      ∃ t, exec (.restart req plug comm) ⟨q, z⟩ = .next ⟨q, t⟩ ∧
        StartValues t ∧ t.time = z.time ∧ t.timeUs = z.timeUs ∧ t.plug = plug ∧
        t.reply = some ⟨10, .ok, .empty⟩ ∧
        t.store.comm = ⟨z.store.comm.fields, comm.corrected || z.store.comm.ecc.corrected,
          comm.uncorrectable || z.store.comm.ecc.uncorrectable⟩ ∧ t.store.run = z.store.run ∧
        t.degraded = t.store.comm.ecc.uncorrectable ∧
        (t.store.comm.ecc.uncorrectable = true → DefaultFigures t.figs) ∧
        (t.store.comm.ecc.uncorrectable = false → FiguresOf z.store.comm.fields t.figs) ∧
        t.axles.a.trim = z.axles.a.trim ∧ t.axles.b.trim = z.axles.b.trim ∧
        t.sanders.a.box = min (settleBox z.time z.sanders.a).box (t.figs.boxCapacity * 1000) ∧
        t.sanders.b.box = min (settleBox z.time z.sanders.b).box (t.figs.boxCapacity * 1000) ∧
        ∀ first : FaultTable, first = (if t.store.comm.ecc.corrected then
            recordFault z.faults z.time none .storeCorrected none (some .commissioning) else z.faults) →
          t.faults = if t.store.comm.ecc.uncorrectable then
            recordFault first z.time none .storeInvalid none (some .commissioning) else first)

/-- SUPPLY_LOSS closes each valve, opens the contactor and leaves the block under a write with uncorrectable words;
STORE_WRITE_END puts the written figures in place of the block, and a pending save starts with the figures of that
moment. -/
def Obligations.SupplyLossAndStoreWriteEnd : Prop :=
  (∀ (q : List Instr) (z : Station), ∃ t, exec .supplyLoss ⟨q, z⟩ = .next ⟨q, t⟩ ∧
    t = { z with
      life := .off
      store := t.store
      sanders := ⟨{ z.sanders.a with valveOpen := false, interval := none }, { z.sanders.b with valveOpen := false, interval := none }⟩
      blend := { z.blend with contactorClosed := false }
      reply := none } ∧
    (z.store.write = none → t.store = { z.store with pendingSave := false }) ∧
    (∀ f b, z.store.write = some (.commissioning f b) →
      t.store = ⟨⟨z.store.comm.fields, z.store.comm.ecc.corrected, true⟩, z.store.run, none, false⟩) ∧
    (∀ d e b, z.store.write = some (.running d e b) →
      t.store = ⟨z.store.comm, ⟨z.store.run.trims, z.store.run.boxes, z.store.run.ecc.corrected, true⟩, none, false⟩)) ∧
  (∀ (q : List Instr) (z : Station), running z = true →
    (z.store.write = none → exec .storeWriteEnd ⟨q, z⟩ = .next ⟨q, z⟩) ∧
    (∀ w, z.store.write = some w → ∃ t, exec .storeWriteEnd ⟨q, z⟩ = .next ⟨q, t⟩ ∧ t = { z with store := t.store } ∧
      (∀ f b, w = .commissioning f b → t.store.comm = ⟨f, .clean⟩ ∧ t.store.run = z.store.run) ∧
      (∀ d e b, w = .running d e b → t.store.run = ⟨d, e, .clean⟩ ∧ t.store.comm = z.store.comm) ∧
      t.store.pendingSave = false ∧
      (z.store.pendingSave = false → t.store.write = none) ∧
      (z.store.pendingSave = true → t.store.write =
        some (.running ⟨z.axles.a.trim, z.axles.b.trim⟩ ⟨z.sanders.a.box, z.sanders.b.box⟩ z.time))))

/-! ## Axle speed unit -/

/-- WHEEL_SPEED_EDGE: the edge joins the record as its newest with the time base and the direction that track 2 gives, the
oldest of 32 leaves, and the silence timer restarts; in PARKED the edge also counts toward the wheel wake. -/
def Obligations.WheelSpeedEdge : Prop :=
  ∀ (x : Axle) (track2 : TrackLevel) (q : List Instr) (z : Station), running z = true →
    exec (.wheelSpeedEdge x track2) ⟨q, z⟩ = .next ⟨q, { z with axles := put z.axles x { pick z.axles x with
      edges := ⟨z.timeUs, decide (track2 = .low)⟩ :: (pick z.axles x).edges.take 31
      quietSince := z.time
      edgeSeen := true
      wakeEdges := if z.life = .parked then z.time :: (pick z.axles x).wakeEdges.take 31 else (pick z.axles x).wakeEdges } }⟩

/-- SPEED_SAMPLE, axle speeds: the usable run `run` is the longest run from the newest edge of one direction and no more
than 100,000 µs old; under two edges give 0 with LOW_SPEED, and more give intervals × pulse distance × 1,000 / time. -/
def Obligations.SampleAxleSpeeds : Prop :=
  ∀ (q : List Instr) (z : Station), running z = true → ∃ t, exec .speedSample ⟨q, z⟩ = .next ⟨q, t⟩ ∧
    ∀ (x : Axle) (run rest : List Edge), (pick z.axles x).edges = run ++ rest →
      (∀ e ∈ run, age z.timeUs e.stamp ≤ 100000 ∧ run.head?.map (·.toEnd1) = some e.toEnd1) →
      (∀ e, rest.head? = some e → age z.timeUs e.stamp ≤ 100000 → run ≠ [] ∧ run.head?.map (·.toEnd1) ≠ some e.toEnd1) →
      (run.length < 2 → (pick t.axles x).speed = 0 ∧ (pick t.axles x).lowSpeed = true) ∧
      (∀ newest oldest, 2 ≤ run.length → run.head? = some newest → run.getLast? = some oldest →
        (pick t.axles x).lowSpeed = false ∧
        (pick t.axles x).speed = (if newest.toEnd1 then 1 else -1) *
          min 25000 ((((run.length - 1 : Nat) : Int) *
            (((((pick z.figs.diameter x : Nat) : Int) + (pick z.axles x).trim) * 314159).tdiv 1000).tdiv z.figs.teeth * 1000).tdiv
              (max 1 (age newest.stamp oldest.stamp)))) ∧
      (pick t.axles x).forward = (if z.pos.leadingEnd = .end1 then (pick t.axles x).speed else -(pick t.axles x).speed)

/-- R6, R7: the candidate set: each own axle with its sensor OK in ADHERING or REGULATING, and each axle that a FRESH peer's
latest STATUS flags. R8: which candidate is selected, by the hold state and the served mode. -/
def Obligations.CandidateSelection : Prop :=
  (∀ z : Station, candidateSet z =
    (([Axle.a, .b].filter fun x => decide ((pick z.axles x).sensor = .ok ∧
      ((pick z.creep x).state = .adhering ∨ (pick z.creep x).state = .regulating))).map fun x => (pick z.axles x).forward) ++
    (List.range 8).flatMap fun n => match (z.port.peers[n]? : Option Peer) with
      | some (Peer.mk .fresh (some l)) => (if l.content.candidate.a then [l.content.forward.a] else []) ++
          (if l.content.candidate.b then [l.content.forward.b] else [])
      | _ => []) ∧
  ∀ (hold : HoldState) (served : ServedMode) (l : List Int), l ≠ [] →
    selectCandidate hold served l ∈ l ∧
    (hold = .rollback ∨ hold = .hillStart ∨ served = .drive → ∀ v ∈ l, selectCandidate hold served l ≤ v) ∧
    (hold ≠ .rollback → hold ≠ .hillStart → served = .brake ∨ served = .lineLoss ∨ served = .emergency →
      ∀ v ∈ l, v ≤ selectCandidate hold served l) ∧
    (hold ≠ .rollback → hold ≠ .hillStart → served = .coast ∨ served = .hold →
      (l.filter (· < selectCandidate hold served l)).length < (l.length + 1) / 2 ∧
      (l.length + 1) / 2 ≤ (l.filter (· ≤ selectCandidate hold served l)).length)

/-- SPEED_SAMPLE, reference: with a candidate, a TRACKING reference moves toward the selected candidate within the rate
limits and any other status seeds; without one, TRACKING becomes EXTRAPOLATING, EXTRAPOLATING continues its slope and
stops at 0 until 400 ms make it UNCERTAIN, and UNSEEDED and UNCERTAIN hold. `r` is the reference after step 1, `m` the
station after steps 1 to 3. The stop at 0 and the clamp of an extrapolated figure are the model's choice
(notes/assumptions/9.md), and so is that two changes of leading end between two samples negate nothing, `r` being negated only
where the end in force differs from the one the reference is held for (notes/assumptions/11.md). The time that an UNCERTAIN
reference keeps is notes/assumptions/41.md. What steps 1 to 5 report: step 3 declares an axle failed under `fails`, R17's
conditions with the speeds of this sample, and reports SPEED_SENSOR, axle A coming first (notes/assumptions/50.md); the entry
to UNCERTAIN reports REFERENCE_UNCERTAIN. -/
def Obligations.SampleReference : Prop :=
  ∀ (q : List Instr) (z m : Station) (r : Reference) (up down : Int), running z = true →
    m = measure { z with lastSample := z.time } →
    (z.ref.heldFor = z.pos.leadingEnd → r = z.ref) →
    (z.ref.heldFor ≠ z.pos.leadingEnd →
      r = { z.ref with speed := -z.ref.speed, lastChange := -z.ref.lastChange, heldFor := z.pos.leadingEnd }) →
    up = max 1 (((z.figs.aTracMax - (9807 * z.pos.attrStation.rise).tdiv 1000) * 5).tdiv 1000) →
    down = max 1 (((z.figs.aBrakeMax + (9807 * z.pos.attrStation.rise).tdiv 1000) * 5).tdiv 1000) →
    ∃ t, exec .speedSample ⟨q, z⟩ = .next ⟨q, t⟩ ∧
      (∀ v w, candidateSet m ≠ [] → v = selectCandidate z.hold.state z.blend.served (candidateSet m) → r.status = .tracking →
        w = max (-25000) (min 25000 (r.speed + max (-down) (min up (v - r.speed)))) →
        t.ref = { r with speed := w, lastChange := w - r.speed, extrapTime := 0 }) ∧
      (∀ v, candidateSet m ≠ [] → v = selectCandidate z.hold.state z.blend.served (candidateSet m) → r.status ≠ .tracking →
        t.ref = { r with speed := v, status := .tracking, lastChange := 0, extrapTime := 0, capApplied := false }) ∧
      (candidateSet m = [] → r.status = .unseeded ∨ r.status = .uncertain → t.ref = r) ∧
      (candidateSet m = [] → r.status = .tracking → t.ref.status = .extrapolating ∧ t.ref.extrapTime = 0) ∧
      (candidateSet m = [] → r.status = .extrapolating → r.extrapTime + 5 < 400 →
        t.ref.status = .extrapolating ∧ t.ref.extrapTime = r.extrapTime + 5) ∧
      (∀ d, candidateSet m = [] → r.status = .tracking ∨ (r.status = .extrapolating ∧ r.extrapTime + 5 < 400) →
        d = max (-down) (min up r.lastChange) →
        ((0 < r.speed ∧ 0 < r.speed + d) ∨ (r.speed < 0 ∧ r.speed + d < 0) →
          t.ref.speed = max (-25000) (min 25000 (r.speed + d)) ∧ t.ref.lastChange = d) ∧
        (¬((0 < r.speed ∧ 0 < r.speed + d) ∨ (r.speed < 0 ∧ r.speed + d < 0)) → t.ref.speed = 0 ∧ t.ref.lastChange = 0)) ∧
      (candidateSet m = [] → r.status = .extrapolating → 400 ≤ r.extrapTime + 5 →
        t.ref = { r with status := .uncertain, lastChange := 0, extrapTime := r.extrapTime + 5, capApplied := true }) ∧
      ∀ (fails : Axle → Prop) (f : FaultTable) (uncertain : Prop),
        (∀ x, fails x ↔ (pick z.axles x).sensor = .ok ∧ 1000 ≤ age z.time (pick z.axles x).quietSince ∧
          (pick z.axles (otherAxle x)).sensor = .ok ∧ 2000 < (pick m.axles (otherAxle x)).speed.natAbs ∧
          (z.blend.served = .drive ∨ z.blend.served = .coast ∨ z.blend.served = .hold) ∧ z.hold.state ≠ .rollback) →
        (fails .a → f = recordFault z.faults z.time z.pos.attrLeading.mapCell .speedSensor (some .a) none) →
        (¬fails .a → fails .b → f = recordFault z.faults z.time z.pos.attrLeading.mapCell .speedSensor (some .b) none) →
        (¬fails .a → ¬fails .b → f = z.faults) →
        (uncertain ↔ candidateSet m = [] ∧ r.status = .extrapolating ∧ 400 ≤ r.extrapTime + 5) →
        (m.axles.a.sensor = .failed ↔ z.axles.a.sensor = .failed ∨ fails .a) ∧
        (m.axles.b.sensor = .failed ↔ z.axles.b.sensor = .failed ∨ (fails .b ∧ ¬fails .a)) ∧
        (∀ x, (pick m.axles x).sensor = .failed → (pick t.axles x).sensor = .failed) ∧
        (uncertain → (positionSample (learnSample .b (learnSample .a (moveReference m)))).faults =
          recordFault f z.time z.pos.attrLeading.mapCell .referenceUncertain none none) ∧
        (¬uncertain → (positionSample (learnSample .b (learnSample .a (moveReference m)))).faults = f)

/-- EXTRAPOLATION_BUDGET_SPENT at 400 ms makes the reference UNCERTAIN with its fault and its cap; TRIM_STEP at 2,000 ms
moves the trim one step toward agreement within −80 to +80 and restarts the timer. Before that, neither does anything.
SPEED_SAMPLE runs each axle's learning timer: `m` is the station after step 3, `holds` the conditions of R14, `M` the lower
median of the candidate set, `dev` the deviation, `sense` the sense in which the axle deviates. That the learning clause reads
the hold state, the served mode, the position state and the rise as they stood before this sample's odometry and hold unit is
the model's choice (notes/assumptions/7.md). -/
def Obligations.BudgetAndTrim : Prop :=
  (∀ (q : List Instr) (z m : Station), running z = true → m = measure { z with lastSample := z.time } →
    ∃ t, exec .speedSample ⟨q, z⟩ = .next ⟨q, t⟩ ∧
      ∀ (x : Axle) (holds : Prop) (M dev : Int) (sense : Option Deviation),
        (holds ↔ z.blend.served = .coast ∧ z.hold.state = .free ∧ t.ref.status = .tracking ∧ 4000 ≤ t.ref.speed ∧
          t.ref.speed ≤ 11000 ∧ z.pos.state ≠ .lost ∧ z.pos.attrStation.rise.natAbs < 10 ∧
          3 ≤ ((freshPeers z).flatMap fun p => candidatesOf p.2).length ∧
          (pick m.axles x).sensor = .ok ∧ ((pick z.creep x).state = .adhering ∨ (pick z.creep x).state = .regulating)) →
        M = lowerMedian (candidateSet m) → dev = (((pick m.axles x).forward - M) * 1000).tdiv M →
        (¬holds ∨ M ≤ 0 ∨ (-2 ≤ dev ∧ dev ≤ 2) → sense = none) →
        (holds → 0 < M → 2 < dev → sense = some .high) → (holds → 0 < M → dev < -2 → sense = some .low) →
        (sense = none ∨ sense ≠ (pick z.axles x).learnSense →
          (pick t.axles x).learnTime = 0 ∧ (pick t.axles x).learnSense = sense ∧ (pick t.axles x).trim = (pick z.axles x).trim) ∧
        (sense ≠ none → sense = (pick z.axles x).learnSense → (pick t.axles x).learnSense = sense ∧
          ((pick z.axles x).learnTime + 5 < 2000 → (pick t.axles x).learnTime = (pick z.axles x).learnTime + 5 ∧
            (pick t.axles x).trim = (pick z.axles x).trim) ∧
          (2000 ≤ (pick z.axles x).learnTime + 5 → (pick t.axles x).learnTime = 0 ∧
            (sense = some .high → (pick t.axles x).trim =
              if -80 < (pick z.axles x).trim then (pick z.axles x).trim - 1 else (pick z.axles x).trim) ∧
            (sense = some .low → (pick t.axles x).trim =
              if (pick z.axles x).trim < 80 then (pick z.axles x).trim + 1 else (pick z.axles x).trim)))) ∧
  ∀ (q : List Instr) (z : Station), running z = true →
    (z.ref.status = .extrapolating → 400 ≤ z.ref.extrapTime → exec .extrapolationBudgetSpent ⟨q, z⟩ = .next ⟨q, { z with
      ref := { z.ref with status := .uncertain, lastChange := 0, capApplied := true }
      faults := recordFault z.faults z.time z.pos.attrLeading.mapCell .referenceUncertain none none }⟩) ∧
    (z.ref.status ≠ .extrapolating ∨ z.ref.extrapTime < 400 →
      exec .extrapolationBudgetSpent ⟨q, z⟩ = .next ⟨q, z⟩) ∧
    (∀ x, (pick z.axles x).learnSense = some .high → 2000 ≤ (pick z.axles x).learnTime →
      exec (.trimStep x) ⟨q, z⟩ = .next ⟨q, { z with axles := put z.axles x { pick z.axles x with
        trim := if -80 < (pick z.axles x).trim then (pick z.axles x).trim - 1 else (pick z.axles x).trim
        learnTime := 0 } }⟩) ∧
    (∀ x, (pick z.axles x).learnSense = some .low → 2000 ≤ (pick z.axles x).learnTime →
      exec (.trimStep x) ⟨q, z⟩ = .next ⟨q, { z with axles := put z.axles x { pick z.axles x with
        trim := if (pick z.axles x).trim < 80 then (pick z.axles x).trim + 1 else (pick z.axles x).trim
        learnTime := 0 } }⟩) ∧
    (∀ x, (pick z.axles x).learnSense = none ∨ (pick z.axles x).learnTime < 2000 →
      exec (.trimStep x) ⟨q, z⟩ = .next ⟨q, z⟩)

/-- SENSOR_SILENCE_EXPIRY declares an axle failed exactly under the conditions of R17, and it follows its partner from then
on; RELEASE_TIMER_EXPIRY declares it after 1,000 ms of the release timer in LOCKED with the WHEEL_LOCK flag set, and it follows
its partner, or both stand in ADHERING at 300‰ of the axle maximum when the partner has failed too. Otherwise neither row
does anything. That the axle follows in the row itself is notes/assumptions/27.md, and that no ceiling of its own lowers the
limit it takes is notes/assumptions/51.md. -/
def Obligations.SensorFailure : Prop :=
  ∀ (x : Axle) (q : List Instr) (z : Station), running z = true →
    ((pick z.axles x).sensor = .ok → 1000 ≤ age z.time (pick z.axles x).quietSince → (pick z.axles (otherAxle x)).sensor = .ok →
      2000 < (pick z.axles (otherAxle x)).speed.natAbs →
      z.blend.served = .drive ∨ z.blend.served = .coast ∨ z.blend.served = .hold → z.hold.state ≠ .rollback →
      exec (.sensorSilenceExpiry x) ⟨q, z⟩ = .next ⟨q, { z with
        axles := put z.axles x { pick z.axles x with sensor := .failed, candidate := false }
        creep := put z.creep x { pick z.creep x with
          state := (pick z.creep (otherAxle x)).state, limit := (pick z.creep (otherAxle x)).limit,
          stateTime := 0, history := [], calm := none, lock := none, release := none, wheelLock := false,
          slipReported := false, reslips := [] }
        faults := recordFault z.faults z.time z.pos.attrLeading.mapCell .speedSensor (some x) none }⟩) ∧
    ((pick z.axles x).sensor = .failed ∨ age z.time (pick z.axles x).quietSince < 1000 ∨
      (pick z.axles (otherAxle x)).sensor = .failed ∨ (pick z.axles (otherAxle x)).speed.natAbs ≤ 2000 ∨
      z.blend.served = .brake ∨ z.blend.served = .lineLoss ∨ z.blend.served = .emergency ∨ z.hold.state = .rollback →
      exec (.sensorSilenceExpiry x) ⟨q, z⟩ = .next ⟨q, z⟩) ∧
    (∀ n, (pick z.creep x).state = .locked → (pick z.creep x).wheelLock = true → (pick z.creep x).release = some n → 1000 ≤ n →
      ∃ t, exec (.releaseTimerExpiry x) ⟨q, z⟩ = .next ⟨q, t⟩ ∧
        t = { z with axles := t.axles, creep := t.creep, faults := t.faults } ∧
        t.axles = put z.axles x { pick z.axles x with sensor := .failed, candidate := false } ∧
        t.faults = recordFault z.faults z.time z.pos.attrLeading.mapCell .speedSensor (some x) none ∧
        pick t.creep x = { pick z.creep x with
          state := (pick t.creep x).state, limit := (pick t.creep x).limit, stateTime := 0, history := [], calm := none,
          lock := none, release := none, wheelLock := false, slipReported := false, reslips := [] } ∧
        ((pick z.axles (otherAxle x)).sensor = .ok →
          pick t.creep (otherAxle x) = pick z.creep (otherAxle x) ∧
          (pick t.creep x).state = (pick z.creep (otherAxle x)).state ∧
          (pick t.creep x).limit = (pick z.creep (otherAxle x)).limit) ∧
        ((pick z.axles (otherAxle x)).sensor = .failed → ∀ y, (pick t.creep y).state = .adhering ∧
          (pick t.creep y).limit = 300 * z.figs.axleMax / 1000)) ∧
    ((pick z.creep x).state ≠ .locked ∨ (pick z.creep x).wheelLock = false ∨ (∀ n, (pick z.creep x).release = some n → n < 1000) →
      exec (.releaseTimerExpiry x) ⟨q, z⟩ = .next ⟨q, z⟩)

/-! ## Creep controller -/

/-- SPEED_SAMPLE, axle orders: each axle's orders are its demand cut to its effort limit, the electric part first, 0 in
LOCKED; they go out as the bytes of R171, signed by the effort direction. Under ModeLaw and HoldLaw no traction force is
ordered in BRAKE, HOLD, LINE_LOSS, EMERGENCY or ROLLBACK. The sample leaves time, plug, figures, requests and peers. -/
def Obligations.SampleOrders : Prop :=
  ∀ (q : List Instr) (z : Station), running z = true → ∃ t, exec .speedSample ⟨q, z⟩ = .next ⟨q, t⟩ ∧
    t = { z with
      life := t.life, axles := t.axles, ref := t.ref, lastSample := z.time, creep := t.creep, creepDir := t.creepDir
      cellRec := t.cellRec, pos := t.pos
      map := { z.map with entries := t.map.entries, outbox := t.map.outbox }
      sanders := t.sanders, sanding := t.sanding
      blend := { t.blend with
        governing := z.blend.governing, conflict := z.blend.conflict, mass := z.blend.mass, nominal := z.blend.nominal
        capability := z.blend.capability, demand := z.blend.demand }
      makeUp := { z.makeUp with takes := t.makeUp.takes }, hold := t.hold
      port := { z.port with
        seqStatus := t.port.seqStatus, seqRail := t.port.seqRail, statusSlot := t.port.statusSlot
        railSlot := t.port.railSlot, lastStatus := t.port.lastStatus }
      link := { z.link with sentInverter := t.link.sentInverter, sentBrake := t.link.sentBrake }
      faults := t.faults, store := { z.store with write := t.store.write, pendingSave := t.store.pendingSave } } ∧
    (∀ x, (pick t.creep x).electric + (pick t.creep x).friction ≤ (pick t.creep x).limit) ∧
    (∀ x, (pick t.creep x).state = .locked → (pick t.creep x).electric = 0 ∧ (pick t.creep x).friction = 0) ∧
    (∀ x, (pick t.creep x).state ≠ .locked → demandElectric t x + demandFriction t x ≤ (pick t.creep x).limit →
      (pick t.creep x).electric = demandElectric t x ∧ (pick t.creep x).friction = demandFriction t x) ∧
    (∀ x, (pick t.creep x).state ≠ .locked → (pick t.creep x).limit < demandElectric t x + demandFriction t x →
      (pick t.creep x).electric = demandElectric t x - (demandElectric t x + demandFriction t x - (pick t.creep x).limit) ∧
      (pick t.creep x).friction = min (demandFriction t x) (pick t.creep x).limit) ∧
    (∃ b, t.link.sentBrake = b ++ [byteSum b] ∧ b.length = 4 ∧ bytesAt b 0 2 = t.creep.a.friction % 65536 ∧
      bytesAt b 2 2 = t.creep.b.friction % 65536) ∧
    (z.plug.kind = .trailer → t.link.sentInverter = z.link.sentInverter) ∧
    (z.plug.kind = .motor → ∃ b, t.link.sentInverter = b ++ [byteSum b] ∧ b.length = 7 ∧
      bytesAt b 0 1 = (if t.pos.leadingEnd = .end1 then 0 else 1) ∧
      (∀ x, (pick t.creep x).electric < 8388608 →
        asSigned 24 (bytesAt b (match x with | .a => 1 | .b => 4) 3) =
          (if t.creepDir = .traction then ((pick t.creep x).electric : Int)
           else if t.creepDir = .rest then 0 else -((pick t.creep x).electric : Int)))) ∧
    (ModeLaw z → HoldLaw z →
      t.blend.served = .brake ∨ t.blend.served = .lineLoss ∨ t.blend.served = .emergency ∨ t.blend.effMode = .hold ∨
        t.hold.state = .rollback → t.creepDir ≠ .traction)

/-- SPEED_SAMPLE, direction and limits: the effort direction of R20's table; in REST an axle with its sensor OK stands in
ADHERING at the axle maximum with timers, flag and history clear; outside REST its limit is within every figure of its
ceiling; a failed axle has its partner's state and limit, and two failed axles stand at 300‰ of the maximum. Each axle's
applied force joins its peak history, and outside REST each axle with its sensor OK runs one sample of the creep state
machine (MachineSampled): `turn` is a change of effort direction between two that are not REST,
`reset` what empties the creep history before it. That REST removes both pre-limits is notes/assumptions/35.md, that a change
of sense alone empties the histories is notes/assumptions/22.md, and the order of two tests of one sample is
notes/assumptions/15.md. That a failed axle takes its partner's limit as R23 has lowered it, and no ceiling of its own applies, is
notes/assumptions/51.md. What the creep controller declares and reports, over the fault table as the hold unit's part `h` of the
sample leaves it: an axle fails under `declares`, R44's conditions, with SPEED_SENSOR; SLIP_PERSISTENT and WHEEL_LOCK are
reported where their flags come up (creepReports), axle A first (notes/assumptions/50.md). -/
def Obligations.SampleDirectionAndLimits : Prop :=
  ∀ (q : List Instr) (z : Station), running z = true → ∃ t, exec .speedSample ⟨q, z⟩ = .next ⟨q, t⟩ ∧
    (t.hold.state = .holding → t.creepDir = .rest) ∧
    (t.hold.state = .rollback → t.creepDir = .backward) ∧
    (t.hold.state = .hillStart → t.creepDir = .traction) ∧
    (t.hold.state = .free → t.blend.served = .drive → t.creepDir = .traction) ∧
    (t.hold.state = .free → t.blend.served = .brake ∨ t.blend.served = .lineLoss ∨ t.blend.served = .emergency →
      t.creepDir = .braking) ∧
    (t.hold.state = .free → t.blend.served = .coast ∨ t.blend.served = .hold → t.creepDir = .rest) ∧
    (t.creepDir = .rest → ∀ x, (pick t.axles x).sensor = .ok →
      (pick t.creep x).state = .adhering ∧ (pick t.creep x).stateTime = 0 ∧ (pick t.creep x).limit = z.figs.axleMax ∧
      (pick t.creep x).calm = none ∧ (pick t.creep x).lock = none ∧ (pick t.creep x).release = none ∧
      (pick t.creep x).wheelLock = false ∧ (pick t.creep x).history = []) ∧
    (t.creepDir = .rest → ∀ x, (pick t.creep x).preLimit = none) ∧
    (t.creepDir ≠ .rest → ∀ x, (pick t.axles x).sensor = .ok →
      (pick t.creep x).limit ≤ z.figs.axleMax ∧
      (∀ p, (pick t.creep x).preLimit = some p → (pick t.creep x).limit ≤ p) ∧
      (∀ r, (pick t.creep x).ceiling = some r → before z.time r.expires = true → (pick t.creep x).limit ≤ r.force) ∧
      (t.ref.capApplied = true → (pick t.creep x).limit ≤ 300 * z.figs.axleMax / 1000)) ∧
    (∀ x, (pick t.axles x).sensor = .failed → (pick t.axles (otherAxle x)).sensor = .ok →
      (pick t.creep x).state = (pick t.creep (otherAxle x)).state ∧ (pick t.creep x).limit = (pick t.creep (otherAxle x)).limit) ∧
    (t.axles.a.sensor = .failed → t.axles.b.sensor = .failed →
      ∀ x, (pick t.creep x).state = .adhering ∧ (pick t.creep x).limit = 300 * z.figs.axleMax / 1000) ∧
    (∀ x, ∃ F, (pick t.creep x).peaks = F :: (pick z.creep x).peaks.take 19 ∧ AppliedForce z t.creepDir x F) ∧
    (∀ (x : Axle) (turn reset : Prop) (hist : List Int), t.creepDir ≠ .rest → (pick t.axles x).sensor = .ok →
      (turn ↔ t.creepDir ≠ z.creepDir ∧ z.creepDir ≠ .rest) →
      (reset ↔ turn ∨ seeds (measure { z with lastSample := z.time }) = true ∨ (z.pos.change ≠ none ∧ t.pos.change = none)) →
      (reset → hist = []) → (¬reset → hist = (pick z.creep x).history) → MachineSampled z t x turn hist) ∧
    ∀ (m h : Station) (turn : Prop) (declares free : Axle → Prop), m = measure { z with lastSample := z.time } →
      h = holdSample (positionSample (learnSample .b (learnSample .a (moveReference m)))) →
      (turn ↔ t.creepDir ≠ z.creepDir ∧ z.creepDir ≠ .rest) →
      (∀ x, free x ↔ (pick z.axles x).edgeSeen = false ∧ ∃ r, z.link.brake.state = .present ∧
        z.link.brake.report = some r ∧ pick r.friction x = 0) →
      (∀ x, declares x ↔ (pick m.axles x).sensor = .ok ∧ t.creepDir ≠ .rest ∧ ¬turn ∧ (pick z.creep x).state = .locked ∧
        (pick t.axles x).forward < (500 * t.ref.speed).tdiv 1000 ∧
        ((pick z.creep x).wheelLock = true ∨ 800 ≤ (pick z.creep x).stateTime + 5) ∧ free x ∧
        ∃ n, (pick z.creep x).release = some n ∧ 1000 ≤ n + 5) →
      (∀ x, (pick t.axles x).sensor = .failed ↔ (pick m.axles x).sensor = .failed ∨ declares x) ∧
      t.faults = creepReports z m t .b (creepReports z m t .a h.faults)

/-- The creep controller's timers: CALM_TIMER_EXPIRY ends REGULATING for ADHERING, RECOVERY_HOLD_EXPIRY leads through
REAPPLYING's rule unless creep exceeds the slip threshold, LOCK_TIMER_EXPIRY enters LOCKED with its lock timer clear
(notes/assumptions/15.md), RESLIP_CEILING_EXPIRY removes the ceiling, SLIP_PERSISTENT at 1,500 ms of SLIPPING reports and sets
the limit to 0, WHEEL_LOCK at 800 ms of LOCKED reports and sets the flag, each once a stay. -/
def Obligations.CreepTimers : Prop :=
  ∀ (x : Axle) (q : List Instr) (z : Station), running z = true →
    (∀ n, (pick z.creep x).state = .regulating → (pick z.creep x).calm = some n → 100 ≤ n →
      demandElectric z x + demandFriction z x ≤ (pick z.creep x).limit →
      exec (.calmTimerExpiry x) ⟨q, z⟩ = .next ⟨q, { z with creep := put z.creep x { pick z.creep x with
        state := .adhering, stateTime := 0, calm := none } }⟩) ∧
    ((pick z.creep x).state ≠ .regulating ∨ (∀ n, (pick z.creep x).calm = some n → n < 100) ∨
      (pick z.creep x).limit < demandElectric z x + demandFriction z x →
      exec (.calmTimerExpiry x) ⟨q, z⟩ = .next ⟨q, z⟩) ∧
    (∀ target ceiling creep : Nat, (pick z.creep x).state = .recovering → 200 ≤ (pick z.creep x).stateTime →
      creepNow z x ≤ (max 300 (120 * z.ref.speed.natAbs / 1000) : Nat) →
      creep = max 100 (40 * z.ref.speed.natAbs / 1000) → ceiling = ceilingOf z x →
      target = min (demandElectric z x + demandFriction z x) ceiling →
      ∃ c, exec (.recoveryHoldExpiry x) ⟨q, z⟩ = .next ⟨q, { z with creep := put z.creep x c }⟩ ∧ c.stateTime = 0 ∧
        c = { pick z.creep x with state := c.state, limit := c.limit, stateTime := c.stateTime, calm := c.calm } ∧
        (creep < creepNow z x → c.state = .regulating ∧ c.limit = (pick z.creep x).limit - 250 ∧ c.calm = none) ∧
        (creepNow z x ≤ creep → c.calm = (pick z.creep x).calm ∧
          ((pick z.creep x).limit + 150 < target → c.state = .reapplying ∧ c.limit = (pick z.creep x).limit + 150) ∧
          (target ≤ (pick z.creep x).limit + 150 → c.state = .adhering ∧ c.limit = max target (pick z.creep x).limit))) ∧
    ((pick z.creep x).state ≠ .recovering ∨ (pick z.creep x).stateTime < 200 ∨
        (max 300 (120 * z.ref.speed.natAbs / 1000) : Nat) < creepNow z x →
      exec (.recoveryHoldExpiry x) ⟨q, z⟩ = .next ⟨q, z⟩) ∧
    (∀ n peak, (pick z.creep x).state ≠ .locked → (pick z.creep x).lock = some n → 150 ≤ n →
      (∀ f ∈ (pick z.creep x).peaks, f ≤ peak) → (peak = 0 ∨ peak ∈ (pick z.creep x).peaks) →
      exec (.lockTimerExpiry x) ⟨q, z⟩ = .next ⟨q, { z with creep := put z.creep x { pick z.creep x with
        state := .locked, limit := min (pick z.creep x).limit (700 * peak / 1000), stateTime := 0, lock := none
        release := none, wheelLock := false } }⟩) ∧
    ((pick z.creep x).state = .locked ∨ (∀ n, (pick z.creep x).lock = some n → n < 150) →
      exec (.lockTimerExpiry x) ⟨q, z⟩ = .next ⟨q, z⟩) ∧
    (∀ r, (pick z.creep x).ceiling = some r → before z.time r.expires = false →
      exec (.reslipCeilingExpiry x) ⟨q, z⟩ = .next ⟨q, { z with creep := put z.creep x { pick z.creep x with ceiling := none } }⟩) ∧
    ((∀ r, (pick z.creep x).ceiling = some r → before z.time r.expires = true) →
      exec (.reslipCeilingExpiry x) ⟨q, z⟩ = .next ⟨q, z⟩) ∧
    ((pick z.creep x).state = .slipping → 1500 ≤ (pick z.creep x).stateTime → (pick z.creep x).slipReported = false →
      exec (.slipPersistent x) ⟨q, z⟩ = .next ⟨q, { z with
        creep := put z.creep x { pick z.creep x with limit := 0, slipReported := true }
        faults := recordFault z.faults z.time z.pos.attrLeading.mapCell .slipPersistent (some x) none }⟩) ∧
    ((pick z.creep x).state ≠ .slipping ∨ (pick z.creep x).stateTime < 1500 ∨ (pick z.creep x).slipReported = true →
      exec (.slipPersistent x) ⟨q, z⟩ = .next ⟨q, z⟩) ∧
    ((pick z.creep x).state = .locked → 800 ≤ (pick z.creep x).stateTime → (pick z.creep x).wheelLock = false →
      exec (.wheelLock x) ⟨q, z⟩ = .next ⟨q, { z with
        creep := put z.creep x { pick z.creep x with wheelLock := true }
        faults := recordFault z.faults z.time z.pos.attrLeading.mapCell .wheelLock (some x) none }⟩) ∧
    ((pick z.creep x).state ≠ .locked ∨ (pick z.creep x).stateTime < 800 ∨ (pick z.creep x).wheelLock = true →
      exec (.wheelLock x) ⟨q, z⟩ = .next ⟨q, z⟩)

/-! ## Position unit -/

/-- SPEED_SAMPLE, odometry: `v` × 5 µm join the remainder, whole millimetres move the position in the travel sense and join
the dead-reckoned distance, the clamp at 0 and 100,000,000 mm clears the remainder; the derived positions lie half a
wheelbase ahead and behind, and each of the four has the attributes of its governing window (Governed), or in LOST those of
R60 (LostAttrs). That the sample moves by the travel sense in force before its hold unit takes a pending change is the model's
choice (notes/assumptions/7.md). -/
def Obligations.SampleOdometry : Prop :=
  ∀ (q : List Instr) (z : Station), running z = true → ∃ t, exec .speedSample ⟨q, z⟩ = .next ⟨q, t⟩ ∧
    ∀ sum moved : Int, sum = t.ref.speed * 5 + z.pos.remainder →
      moved = (match z.pos.sense with
        | .up => (z.pos.station : Int) + sum.tdiv 1000
        | .down => (z.pos.station : Int) - sum.tdiv 1000) →
      t.pos.reckoned = z.pos.reckoned + (sum.tdiv 1000).natAbs ∧
      (0 ≤ moved → moved ≤ 100000000 → (t.pos.station : Int) = moved ∧ t.pos.remainder = sum.tmod 1000) ∧
      (moved < 0 → t.pos.station = 0 ∧ t.pos.remainder = 0) ∧
      (100000000 < moved → t.pos.station = 100000000 ∧ t.pos.remainder = 0) ∧
      (500000 < t.pos.reckoned → t.pos.state = .lost) ∧
      (t.pos.reckoned ≤ 500000 → t.pos.state = z.pos.state) ∧
      Resolved z.figs t.pos

/-- DEAD_RECKONING_LIMIT: beyond 500,000 mm a position that is not LOST becomes LOST: no window and no cell for any reader,
both pre-limits and the pre-arm gone, and the leading sander closes unless EMERGENCY or ROLLBACK was admitted. That no window
is recorded in LOST is notes/assumptions/34.md. -/
def Obligations.DeadReckoningLimit : Prop :=
  ∀ (q : List Instr) (z : Station), running z = true →
    (z.pos.reckoned ≤ 500000 ∨ z.pos.state = .lost → exec .deadReckoningLimit ⟨q, z⟩ = .next ⟨q, z⟩) ∧
    (500000 < z.pos.reckoned → z.pos.state ≠ .lost → ∃ t, exec .deadReckoningLimit ⟨q, z⟩ = .next ⟨q, t⟩ ∧
      t = { z with
        pos := { z.pos with
          state := .lost, attrStation := t.pos.attrStation, attrLeading := t.pos.attrLeading, attrSander := t.pos.attrSander }
        creep := ⟨{ z.creep.a with preLimit := none }, { z.creep.b with preLimit := none }⟩
        sanding := { z.sanding with aim := none }
        sanders := t.sanders } ∧
      (∀ a ∈ [t.pos.attrStation, t.pos.attrLeading, t.pos.attrSander.a, t.pos.attrSander.b],
        a.window = none ∧ a.gradient = 0 ∧ a.rise = 0 ∧ a.sandInhibit = true ∧ a.obsInhibit = true ∧ a.rateSet = 0 ∧
          a.mapOffset = 0 ∧ a.mapCell = none) ∧
      (∀ x, pick t.sanders x = pick z.sanders x ∨ (x = leadingAxle z ∧ (pick t.sanders x).state = .tailing)) ∧
      (z.sanding.admitted.emergency = false → z.sanding.admitted.rollback = false →
        (pick t.sanders (leadingAxle z)).state ≠ .filling ∧ (pick t.sanders (leadingAxle z)).state ≠ .flowing) ∧
      (z.sanding.admitted.emergency = true ∨ z.sanding.admitted.rollback = true → t.sanders = z.sanders))

/-- DEMAND_ARRIVAL at the position unit: a competing frame leaves the position as it was; another settles leading end and
sense, and anchors or, where it does not anchor, takes VALID to DEAD_RECKONING. `off` is the offset from the leading end
the frame names, `anchor` the anchor it gives. At an anchor, a taken change and a change of state the four attribute sets are
resolved at once (Resolved). Which frame counts as taken is notes/assumptions/32.md, that a spoiled cell
record is dropped is notes/assumptions/22.md, and that a pair of END1 and UP named first counts as taken is
notes/assumptions/10.md. -/
def Obligations.DemandAnchors : Prop :=
  ∀ (f : Frame) (cab : CabEnd) (d : DemandContent) (off anchor : Int) (q : List Instr) (z : Station), running z = true →
    checkDemand f = some (cab, d) → repeatsDemand z cab f.sequence = false →
    off = (match d.leadingEnd with
      | .end1 => ((min z.plug.d1 z.figs.tramLength : Nat) : Int)
      | .end2 => (z.figs.tramLength : Int) - (min z.plug.d1 z.figs.tramLength : Nat)) →
    anchor = (match d.sense with | .up => (d.chainage : Int) * 100 - off | .down => (d.chainage : Int) * 100 + off) →
    ∃ t, exec (.demandArrival f) ⟨q, z⟩ = .next ⟨q, t⟩ ∧
      ((∃ l, z.pos.lastTaken = some l ∧ l.cab ≠ cab ∧ age z.time l.time < 100 ∧
          ¬(d.leadingEnd = z.pos.leadingEnd ∧ d.sense = z.pos.sense)) → t.pos = z.pos) ∧
      ((∀ l, z.pos.lastTaken = some l → l.cab = cab ∨ 100 ≤ age z.time l.time ∨
          (d.leadingEnd = z.pos.leadingEnd ∧ d.sense = z.pos.sense)) →
        t.pos.lastTaken = some ⟨cab, z.time⟩ ∧ t.pos.endTaken = true ∧
        (d.leadingEnd = z.pos.leadingEnd ∧ d.sense = z.pos.sense →
          t.pos.leadingEnd = z.pos.leadingEnd ∧ t.pos.sense = z.pos.sense ∧ t.pos.change = none) ∧
        (¬(d.leadingEnd = z.pos.leadingEnd ∧ d.sense = z.pos.sense) → z.pos.endTaken = false ∨ z.ref.speed.natAbs < 300 →
          t.pos.leadingEnd = d.leadingEnd ∧ t.pos.sense = d.sense ∧ t.pos.change = none ∧ t.cellRec = none ∧
          t.sanding.aim = none ∧ t.creep.a.history = [] ∧ t.creep.b.history = [] ∧ Resolved z.figs t.pos) ∧
        (¬(d.leadingEnd = z.pos.leadingEnd ∧ d.sense = z.pos.sense) → z.pos.endTaken = true → 300 ≤ z.ref.speed.natAbs →
          t.pos.leadingEnd = z.pos.leadingEnd ∧ t.pos.sense = z.pos.sense ∧ t.pos.change = some ⟨d.leadingEnd, d.sense⟩) ∧
        (d.chainageValid = true → 0 ≤ anchor → anchor ≤ 100000000 → d.leadingEnd = t.pos.leadingEnd → d.sense = t.pos.sense →
          (t.pos.station : Int) = anchor ∧ t.pos.remainder = 0 ∧ t.pos.reckoned = 0 ∧ t.pos.state = .valid ∧
          Resolved z.figs t.pos ∧
          (z.pos.state = .lost ∨ 2000 < (anchor - z.pos.station).natAbs →
            t.creep.a.preLimit = none ∧ t.creep.b.preLimit = none ∧ t.cellRec = none ∧ t.sanding.aim = none)) ∧
        (d.chainageValid = false ∨ anchor < 0 ∨ 100000000 < anchor ∨ d.leadingEnd ≠ t.pos.leadingEnd ∨
            d.sense ≠ t.pos.sense →
          t.pos.station = z.pos.station ∧ t.pos.remainder = z.pos.remainder ∧ t.pos.reckoned = z.pos.reckoned ∧
          t.pos.state = (if z.pos.state = .valid then .deadReckoning else z.pos.state) ∧
          (z.pos.state = .valid → Resolved z.figs t.pos)))

/-! ## Rail condition map -/

/-- SWEEP: due every 1,000 ms; each part beyond its life goes, an entry without a part goes, nothing else changes. -/
def Obligations.Sweep : Prop :=
  ∀ (q : List Instr) (z : Station), running z = true →
    (Instr.sweep ∈ dueEvents z ↔ 1000 ≤ age z.time z.map.lastSweep) ∧
    ∃ es, exec .sweep ⟨q, z⟩ = .next ⟨q, { z with map := { z.map with entries := es, lastSweep := z.time } }⟩ ∧
      (es.map (·.cell)).Sublist (z.map.entries.map (·.cell)) ∧
      ∀ e, e ∈ es ↔ (e.peak.isSome = true ∨ e.atLeast.isSome = true ∨ e.sanded.isSome = true) ∧ ∃ o ∈ z.map.entries,
        e = { o with peak := e.peak, atLeast := e.atLeast, sanded := e.sanded } ∧
        (∀ p, e.peak = some p ↔ o.peak = some p ∧ age z.time p.time ≤ 300000) ∧
        (∀ p, e.atLeast = some p ↔ o.atLeast = some p ∧ age z.time p.time ≤ 300000) ∧
        (∀ m, e.sanded = some m ↔ o.sanded = some m ∧ age z.time m ≤ 90000)

/-- Look-ahead: an entry's effective μ, and the query's answer: the lowest contributed over the stretch, at the first cell
that gives it. A stretch within 0 to 100,000,000 mm holds the route cells from its first position to its last in the travel
sense, each with the map cell that its own governing window gives; in LOST it holds none. SPEED_SAMPLE forms both pre-limits
from the answer ahead of the leading axle, over the map as it stood before the sample, and has none in LOST. That this query
starts from the position after the sample's own odometry is the model's choice (notes/assumptions/7.md). -/
def Obligations.EffectiveMuAndLookAhead : Prop :=
  (∀ (e : MapEntry) (p : TimedMu), e.peak = some p → e.sanded = none → effectiveMu e = some p.mu) ∧
  (∀ (e : MapEntry) (p : TimedMu) (m : Millis), e.peak = some p → e.sanded = some m →
    effectiveMu e = some (max p.mu (min (p.mu + 40) 300))) ∧
  (∀ e : MapEntry, e.peak = none → effectiveMu e = none) ∧
  (∀ (z : Station) (p d : Nat), (lookAhead z p d = none ↔ ∀ c ∈ stretch z p d, contribution z.map.entries c = none)) ∧
  (∀ (z : Station) (p d mu : Nat) (a : Aim), lookAhead z p d = some (mu, a) →
    ∃ before c after, stretch z p d = before ++ c :: after ∧ c = (a.routeCell, some a.mapCell) ∧
      (∃ e ∈ z.map.entries, e.cell = a.mapCell ∧ effectiveMu e = some mu) ∧
      (∀ b n, b ∈ before → contribution z.map.entries b = some n → mu < n.1) ∧
      (∀ b n, b ∈ after → contribution z.map.entries b = some n → mu ≤ n.1)) ∧
  (∀ (z : Station) (p d : Nat), z.pos.state = .lost → stretch z p d = []) ∧
  (∀ (z : Station) (p d : Nat), z.pos.state ≠ .lost →
    (z.pos.sense = .up → p + d ≤ 100000000 →
      (stretch z p d).map (·.1) = List.range' (p / 5000) ((p + d) / 5000 + 1 - p / 5000)) ∧
    (z.pos.sense = .down → d ≤ p → p ≤ 100000000 →
      (stretch z p d).map (·.1) = (List.range' ((p - d) / 5000) (p / 5000 + 1 - (p - d) / 5000)).reverse) ∧
    ∀ c ∈ stretch z p d, ∃ a : Attrs, a.position = c.1 * 5000 ∧ Governed z.figs .up a ∧ c.2 = a.mapCell) ∧
  (∀ (q : List Instr) (z : Station), running z = true → ∃ t, exec .speedSample ⟨q, z⟩ = .next ⟨q, t⟩ ∧
    (t.pos.state = .lost → ∀ x, (pick t.creep x).preLimit = none) ∧
    (∀ answer, answer = lookAhead { t with map := z.map } t.pos.attrLeading.position z.figs.lookAhead →
      t.pos.state ≠ .lost → t.creepDir ≠ .rest →
      (answer = none → ∀ x, (pick t.creep x).preLimit = none) ∧
      (∀ mu a, answer = some (mu, a) → ∀ x,
        (pick t.creep x).preLimit = some (mu * (pick z.link.loads x * 981 / 100) / 1000 * 1100 / 1000))))

/-- The actual granularity of a clear, by the table of R76, the cells that it means, and the outbox observations it
leaves. That a window whose span lies wholly outside 0 to 19,999 means no cell is the model's reading (log 31). -/
def Obligations.ClearGranularity : Prop :=
  ∀ figs : Commissioning,
    actualGranularity figs .all = .all ∧
    (∀ n w, figs.windows[n]? = some w → w.enabled = true → actualGranularity figs (.window n) = .window n) ∧
    (∀ n, (∀ w, figs.windows[n]? = some w → w.enabled = false) → actualGranularity figs (.window n) = .all) ∧
    (∀ first last, first ≤ last → last ≤ 19999 → last - first + 1 ≤ 64 →
      actualGranularity figs (.cells first last) = .cells first last) ∧
    (∀ first last, last < first ∨ 19999 < first ∨ 19999 < last → actualGranularity figs (.cells first last) = .all) ∧
    (∀ (first last : Nat) (spans : Nat → Prop), first ≤ last → last ≤ 19999 → 64 < last - first + 1 →
      (∀ n, spans n ↔ ∃ w, figs.windows[n]? = some w ∧ w.enabled = true ∧
        (w.startBlock * 2 : Int) + w.mapOffset ≤ (first : Int) ∧ (last : Int) ≤ (w.stopBlock * 2 : Int) + 1 + w.mapOffset) →
      (∀ m, spans m → (∀ n, n < m → ¬spans n) → actualGranularity figs (.cells first last) = .window m) ∧
      ((∀ m, ¬spans m) → actualGranularity figs (.cells first last) = .all)) ∧
    (∀ c, clearsCell figs .all c = true) ∧
    (∀ c first last, clearsCell figs (.cells first last) c = true ↔ first ≤ c ∧ c ≤ last) ∧
    (∀ c n w, c ≤ 19999 → figs.windows[n]? = some w → (clearsCell figs (.window n) c = true ↔
      (w.startBlock * 2 : Int) + w.mapOffset ≤ (c : Int) ∧ (c : Int) ≤ (w.stopBlock * 2 : Int) + 1 + w.mapOffset)) ∧
    (∀ g o, o.kind ≠ .sanded → (keptByClear figs g o = true ↔ clearsCell figs g o.cell = false)) ∧
    (∀ g o, o.kind = .sanded → (keptByClear figs g o = true ↔
      ∀ c, o.cell ≤ c → c < o.cell + o.count → c ≤ 19999 → clearsCell figs g c = false))

/-- MAP_CLEAR_ARRIVAL and the service CLEAR MAP take a clear: the entries of the cells it means go, the outbox loses its
observations there, a pre-arm aimed there is cancelled, the last clear is recorded. The service clear numbers itself and
puts its MAP CLEAR, of the actual granularity, in the slot. A waiting RAIL REPORT that loses an observation is withdrawn
(RailAfterDrop). -/
def Obligations.MapClear : Prop :=
  ∀ (q : List Instr) (z : Station), running z = true →
    (∀ (f : Frame) (id : BitVec 8) (g : Granularity), checkClear f = some (id, g) →
      ∃ t, exec (.mapClearArrival f) ⟨q, z⟩ = .next ⟨q, t⟩ ∧ t.port.clearSlot = z.port.clearSlot ∧
        t.map.lastClear = some ⟨id, actualGranularity z.figs g⟩ ∧ Cleared (actualGranularity z.figs g) z t ∧
        t.port.seqClear = z.port.seqClear ∧
        (OutboxLaw z → RailAfterDrop (keptByClear z.figs (actualGranularity z.figs g)) z t)) ∧
    (∀ (req : Request) (id : BitVec 8) (g : Granularity), sumOk 7 req = true → req.args.length = 5 →
      id = (match z.map.lastClear with | some c => c.id + 1 | none => 1) →
      (bytesAt req.args 0 1 = 0 → g = .all) → (bytesAt req.args 0 1 = 1 → g = .window (bytesAt req.args 1 2)) →
      (bytesAt req.args 0 1 = 2 → g = .cells (bytesAt req.args 1 2) (bytesAt req.args 3 2)) →
      (bytesAt req.args 0 1 ≤ 2 → ∃ t, exec (.clearMap req) ⟨q, z⟩ = .next ⟨q, t⟩ ∧
        t.map.lastClear = some ⟨id, actualGranularity z.figs g⟩ ∧ t.port.seqClear = z.port.seqClear + 1 ∧
        t.port.clearSlot = some ⟨id, actualGranularity z.figs g, z.port.seqClear + 1⟩ ∧
        t.reply = some ⟨7, .ok, .empty⟩ ∧ Cleared (actualGranularity z.figs g) z { t with reply := z.reply } ∧
        (OutboxLaw z → RailAfterDrop (keptByClear z.figs (actualGranularity z.figs g)) z t)) ∧
      (2 < bytesAt req.args 0 1 → exec (.clearMap req) ⟨q, z⟩ = .next ⟨q, { z with reply := some ⟨7, .badValue, .empty⟩ }⟩))

/-- RAIL_REPORT_ARRIVAL: a peer's observations merge one after another, those that R66 skips left out and μ taken as at
most 500; the map's entries are all that changes. A PEAK or AT_LEAST merges into its cell, a SANDED into each cell of its
range up to 19,999, from the farthest ahead in the travel sense to the farthest behind. -/
def Obligations.RailReport : Prop :=
  (∀ (depth : Nat) (sense : Sense) (o : Observation) (es : List MapEntry) (range : List Nat),
    range = (List.range' o.cell o.count).filter (· ≤ 19999) →
    (o.kind ≠ .sanded → mergeObs depth sense o es = mergeCell depth sense o o.cell es) ∧
    (o.kind = .sanded → mergeObs depth sense o es =
      (if sense = .up then range.reverse else range).foldl (fun es c => mergeCell depth sense o c es) es)) ∧
  ∀ (f : Frame) (n : Nat) (l kept : List Observation) (q : List Instr) (z : Station), running z = true →
    checkRail z.time f = some (n, l) →
    kept = (l.filter fun o => decide (o.cell ≤ 19999 ∧ (o.kind = .sanded → 1 ≤ o.count ∧ o.count ≤ 16))).map
      (fun o => if o.kind = .sanded then o else { o with mu := min 500 o.mu }) →
    (∀ o ∈ l, o.observer = .station n ∧ o.time = z.time) ∧
    (n = z.plug.number.val → exec (.railReportArrival f) ⟨q, z⟩ = .next ⟨q, z⟩) ∧
    (n ≠ z.plug.number.val → exec (.railReportArrival f) ⟨q, z⟩ = .next ⟨q, { z with map := { z.map with
      entries := kept.foldl (fun es o => mergeObs z.figs.mapDepth z.pos.sense o es) z.map.entries } }⟩)

/-- One merge into a cell that has an entry: PEAK, AT_LEAST and sanded parts and the bookkeeping; no other entry changes. -/
def Obligations.MergeIntoEntry : Prop :=
  ∀ (depth : Nat) (sense : Sense) (o : Observation) (es : List MapEntry) (e : MapEntry),
    es.Pairwise (fun a b => a.cell < b.cell) → e ∈ es →
    ∃ m, m ∈ mergeCell depth sense o e.cell es ∧ m.cell = e.cell ∧
      (∀ x, x ∈ mergeCell depth sense o e.cell es → x = m ∨ (x ∈ es ∧ x.cell ≠ e.cell)) ∧
      (∀ x ∈ es, x.cell ≠ e.cell → x ∈ mergeCell depth sense o e.cell es) ∧
      m.count = min 15 (e.count + 1) ∧ m.observer = o.observer ∧ m.direction = o.direction ∧
      (o.kind = .peak →
        (∀ p, e.peak = some p → age o.time p.time < 10000 → p.mu < o.mu → m.peak = some p) ∧
        ((∀ p, e.peak = some p → 10000 ≤ age o.time p.time ∨ o.mu ≤ p.mu) → m.peak = some ⟨o.mu, o.time⟩) ∧
        (∀ p a, m.peak = some p → e.atLeast = some a → m.atLeast = if p.mu < a.mu then none else some a) ∧
        (e.atLeast = none → m.atLeast = none) ∧ m.sanded = e.sanded) ∧
      (o.kind = .atLeast →
        (∀ a, e.atLeast = some a → o.mu < a.mu → m.atLeast = some a) ∧
        ((∀ a, e.atLeast = some a → a.mu ≤ o.mu) → m.atLeast = some ⟨o.mu, o.time⟩) ∧
        (∀ p, e.peak = some p → m.peak = if p.mu < o.mu then none else some p) ∧
        (e.peak = none → m.peak = none) ∧ m.sanded = e.sanded) ∧
      (o.kind = .sanded → m.sanded = some o.time ∧ m.peak = e.peak ∧ m.atLeast = e.atLeast)

/-- One merge into a cell without an entry: below the depth the new entry joins; at the depth it takes the place of the
entry farthest behind in the travel sense, or is refused when it lies farther behind still. -/
def Obligations.MergeNewEntry : Prop :=
  ∀ (depth cell : Nat) (o : Observation) (es : List MapEntry), es.Pairwise (fun a b => a.cell < b.cell) →
    (∀ e ∈ es, e.cell ≠ cell) →
    ∀ n : MapEntry, n = ⟨cell, if o.kind = .peak then some ⟨o.mu, o.time⟩ else none,
        if o.kind = .atLeast then some ⟨o.mu, o.time⟩ else none, if o.kind = .sanded then some o.time else none,
        o.observer, o.direction, 1⟩ →
      (∀ sense, es.length < depth → ∀ x, x ∈ mergeCell depth sense o cell es ↔ x = n ∨ x ∈ es) ∧
      (∀ first rest, es = first :: rest → depth ≤ es.length →
        (cell < first.cell → mergeCell depth .up o cell es = es) ∧
        (first.cell < cell → ∀ x, x ∈ mergeCell depth .up o cell es ↔ x = n ∨ x ∈ rest)) ∧
      (∀ rest last, es = rest ++ [last] → depth ≤ es.length →
        (last.cell < cell → mergeCell depth .down o cell es = es) ∧
        (cell < last.cell → ∀ x, x ∈ mergeCell depth .down o cell es ↔ x = n ∨ x ∈ rest)) ∧
      (∀ sense, (mergeCell depth sense o cell es).Pairwise (fun a b => a.cell < b.cell))

/-- An own observation offered to the outbox: a SANDED extends a fitting newest; otherwise it joins, and a full outbox makes
room for a PEAK or SANDED by its oldest WAITING AT_LEAST, or its oldest WAITING, and drops an AT_LEAST. Where own observations
come from: the conditions of R35, the PEAK of a SLIPPING entry of the leading axle, the AT_LEAST of a cell closed clean, and
the cell record that a SPEED_SAMPLE leaves. That the sample judges the cell by the leading axle position after its own odometry
is the model's choice (notes/assumptions/7.md), and so is dropping a spoiled record (notes/assumptions/22.md). -/
def Obligations.OutboxOffer : Prop :=
  (∀ s : Station, observes s = true ↔ s.pos.state ≠ .lost ∧ s.pos.attrLeading.obsInhibit = false ∧
    (pick s.sanders (leadingAxle s)).state ≠ .flowing ∧ (pick s.sanders (leadingAxle s)).state ≠ .tailing ∧
    (pick s.axles (leadingAxle s)).sensor = .ok) ∧
  (∀ (k : ObsKind) (mu : Nat) (s : Station), observe k none mu s = s ∧ ∀ c o, o = ⟨k, c, 1, mu, s.pos.sense, .own, s.time⟩ →
    ∃ t, observe k (some c) mu s = t ∧
      t = { s with
        map := { s.map with entries := mergeObs s.figs.mapDepth s.pos.sense o s.map.entries, outbox := t.map.outbox }
        port := { s.port with railSlot := t.port.railSlot, seqRail := t.port.seqRail } } ∧
      t.map.outbox.map (·.obs) = (offerOutbox o s.map.outbox).map (·.obs)) ∧
  (∀ (x : Axle) (s : Station) (peak : Nat), (∀ f ∈ (pick s.creep x).peaks, f ≤ peak) →
    (peak = 0 ∨ peak ∈ (pick s.creep x).peaks) →
    (x = leadingAxle s → observes s = true → (enterSlipping x s).map =
      (observe .peak s.pos.attrLeading.mapCell (min 500 (peak * 1000 / (pick s.link.loads x * 981 / 100))) s).map) ∧
    (x ≠ leadingAxle s ∨ observes s = false → (enterSlipping x s).map = s.map)) ∧
  (∀ (s : Station) (r : CellRec) (here mu : Nat), s.cellRec = some r → here = s.pos.attrLeading.position / 5000 →
    mu = min 500 (r.sum / r.count * 1000 / (pick s.link.loads (leadingAxle s) * 981 / 100)) →
    ((s.pos.sense = .up ∧ here = r.cell + 1) ∨ (s.pos.sense = .down ∧ here + 1 = r.cell) → r.clean = true →
      observes s = true → 50 ≤ mu → (turnCell s).map = (observe .atLeast r.mapCell mu s).map) ∧
    (¬((s.pos.sense = .up ∧ here = r.cell + 1) ∨ (s.pos.sense = .down ∧ here + 1 = r.cell)) ∨ r.clean = false ∨
      observes s = false ∨ mu < 50 → (turnCell s).map = s.map)) ∧
  (∀ (q : List Instr) (z : Station), running z = true → ∃ t, exec .speedSample ⟨q, z⟩ = .next ⟨q, t⟩ ∧
    ∀ (before : Option CellRec) (here F : Nat) (spoils : Prop), here = t.pos.attrLeading.position / 5000 →
      (pick t.creep (leadingAxle t)).peaks.head? = some F →
      (z.pos.change ≠ none ∧ t.pos.change = none → before = none) →
      (z.pos.change = none ∨ t.pos.change ≠ none → before = z.cellRec) →
      (spoils ↔ (pick t.creep (leadingAxle t)).state ≠ .adhering ∨ t.creepDir = .rest ∨ t.creepDir = .backward ∨
        t.creepDir ≠ z.creepDir ∨ observes t = false) →
      (∀ r, before = some r → r.cell = here → ∃ b, t.cellRec = some ⟨r.cell, r.mapCell, r.sum + F, r.count + 1, b⟩ ∧
        (b = true ↔ r.clean = true ∧ ¬spoils)) ∧
      (∀ r, before = some r → r.cell ≠ here → ∃ b, t.cellRec = some ⟨here, t.pos.attrLeading.mapCell, F, 1, b⟩ ∧
        (b = true ↔ ((t.pos.sense = .up ∧ here = r.cell + 1) ∨ (t.pos.sense = .down ∧ here + 1 = r.cell)) ∧ ¬spoils)) ∧
      (before = none → t.cellRec = some ⟨here, t.pos.attrLeading.mapCell, F, 1, false⟩)) ∧
  ∀ (o : Observation) (box rest : List OutboxItem) (i : OutboxItem),
    (box = rest ++ [i] → o.kind = .sanded → i.inFrame = false → i.obs.kind = .sanded → i.obs.direction = o.direction →
      i.obs.count < 16 → o.cell + 1 = i.obs.cell ∨ o.cell = i.obs.cell + i.obs.count →
      offerOutbox o box = rest ++ [⟨{ i.obs with cell := min o.cell i.obs.cell, count := i.obs.count + 1 }, false⟩]) ∧
    ((∀ (r : List OutboxItem) (j : OutboxItem), box = r ++ [j] → o.kind ≠ .sanded ∨ j.inFrame = true ∨ j.obs.kind ≠ .sanded ∨
        j.obs.direction ≠ o.direction ∨ 16 ≤ j.obs.count ∨ (o.cell + 1 ≠ j.obs.cell ∧ o.cell ≠ j.obs.cell + j.obs.count)) →
      (box.length < 12 → offerOutbox o box = box ++ [⟨o, false⟩]) ∧
      (12 ≤ box.length → o.kind = .atLeast → offerOutbox o box = box) ∧
      (12 ≤ box.length → o.kind ≠ .atLeast →
        (∀ a b, box = a ++ i :: b → i.inFrame = false → i.obs.kind = .atLeast →
          (∀ j ∈ a, j.inFrame = true ∨ j.obs.kind ≠ .atLeast) → offerOutbox o box = a ++ b ++ [⟨o, false⟩]) ∧
        (∀ a b, box = a ++ i :: b → i.inFrame = false → (∀ j ∈ box, j.inFrame = false → j.obs.kind ≠ .atLeast) →
          (∀ j ∈ a, j.inFrame = true) → offerOutbox o box = a ++ b ++ [⟨o, false⟩])))

/-- OUTBOX_EXPIRY: observations older than 2,000 ms leave; when one of them was IN FRAME, a RAIL REPORT that waits is
withdrawn and built afresh from the oldest that remain, and one on the line goes on. -/
def Obligations.OutboxExpiry : Prop :=
  ∀ (q : List Instr) (z : Station), running z = true → OutboxLaw z →
    ∃ t, exec .outboxExpiry ⟨q, z⟩ = .next ⟨q, t⟩ ∧
      t = { z with
        map := { z.map with outbox := t.map.outbox }
        port := { z.port with railSlot := t.port.railSlot, seqRail := t.port.seqRail, onLine := t.port.onLine } } ∧
      t.map.outbox.map (·.obs) = (z.map.outbox.map (·.obs)).filter (fun o => decide (age z.time o.time ≤ 2000)) ∧
      ((∀ i ∈ z.map.outbox, i.inFrame = true → age z.time i.obs.time ≤ 2000) →
        t.map.outbox = z.map.outbox.filter (fun i => decide (age z.time i.obs.time ≤ 2000)) ∧ t.port = z.port) ∧
      ((∃ i ∈ z.map.outbox, i.inFrame = true ∧ 2000 < age z.time i.obs.time) →
        (∀ f, z.port.railSlot = some f → t.port.onLine = z.port.onLine ∧
          (t.map.outbox = [] → t.port.railSlot = none ∧ t.port.seqRail = z.port.seqRail) ∧
          (t.map.outbox ≠ [] → t.port.railSlot = some ⟨(t.map.outbox.map (·.obs)).take 6, z.port.seqRail + 1⟩ ∧
            t.port.seqRail = z.port.seqRail + 1 ∧ inFrameObs t.map.outbox = (t.map.outbox.map (·.obs)).take 6)) ∧
        (∀ f b, z.port.railSlot = none → z.port.onLine = some (.rail f b) →
          t.map.outbox = z.map.outbox.filter (fun i => decide (age z.time i.obs.time ≤ 2000)) ∧
          t.port = { z.port with onLine := some (.rail f true) }))

/-! ## Sander control -/

/-- SANDER_DECISION, steps 3 and 4: which sources ask, which inhibits hold, which sources are admitted, the valve demand and
its level; the aim comes from the look-ahead query, over the map's entries `es2` as step 2 leaves them. `x` is the leading
axle and sander. That a tail entered from FILLING records its cell at step 2 is the model's choice (notes/assumptions/14.md),
and so is that the end-1 sander's SANDED observation is merged before that of the end-2 sander (notes/assumptions/33.md). -/
def Obligations.DecisionAdmission : Prop :=
  ∀ (q : List Instr) (z : Station) (x : Axle), running z = true → x = leadingAxle z →
    ∃ t, exec .sanderDecision ⟨q, z⟩ = .next ⟨q, t⟩ ∧
      t = { z with
        map := { z.map with entries := t.map.entries, outbox := t.map.outbox }
        port := { z.port with railSlot := t.port.railSlot, seqRail := t.port.seqRail }
        sanders := t.sanders, sanding := t.sanding, faults := t.faults } ∧
      (t.sanding.asks.slip = true ↔
        ∃ e, (z.sanding.slipHold = some e ∨ z.sanding.reslipHold = some e) ∧ before z.time e = true) ∧
      (t.sanding.asks.preArm = true ↔ t.sanding.aim.isSome = true) ∧
      (t.sanding.asks.driver = true ↔ ∃ (c : Axle) (r : DemandRec), pick z.port.demands c = some r ∧
        age z.time r.arrived < 100 ∧ r.content.driverSand = true) ∧
      (t.sanding.asks.hillStart = true ↔ ∃ e, z.sanding.hillExpiry = some e ∧ before z.time e = true) ∧
      (t.sanding.asks.rollback = true ↔ z.hold.state = .rollback) ∧
      (t.sanding.asks.emergency = true ↔ z.blend.effMode = .emergency) ∧
      (∀ (es1 es2 : List MapEntry) (answer : Option (Nat × Aim)), CellRecorded z .a z.map.entries es1 →
        CellRecorded z .b es1 es2 →
        answer = lookAhead { z with map := { z.map with entries := es2 } } (pick z.pos.attrSander x).position
          ((max 0 z.ref.speed).toNat * (rateSetOf z.figs (pick z.pos.attrSander x).rateSet).flowDelay / 1000 + 2000) →
        (∀ mu a, answer = some (mu, a) → mu < 100 → t.sanding.aim = some a) ∧
        ((∀ mu a, answer = some (mu, a) → 100 ≤ mu) →
          ∀ a, t.sanding.aim = some a ↔ z.sanding.aim = some a ∧
            (z.pos.sense = .up → routeCell (pick z.pos.attrSander x).position ≤ a.routeCell) ∧
            (z.pos.sense = .down → a.routeCell ≤ routeCell (pick z.pos.attrSander x).position))) ∧
      t.sanding.shownStates = ⟨t.sanders.a.state, t.sanders.b.state⟩ ∧
      t.sanding.shownBoxes = ⟨t.sanders.a.box, t.sanders.b.box⟩ ∧
      ∀ window still reserve empty rest : Prop,
        (window ↔ (pick z.pos.attrSander x).sandInhibit = true ∨ z.pos.state = .lost) →
        (still ↔ z.ref.speed.natAbs < 300) →
        (reserve ↔ (pick t.sanders x).box ≤ 2000000) →
        (empty ↔ (pick t.sanders x).box = 0) →
        (rest ↔ (pick z.sanders x).restOwed = true ∨
          (((pick z.sanders x).state = .filling ∨ (pick z.sanders x).state = .flowing) ∧
            30000 ≤ (pick z.sanders x).duty + age z.time (pick z.sanders x).advancedTo)) →
        (∀ asks admitted, (asks = t.sanding.asks.slip ∧ admitted = t.sanding.admitted.slip) ∨
            (asks = t.sanding.asks.preArm ∧ admitted = t.sanding.admitted.preArm) ∨
            (asks = t.sanding.asks.driver ∧ admitted = t.sanding.admitted.driver) →
          (admitted = true ↔ asks = true ∧ ¬window ∧ ¬still ∧ ¬reserve ∧ ¬empty ∧ ¬rest ∧ z.degraded = false)) ∧
        (t.sanding.admitted.hillStart = true ↔
          t.sanding.asks.hillStart = true ∧ ¬window ∧ ¬empty ∧ ¬rest ∧ z.degraded = false) ∧
        (t.sanding.admitted.rollback = true ↔ t.sanding.asks.rollback = true ∧ ¬empty ∧ ¬rest) ∧
        (t.sanding.admitted.emergency = true ↔ t.sanding.asks.emergency = true ∧ ¬empty) ∧
        (t.sanding.demandOn = true ↔ t.sanding.admitted.slip = true ∨ t.sanding.admitted.preArm = true ∨
          t.sanding.admitted.driver = true ∨ t.sanding.admitted.hillStart = true ∨ t.sanding.admitted.rollback = true ∨
          t.sanding.admitted.emergency = true) ∧
        (t.sanding.high = true ↔ t.sanding.admitted.hillStart = true ∨ t.sanding.admitted.rollback = true ∨
          t.sanding.admitted.emergency = true)

/-- SANDER_DECISION, step 5: the state that each sander is left in, with its pipe, duty and rest times. `on` is the valve
demand as the sander sees it, `ends` what ends FILLING and FLOWING, `dt` the elapsed time. That EMERGENCY takes a RESTING sander
to FILLING with rest still owed also when its rest ends at the decision is notes/assumptions/16.md, and that the pipe time is
capped at the flow delay is notes/assumptions/17.md. -/
def Obligations.DecisionStates : Prop :=
  ∀ (q : List Instr) (z : Station) (x : Axle), running z = true → ∃ t, exec .sanderDecision ⟨q, z⟩ = .next ⟨q, t⟩ ∧
    ∀ (d : Sander) (on ends owes : Prop) (dt : Nat), d = pick z.sanders x → dt = age z.time d.advancedTo →
      (on ↔ x = leadingAxle z ∧ t.sanding.demandOn = true) →
      (owes ↔ d.restOwed = true ∨ ((d.state = .filling ∨ d.state = .flowing) ∧ 30000 ≤ d.duty + dt)) →
      (ends ↔ (pick t.sanders x).box = 0 ∨ ¬on ∨ (owes ∧ t.sanding.admitted.emergency = false)) →
      (d.state = .closed →
        (on → (pick t.sanders x).state = .filling ∧ (pick t.sanders x).pipe = 0 ∧
          (pick t.sanders x).flowDelay = (rateSetOf z.figs (pick z.pos.attrSander x).rateSet).flowDelay) ∧
        (¬on → (pick t.sanders x).state = .closed)) ∧
      (d.state = .filling →
        (ends → (pick t.sanders x).state = .tailing ∧ (pick t.sanders x).pipe = min (d.pipe + dt) d.flowDelay) ∧
        (¬ends → d.flowDelay ≤ d.pipe + dt → (pick t.sanders x).state = .flowing ∧ (pick t.sanders x).pipe = d.flowDelay) ∧
        (¬ends → d.pipe + dt < d.flowDelay → (pick t.sanders x).state = .filling ∧ (pick t.sanders x).pipe = d.pipe + dt)) ∧
      (d.state = .flowing → (pick t.sanders x).pipe = d.pipe ∧
        (ends → (pick t.sanders x).state = .tailing ∧ (pick t.sanders x).dosing = none) ∧
        (¬ends → (pick t.sanders x).state = .flowing)) ∧
      (d.state = .filling ∨ d.state = .flowing → (pick t.sanders x).duty = min 30000 (d.duty + dt) ∧
        ((pick t.sanders x).restOwed = true ↔ owes)) ∧
      (d.state = .tailing →
        (on → (pick t.sanders x).state = .filling ∧ (pick t.sanders x).pipe = d.pipe - dt ∧
          (pick t.sanders x).flowDelay = d.flowDelay) ∧
        (¬on → dt < d.pipe → (pick t.sanders x).state = .tailing ∧ (pick t.sanders x).pipe = d.pipe - dt) ∧
        (¬on → d.pipe ≤ dt → d.restOwed = true → (pick t.sanders x).state = .resting ∧ (pick t.sanders x).rest = 0) ∧
        (¬on → d.pipe ≤ dt → d.restOwed = false → (pick t.sanders x).state = .closed ∧ (pick t.sanders x).duty = 0)) ∧
      (d.state = .resting →
        (on → t.sanding.admitted.emergency = true → (pick t.sanders x).state = .filling ∧ (pick t.sanders x).pipe = 0 ∧
          (pick t.sanders x).restOwed = d.restOwed) ∧
        (¬on ∨ t.sanding.admitted.emergency = false → 10000 ≤ d.rest + dt → (pick t.sanders x).state = .closed ∧
          (pick t.sanders x).restOwed = false ∧ (pick t.sanders x).duty = 0) ∧
        (¬on ∨ t.sanding.admitted.emergency = false → d.rest + dt < 10000 → (pick t.sanders x).state = .resting ∧
          (pick t.sanders x).rest = d.rest + dt))

/-- SANDER_DECISION, step 6: from a station whose valves follow ValveLaw, an open valve is the leading sander's, under a
valve demand, with sand in the box; in a sand-inhibit window or in LOST only for EMERGENCY or ROLLBACK. A sander left
FLOWING within the open time of its dosing period, with sand in its box, has its valve open; under FillingLaw, so has every
sander left FILLING. -/
def Obligations.DecisionValves : Prop :=
  ∀ (q : List Instr) (z : Station), running z = true → ValvesLaw z →
    ∃ t, exec .sanderDecision ⟨q, z⟩ = .next ⟨q, t⟩ ∧ ValvesLaw t ∧
      (∀ x p, (pick t.sanders x).state = .flowing → (pick t.sanders x).dosing = some p → (pick t.sanders x).box ≠ 0 →
        p.openTime = 400 ∨ age z.time p.start < p.openTime → (pick t.sanders x).valveOpen = true) ∧
      (FillingLaw z → ∀ x, (pick t.sanders x).state = .filling →
        (pick t.sanders x).valveOpen = true ∧ (pick t.sanders x).box ≠ 0) ∧
      ∀ x, (pick t.sanders x).valveOpen = true →
        x = leadingAxle z ∧ t.sanding.demandOn = true ∧ (pick t.sanders x).box ≠ 0 ∧
        ((pick z.pos.attrSander x).sandInhibit = true ∨ z.pos.state = .lost →
          t.sanding.admitted.emergency = true ∨ t.sanding.admitted.rollback = true)

/-- PIPE_FULL: a FILLING sander that still has its demand enters FLOWING, records its cell and begins its first dosing
period; DOSING_PERIOD_START begins the next 400 ms after the one before. `open` is the period's open time. -/
def Obligations.FlowingAndDosing : Prop :=
  ∀ (e : CabEnd) (x : Axle) (d : Sander) (set : RateSet) (band divider openMs box : Nat) (q : List Instr) (z : Station),
    running z = true → x = axleOf e → d = pick z.sanders x → set = rateSetOf z.figs (pick z.pos.attrSander x).rateSet →
    (z.ref.speed.natAbs < 2800 → band = 0) → (2800 ≤ z.ref.speed.natAbs → z.ref.speed.natAbs < 5600 → band = 1) →
    (5600 ≤ z.ref.speed.natAbs → z.ref.speed.natAbs < 8300 → band = 2) → (8300 ≤ z.ref.speed.natAbs → band = 3) →
    divider = (if z.sanding.high then max 1 (set.dividers.getD band 1 / 2) else set.dividers.getD band 1) →
    openMs = 400 / divider → box = (settleBox z.time d).box →
    (d.state = .filling → d.flowDelay ≤ d.pipe → d.box ≠ 0 → x = leadingAxle z → z.sanding.demandOn = true →
      d.restOwed = false ∨ z.sanding.admitted.emergency = true →
      ∃ t, exec (.pipeFull e) ⟨q, z⟩ = .next ⟨q, t⟩ ∧
        t = { z with
          map := { z.map with entries := t.map.entries, outbox := t.map.outbox }
          port := { z.port with railSlot := t.port.railSlot, seqRail := t.port.seqRail }
          sanders := put z.sanders x { d with
            state := .flowing, pipe := d.flowDelay, lastCell := some ((pick z.pos.attrSander x).position / 5000)
            dosing := some ⟨z.time, set.base, openMs⟩, box := box
            valveOpen := decide (box ≠ 0), interval := if box = 0 then none else some ⟨z.time, box, set.base⟩ } } ∧
        ((pick z.pos.attrSander x).mapCell = none → t.map = z.map ∧ t.port = z.port) ∧
        (∀ c o, (pick z.pos.attrSander x).mapCell = some c → o = ⟨.sanded, c, 1, 0, z.pos.sense, .own, z.time⟩ →
          t.map.entries = mergeObs z.figs.mapDepth z.pos.sense o z.map.entries ∧
          t.map.outbox.map (·.obs) = (offerOutbox o z.map.outbox).map (·.obs))) ∧
    (d.state ≠ .filling ∨ d.pipe < d.flowDelay ∨ d.box = 0 ∨ x ≠ leadingAxle z ∨ z.sanding.demandOn = false ∨
        (d.restOwed = true ∧ z.sanding.admitted.emergency = false) →
      exec (.pipeFull e) ⟨q, z⟩ = .next ⟨q, z⟩) ∧
    (∀ p, d.state = .flowing → d.dosing = some p → 400 ≤ age z.time p.start →
      exec (.dosingPeriodStart e) ⟨q, z⟩ = .next ⟨q, { z with sanders := put z.sanders x { d with
        dosing := some ⟨after p.start 400, set.base, openMs⟩, box := box
        valveOpen := decide (box ≠ 0), interval := if box = 0 then none else some ⟨z.time, box, set.base⟩ } }⟩) ∧
    (d.state ≠ .flowing ∨ (∀ p, d.dosing = some p → age z.time p.start < 400) →
      exec (.dosingPeriodStart e) ⟨q, z⟩ = .next ⟨q, z⟩)

/-- OPEN_TIME_END closes the valve at the open time of the period and settles the estimate for the interval that ends;
SLIP_HOLD_EXPIRY and HILL_START_SANDING_EXPIRY remove the expiries that have passed; TAIL_EMPTY leads to RESTING when rest is
owed, else to CLOSED; REST_EXPIRY at 10,000 ms closes and clears the rest owed; DUTY_LIMIT at 30,000 ms owes rest and tails
unless EMERGENCY is admitted. That an OPEN_TIME_END books the sand of the open time, however late it comes, is the model's
choice (notes/assumptions/17.md), and so is that REST_EXPIRY sets the rest timer to 0 (notes/assumptions/52.md). -/
def Obligations.SanderTimers : Prop :=
  ∀ (q : List Instr) (z : Station), running z = true →
    (∀ (e : CabEnd) (d : Sander) (p : Dosing) (i : OpenInterval), d = pick z.sanders (axleOf e) → d.valveOpen = true →
      d.dosing = some p → p.openTime < 400 → p.openTime ≤ age z.time p.start → d.interval = some i → i.start = p.start →
      exec (.openTimeEnd e) ⟨q, z⟩ = .next ⟨q, { z with sanders := put z.sanders (axleOf e) { d with
        valveOpen := false, interval := none, box := i.estimate - i.base * p.openTime / 1000 } }⟩) ∧
    (∀ (e : CabEnd) (d : Sander), d = pick z.sanders (axleOf e) →
      d.valveOpen = false ∨ (∀ p, d.dosing = some p → 400 ≤ p.openTime ∨ age z.time p.start < p.openTime) →
      exec (.openTimeEnd e) ⟨q, z⟩ = .next ⟨q, z⟩) ∧
    (∃ a b, exec .slipHoldExpiry ⟨q, z⟩ = .next ⟨q, { z with sanding := { z.sanding with slipHold := a, reslipHold := b } }⟩ ∧
      (∀ m, a = some m ↔ z.sanding.slipHold = some m ∧ before z.time m = true) ∧
      (∀ m, b = some m ↔ z.sanding.reslipHold = some m ∧ before z.time m = true)) ∧
    (∃ a, exec .hillStartSandingExpiry ⟨q, z⟩ = .next ⟨q, { z with sanding := { z.sanding with hillExpiry := a } }⟩ ∧
      (∀ m, a = some m ↔ z.sanding.hillExpiry = some m ∧ before z.time m = true)) ∧
    ∀ (e : CabEnd) (x : Axle) (d : Sander), x = axleOf e → d = pick z.sanders x →
    (d.state = .tailing → d.pipe = 0 → x ≠ leadingAxle z ∨ z.sanding.demandOn = false →
      (d.restOwed = true → exec (.tailEmpty e) ⟨q, z⟩ = .next ⟨q, { z with sanders := put z.sanders x { d with
        state := .resting, rest := 0, lastCell := none } }⟩) ∧
      (d.restOwed = false → exec (.tailEmpty e) ⟨q, z⟩ = .next ⟨q, { z with sanders := put z.sanders x { d with
        state := .closed, duty := 0, lastCell := none } }⟩)) ∧
    (d.state ≠ .tailing ∨ d.pipe ≠ 0 ∨ (x = leadingAxle z ∧ z.sanding.demandOn = true) →
      exec (.tailEmpty e) ⟨q, z⟩ = .next ⟨q, z⟩) ∧
    (d.state = .resting → 10000 ≤ d.rest →
      exec (.restExpiry e) ⟨q, z⟩ = .next ⟨q, { z with sanders := put z.sanders x { d with
        state := .closed, pipe := 0, duty := 0, restOwed := false, rest := 0, lastCell := none } }⟩) ∧
    (d.state ≠ .resting ∨ d.rest < 10000 → exec (.restExpiry e) ⟨q, z⟩ = .next ⟨q, z⟩) ∧
    (d.state = .filling ∨ d.state = .flowing → 30000 ≤ d.duty → z.sanding.admitted.emergency = true →
      exec (.dutyLimit e) ⟨q, z⟩ = .next ⟨q, { z with sanders := put z.sanders x { d with restOwed := true } }⟩) ∧
    (d.state = .filling ∨ d.state = .flowing → 30000 ≤ d.duty → z.sanding.admitted.emergency = false →
      exec (.dutyLimit e) ⟨q, z⟩ = .next ⟨q, { z with sanders := put z.sanders x { d with
        restOwed := true, state := .tailing, dosing := none, valveOpen := false, interval := none, advancedTo := z.time
        box := (settleBox z.time d).box } }⟩) ∧
    (¬(d.state = .filling ∨ d.state = .flowing) ∨ d.duty < 30000 → exec (.dutyLimit e) ⟨q, z⟩ = .next ⟨q, z⟩)

/-- SAND_EMPTY reports an estimate that has come to 0, once, and the sander tails; FILLED sets an estimate within the
capacity, starts the open interval anew, and asks for a running save; a FILLED of 0 g reports and tails. That the row
leaves the station as it was while the estimate, brought up to the moment (`box`), is above 0 is notes/assumptions/8.md, and
that a FILLED above 0 g settles an estimate of 0 not yet reported is notes/assumptions/53.md. -/
def Obligations.SandEmptyAndFilled : Prop :=
  ∀ (e : CabEnd) (x : Axle) (d : Sander) (box : Nat) (q : List Instr) (z : Station), running z = true → x = axleOf e →
    d = pick z.sanders x → box = (settleBox z.time d).box →
    (box ≠ 0 → exec (.sandEmpty e) ⟨q, z⟩ = .next ⟨q, z⟩) ∧
    (box = 0 → ∃ v, exec (.sandEmpty e) ⟨q, z⟩ = .next ⟨q, { z with
        sanders := put z.sanders x v
        faults := if d.emptyReported then z.faults
          else recordFault z.faults z.time z.pos.attrLeading.mapCell .sandEmpty (some x) none }⟩ ∧
      v.box = 0 ∧ v.emptyReported = true ∧ v.pipe = d.pipe ∧ v.duty = d.duty ∧ v.restOwed = d.restOwed ∧
      (d.state = .filling ∨ d.state = .flowing → v.state = .tailing ∧ v.valveOpen = false ∧ v.interval = none) ∧
      (d.state ≠ .filling → d.state ≠ .flowing → v.state = d.state)) ∧
    (∀ (req : Request) (mg : Nat), sumOk 8 req = true → req.args.length = 3 →
      bytesAt req.args 0 1 = (match e with | .end1 => 1 | .end2 => 2) →
      mg = min (bytesAt req.args 1 2 * 1000) (z.figs.boxCapacity * 1000) →
      ∃ t, exec (.filled req) ⟨q, z⟩ = .next ⟨q, t⟩ ∧
        t = { z with
          sanders := put z.sanders x (pick t.sanders x), faults := t.faults, store := t.store
          reply := some ⟨8, .ok, .empty⟩ } ∧
        (pick t.sanders x).box = mg ∧
        (0 < mg → pick t.sanders x = { d with box := mg, emptyReported := false, interval := (pick t.sanders x).interval } ∧
          (∀ i, d.interval = some i → (pick t.sanders x).interval = some ⟨z.time, mg, i.base⟩) ∧ t.faults = z.faults) ∧
        (mg = 0 → (pick t.sanders x).pipe = d.pipe ∧
          (d.interval.isSome = d.valveOpen → (pick t.sanders x).valveOpen = false ∧ (pick t.sanders x).interval = none) ∧
          (d.state = .filling ∨ d.state = .flowing → (pick t.sanders x).state = .tailing) ∧
          (d.state ≠ .filling → d.state ≠ .flowing → (pick t.sanders x).state = d.state) ∧
          t.faults = if box = 0 then z.faults
            else recordFault z.faults z.time z.pos.attrLeading.mapCell .sandEmpty (some x) none) ∧
        (z.store.write = none → t.store = { z.store with
          write := some (.running ⟨z.axles.a.trim, z.axles.b.trim⟩ ⟨t.sanders.a.box, t.sanders.b.box⟩ z.time) }) ∧
        (z.store.write ≠ none → t.store = { z.store with pendingSave := true })) ∧
    (∀ req : Request, sumOk 8 req = true → req.args.length = 3 → bytesAt req.args 0 1 ≠ 1 → bytesAt req.args 0 1 ≠ 2 →
      exec (.filled req) ⟨q, z⟩ = .next ⟨q, { z with reply := some ⟨8, .badValue, .empty⟩ }⟩)

/-! ## Blend unit and make-up unit -/

/-- BLEND_EVENT, steps 2 and 3: the mass, the nominal force and the capabilities. `et`, `eb` and `fr` are the electric
traction, electric brake and friction figures that count; `m` is the track brake state after step 1. -/
def Obligations.BlendForces : Prop :=
  ∀ (q : List Instr) (z : Station), running z = true → ∃ t, exec .blendEvent ⟨q, z⟩ = .next ⟨q, t⟩ ∧
    t = { z with blend := t.blend, makeUp := t.makeUp } ∧
    t.blend = { t.blend with
      governing := z.blend.governing, conflict := z.blend.conflict, effMode := z.blend.effMode, rearm := z.blend.rearm
      served := z.blend.served, accel := z.blend.accel, lastBlend := z.time } ∧
    t.blend.mass = z.link.loads.a + z.link.loads.b ∧
    (∀ slope force a : Int, slope = (9807 * z.pos.attrStation.rise).tdiv 1000 → z.blend.accel = some a →
      force = ((t.blend.mass : Int) * (a + slope)).tdiv 1000 →
      (z.blend.served = .drive → t.blend.nominal = min (max 0 force).toNat (2 * z.figs.axleMax)) ∧
      (z.blend.served = .brake ∨ z.blend.served = .lineLoss ∨ z.blend.served = .emergency →
        t.blend.nominal = min (max 0 (-force)).toNat (2 * z.figs.axleMax))) ∧
    (z.blend.served = .coast ∨ z.blend.served = .hold → t.blend.nominal = 0 ∧ t.blend.capability = 0 ∧
      ∀ x, (pick t.blend.axles x).capability = 0) ∧
    ∀ (et eb : Axle → Nat) (fr : Nat),
      (∀ r, z.plug.kind = .motor → z.link.inverter.state = .present → z.link.inverter.report = some r → r.healthy = true →
        ∀ x, et x = pick r.tractionCap x ∧ eb x = pick r.brakeCap x) →
      (z.plug.kind = .trailer ∨ z.link.inverter.state = .lost ∨ (∀ r, z.link.inverter.report = some r → r.healthy = false) →
        ∀ x, et x = 0 ∧ eb x = 0) →
      (∀ r, z.link.brake.state = .present → z.link.brake.report = some r → r.healthy = true → fr = z.figs.frictionMax) →
      (z.link.brake.state = .lost ∨ (∀ r, z.link.brake.report = some r → r.healthy = false) → fr = 0) →
      (z.blend.served = .drive →
        (∀ x, (pick t.blend.axles x).capability = min (pick z.creep x).limit (et x)) ∧
        t.blend.capability = t.blend.capNoMtb) ∧
      (z.blend.served = .brake ∨ z.blend.served = .lineLoss ∨ z.blend.served = .emergency →
        (∀ x, (pick t.blend.axles x).capability = min (pick z.creep x).limit (eb x + fr)) ∧
        t.blend.capability = t.blend.capNoMtb + (if t.blend.mtb = .down then 50000 else 0)) ∧
      t.blend.capNoMtb = t.blend.axles.a.capability + t.blend.axles.b.capability

/-- BLEND_EVENT, steps 5 and 6: the station demand within the capability, the tram views over the matching peers, the split
that places the whole axle total within the axle capabilities, and the electric and friction parts. -/
def Obligations.BlendSplit : Prop :=
  ∀ (q : List Instr) (z : Station), running z = true → ∃ t, exec .blendEvent ⟨q, z⟩ = .next ⟨q, t⟩ ∧
    (effortSense z = .none → t.blend.demand = 0) ∧
    (effortSense z ≠ .none → t.blend.demand =
      min (min t.blend.nominal t.blend.capability + ((t.makeUp.takes.filter (·.applied)).map (·.amount)).sum) t.blend.capability) ∧
    t.blend.nominalView = t.blend.nominal + ((matchingPeers z).map fun p => p.2.nominal).sum ∧
    (∀ own : Nat, own = (if t.blend.mtb = .down then t.blend.nominal - t.blend.capNoMtb - t.makeUp.covered
        else t.makeUp.escResidual) →
      t.blend.residualView = own + ((matchingPeers z).map fun p => (if p.2.short then p.2.balance else 0) - p.2.covered).sum) ∧
    ∀ (x y : Axle) (total half : Nat), x = leadingAxle z → y = otherAxle x →
      total = t.blend.demand - (if effortSense z = .braking ∧ t.blend.mtb = .down then 50000 else 0) → half = total / 2 →
      (pick t.blend.axles x).share + (pick t.blend.axles y).share = total ∧
      (∀ w, (pick t.blend.axles w).share ≤ (pick t.blend.axles w).capability) ∧
      (total - half ≤ (pick t.blend.axles x).capability → half ≤ (pick t.blend.axles y).capability →
        (pick t.blend.axles x).share = total - half ∧ (pick t.blend.axles y).share = half) ∧
      ((pick t.blend.axles x).capability < total - half →
        (pick t.blend.axles x).share = (pick t.blend.axles x).capability) ∧
      ((pick t.blend.axles y).capability < half → (pick t.blend.axles y).share = (pick t.blend.axles y).capability) ∧
      ∀ w, (effortSense z = .none → (pick t.blend.axles w).electric = 0 ∧ (pick t.blend.axles w).friction = 0) ∧
        (effortSense z = .traction → (pick t.blend.axles w).electric = (pick t.blend.axles w).share ∧
          (pick t.blend.axles w).friction = 0) ∧
        (effortSense z = .braking →
          (∀ r, z.plug.kind = .motor → z.link.inverter.state = .present → z.link.inverter.report = some r →
            r.healthy = true → (pick t.blend.axles w).electric = min (pick t.blend.axles w).share (pick r.brakeCap w)) ∧
          (z.plug.kind = .trailer ∨ z.link.inverter.state = .lost ∨
              (∀ r, z.link.inverter.report = some r → r.healthy = false) → (pick t.blend.axles w).electric = 0) ∧
          (pick t.blend.axles w).electric + (pick t.blend.axles w).friction = (pick t.blend.axles w).share ∧
          (pick t.blend.axles w).friction ≤ z.figs.frictionMax)

/-- BLEND_EVENT, step 4: the standing, shortfall and spare, the generation, covered and residual, and the takes: one on each
short matching peer, its share of the spare, scaled under over-cover, linked to the peer's generation. -/
def Obligations.BlendMakeUp : Prop :=
  ∀ (q : List Instr) (z : Station), running z = true → ∃ t, exec .blendEvent ⟨q, z⟩ = .next ⟨q, t⟩ ∧
    ∀ part : Prop, (part ↔ (z.blend.served = .drive ∨ z.blend.served = .brake ∨ z.blend.served = .lineLoss) ∧
        (z.hold.state = .free ∨ z.hold.state = .hillStart)) →
      t.makeUp.withdrawn = z.makeUp.withdrawn ∧
      (z.makeUp.withdrawn = true → t.makeUp.standing = .withdrawn ∧
        t.makeUp.escResidual = t.blend.nominal - t.blend.capability) ∧
      (z.makeUp.withdrawn = false → ¬part → t.makeUp.standing = .stoodDown ∧ t.makeUp.escResidual = 0) ∧
      (z.makeUp.withdrawn = true ∨ ¬part → t.makeUp.shortfall = 0 ∧ t.makeUp.spare = 0 ∧ t.makeUp.covered = 0 ∧
        t.makeUp.residual = 0 ∧ t.makeUp.takes = []) ∧
      (∀ s g : Nat, s = t.makeUp.shortfall → g = z.makeUp.genShortfall →
        (500 < s - g ∨ 500 < g - s ∨ (s = 0 ∧ g ≠ 0) ∨ (s ≠ 0 ∧ g = 0) →
          t.makeUp.generation = (z.makeUp.generation + 1) % 256 ∧ t.makeUp.genShortfall = s) ∧
        (s - g ≤ 500 → g - s ≤ 500 → (s = 0 ↔ g = 0) →
          t.makeUp.generation = z.makeUp.generation ∧ t.makeUp.genShortfall = g)) ∧
      (z.makeUp.withdrawn = false → part →
        t.makeUp.standing = .active ∧ t.makeUp.shortfall = t.blend.nominal - t.blend.capability ∧
        t.makeUp.spare = t.blend.capability - t.blend.nominal ∧
        t.makeUp.covered = ((matchingPeers z).map fun p =>
          match p.2.takes.find? fun e => e.peer == z.plug.number.val && e.generation == t.makeUp.generation with
          | some e => e.amount
          | none => 0).sum ∧
        t.makeUp.residual = t.makeUp.shortfall - t.makeUp.covered ∧ t.makeUp.escResidual = t.makeUp.residual ∧
        (t.makeUp.takes.map (·.amount)).sum ≤ t.makeUp.spare ∧
        (t.makeUp.takes.map (·.peer)).Pairwise (· < ·) ∧
        ∀ T Q : Nat, T = ((matchingPeers z).map fun p => if p.2.short then p.2.balance else 0).sum →
          Q = t.makeUp.spare + ((matchingPeers z).map fun p => if p.2.short then 0 else p.2.balance).sum →
          ∀ e, e ∈ t.makeUp.takes ↔ e.applied = true ∧ e.amount ≠ 0 ∧ ∃ c s a, (e.peer, c) ∈ matchingPeers z ∧
            e.generation = c.generation ∧ s = (if c.short then c.balance else 0) ∧ a = s * t.makeUp.spare / max Q T ∧
            e.amount = if s < c.covered then a * s / c.covered else a)

/-! ## Track brake -/

/-- BLEND_EVENT, step 1: escalation, release and EMERGENCY by the views and the speed, with their timers. -/
def Obligations.BlendTrackBrake : Prop :=
  ∀ (q : List Instr) (z : Station), running z = true → ∃ t, exec .blendEvent ⟨q, z⟩ = .next ⟨q, t⟩ ∧
    ∀ (down up : Prop) (esc rel : Prop) (line : Prop),
      (down ↔ t.blend.mtb = .lowering ∧ t.blend.contactorClosed = true ∧ t.blend.loweringSince = some z.time ∧
        t.blend.escalation = none ∧ t.blend.release = none) →
      (up ↔ t.blend.mtb = .up ∧ t.blend.contactorClosed = false ∧ t.blend.loweringSince = none ∧
        t.blend.escalation = none ∧ t.blend.release = none) →
      (line ↔ z.blend.effMode = .brake ∨ z.blend.effMode = .lineLoss) →
      (esc ↔ 1500 < z.ref.speed ∧ 150 * z.blend.nominalView < z.blend.residualView * 1000) →
      (rel ↔ z.blend.residualView = 0 ∨ z.blend.residualView * 1000 < 50 * z.blend.nominalView) →
      (line → z.blend.mtb = .up → z.plug.trackBrake = true → esc →
        (z.blend.escalation = none → t.blend.mtb = .up ∧ t.blend.escalation = some 0) ∧
        (∀ n, z.blend.escalation = some n → n + 20 < 1000 → t.blend.mtb = .up ∧ t.blend.escalation = some (n + 20)) ∧
        (∀ n, z.blend.escalation = some n → 1000 ≤ n + 20 → down)) ∧
      (line → z.blend.mtb = .up → z.plug.trackBrake = false ∨ ¬esc → t.blend.mtb = .up ∧ t.blend.escalation = none) ∧
      (line → z.blend.mtb ≠ .up → z.ref.speed < 800 → up) ∧
      (line → z.blend.mtb ≠ .up → 800 ≤ z.ref.speed →
        (rel → z.blend.release = none → t.blend.mtb = z.blend.mtb ∧ t.blend.release = some 0) ∧
        (rel → ∀ n, z.blend.release = some n → n + 20 < 2000 → t.blend.mtb = z.blend.mtb ∧ t.blend.release = some (n + 20)) ∧
        (rel → ∀ n, z.blend.release = some n → 2000 ≤ n + 20 → up) ∧
        (¬rel → t.blend.mtb = z.blend.mtb ∧ t.blend.release = none)) ∧
      (z.blend.effMode = .emergency →
        (z.plug.trackBrake = true → z.blend.mtb = .up → 300 < z.ref.speed → down) ∧
        (z.blend.mtb ≠ .up → z.ref.speed ≤ 300 → up) ∧
        ((z.blend.mtb = .up ↔ z.ref.speed ≤ 300) ∨ (z.plug.trackBrake = false ∧ z.blend.mtb = .up) →
          t.blend.mtb = z.blend.mtb ∧ t.blend.escalation = none ∧ t.blend.release = none)) ∧
      (¬line → z.blend.effMode ≠ .emergency → t.blend.mtb = z.blend.mtb)

/-- ESCALATION_TIMER_EXPIRY, TRACK_BRAKE_RELEASE_EXPIRY and LOWERING_TIMER_EXPIRY act when their timer has reached its
figure in its mode and state, and leave the station as it was otherwise. That the lowering timer reads as stopped after its
expiry is notes/assumptions/47.md. -/
def Obligations.TrackBrakeTimers : Prop :=
  ∀ (q : List Instr) (z : Station) (line : Prop), running z = true →
    (line ↔ z.blend.effMode = .brake ∨ z.blend.effMode = .lineLoss) →
    (∀ n, line → z.plug.trackBrake = true → z.blend.mtb = .up → z.blend.escalation = some n → 1000 ≤ n →
      exec .escalationTimerExpiry ⟨q, z⟩ = .next ⟨q, { z with blend := { z.blend with
        mtb := .lowering, contactorClosed := true, loweringSince := some z.time, escalation := none, release := none } }⟩) ∧
    (¬line ∨ z.plug.trackBrake = false ∨ z.blend.mtb ≠ .up ∨ (∀ n, z.blend.escalation = some n → n < 1000) →
      exec .escalationTimerExpiry ⟨q, z⟩ = .next ⟨q, z⟩) ∧
    (∀ n, line → z.blend.mtb ≠ .up → z.blend.release = some n → 2000 ≤ n →
      exec .trackBrakeReleaseExpiry ⟨q, z⟩ = .next ⟨q, { z with blend := { z.blend with
        mtb := .up, contactorClosed := false, escalation := none, release := none, loweringSince := none } }⟩) ∧
    (¬line ∨ z.blend.mtb = .up ∨ (∀ n, z.blend.release = some n → n < 2000) →
      exec .trackBrakeReleaseExpiry ⟨q, z⟩ = .next ⟨q, z⟩) ∧
    (∀ m, z.blend.mtb = .lowering → z.blend.loweringSince = some m → 500 ≤ age z.time m →
      exec .loweringTimerExpiry ⟨q, z⟩ = .next ⟨q, { z with
        blend := { z.blend with mtb := .unconfirmed, loweringSince := none }
        faults := recordFault z.faults z.time z.pos.attrLeading.mapCell .mtbNotDown none none }⟩) ∧
    (z.blend.mtb ≠ .lowering ∨ (∀ m, z.blend.loweringSince = some m → age z.time m < 500) →
      exec .loweringTimerExpiry ⟨q, z⟩ = .next ⟨q, z⟩)

/-! ## Modes and hold unit -/

/-- An evaluation of the effective mode: the modes of R106, R107, R109 and R110, what a change of effort sense zeroes, the
track brake at a change of mode, and the hold unit's answer. `g` is the governing request, `open` the loop. -/
def Obligations.Evaluation : Prop :=
  ∀ (arrival : Bool) (z t : Station) (isOpen asksDrive : Prop) (m : EffMode), t = evaluate arrival z →
    (isOpen ↔ z.link.loop.delivered = some .loopOpen) →
    (asksDrive ↔ ∃ g, z.blend.governing = some g ∧ g.mode = .drive) →
    (z.blend.governing = none → m = .lineLoss) →
    (∀ g, z.blend.governing = some g → m = (match g.mode with
      | .drive => .drive | .coast => .coast | .brake => .brake | .hold => .hold | .park => .park)) →
    (isOpen ∨ (z.blend.effMode = .emergency ∧ (z.hold.standstill = false ∨ asksDrive)) → t.blend.effMode = .emergency) ∧
    (¬isOpen → z.blend.effMode ≠ .emergency ∨ (z.hold.standstill = true ∧ ¬asksDrive) → t.blend.effMode = m) ∧
    ((t.blend.effMode = .lineLoss ∨ t.blend.effMode = .emergency) → t.blend.effMode ≠ z.blend.effMode → t.blend.rearm = true) ∧
    (arrival = true → t.blend.effMode ≠ .lineLoss → t.blend.effMode ≠ .emergency → ¬asksDrive → t.blend.rearm = false) ∧
    (t.blend.effMode ≠ .lineLoss → t.blend.effMode ≠ .emergency → arrival = false ∨ asksDrive →
      t.blend.rearm = z.blend.rearm) ∧
    (t.blend.effMode = .drive → t.blend.served = (if t.blend.rearm then .coast else .drive)) ∧
    (t.blend.effMode = .drive → t.blend.rearm = true → t.blend.accel = none) ∧
    (t.blend.effMode = .coast → t.blend.served = .coast ∧ t.blend.accel = none) ∧
    (t.blend.effMode = .brake → t.blend.served = .brake) ∧
    (t.blend.effMode = .hold ∨ t.blend.effMode = .park →
      (z.hold.standstill = true → t.blend.served = .hold ∧ t.blend.accel = none) ∧
      (z.hold.standstill = false → t.blend.served = .brake ∧ t.blend.accel = some (-1200))) ∧
    (t.blend.effMode = .lineLoss → t.blend.served = .lineLoss ∧ t.blend.accel = some (-1200)) ∧
    (t.blend.effMode = .emergency → t.blend.served = .emergency ∧ t.blend.accel = some (-2800)) ∧
    (∀ g, z.blend.governing = some g → t.blend.served = .drive ∨ t.blend.effMode = .brake → t.blend.accel = some g.accel) ∧
    (effortSense t = .traction ↔ t.blend.served = .drive) ∧
    (effortSense t = .none ↔ t.blend.served = .coast ∨ t.blend.served = .hold) ∧
    (effortSense t ≠ effortSense z →
      (∀ x, (pick t.blend.axles x).electric = 0 ∧ (pick t.blend.axles x).friction = 0) ∧
      ∀ k ∈ t.makeUp.takes, k.applied = false) ∧
    (effortSense t = effortSense z → t.blend.axles = z.blend.axles ∧ t.makeUp = z.makeUp) ∧
    (t.blend.effMode ≠ z.blend.effMode →
      t.blend.effMode ≠ .brake → t.blend.effMode ≠ .lineLoss → t.blend.effMode ≠ .emergency →
        t.blend.mtb = .up ∧ t.blend.contactorClosed = false) ∧
    (t.blend.effMode = .emergency → z.blend.effMode ≠ .emergency → z.plug.trackBrake = true → z.blend.mtb = .up →
      300 < z.ref.speed → t.blend.mtb = .lowering ∧ t.blend.contactorClosed = true ∧ t.blend.loweringSince = some z.time) ∧
    (driveRequest t = true ↔ t.blend.served = .drive ∧ ∃ a, t.blend.accel = some a ∧ 0 < a) ∧
    (driveRequest t = false → t.hold.armed = true ∧ t.hold.levelPending = false ∧
      (z.hold.state = .free → z.hold.standstill = true → t.hold.state = .holding ∧ t.hold.friction = z.hold.holdForce) ∧
      (z.hold.state = .free → z.hold.standstill = false → t.hold.state = .free) ∧
      (z.hold.state = .hillStart → t.hold.state = .holding ∧ t.hold.friction = z.hold.holdForce ∧ t.hold.hillSince = none) ∧
      (z.hold.state = .holding ∨ z.hold.state = .rollback → t.hold.state = z.hold.state)) ∧
    (driveRequest t = true → z.hold.state ≠ .holding ∨ z.hold.armed = false → t.hold = z.hold ∧ t.sanding = z.sanding) ∧
    (driveRequest t = true → z.hold.state = .holding → z.hold.armed = true → t.hold.armed = false ∧
      (40 < z.pos.attrStation.rise → t.hold.state = .hillStart ∧ t.hold.hillSince = some z.time ∧
        t.hold.trailerReleased = false ∧ t.hold.friction = z.hold.holdForce ∧
        t.sanding.hillExpiry = some (after z.time 2000)) ∧
      (z.pos.attrStation.rise ≤ 40 → t.hold.state = .holding ∧ t.hold.levelPending = true ∧ t.sanding = z.sanding)) ∧
    t = { z with
      blend := t.blend, makeUp := { z.makeUp with takes := t.makeUp.takes }, hold := t.hold
      sanding := { z.sanding with hillExpiry := t.sanding.hillExpiry } }

/-- STANDSTILL after 500 ms: ROLLBACK ends, the modes are evaluated, a pending change of leading end is taken; before that
the row leaves the station as it was. The hold unit's part of a SPEED_SAMPLE: `m` is the station as it finds it, the steps of
R141 act on it in their order, and what they leave stands after the sample; its step 1 runs the standstill timer, begins
standstill as the row does, and ends it with its announcement; where the sample parks or wakes the station, the STATUS it
builds shows the sample as completed, which is notes/assumptions/38.md. The order inside the announcement is notes/assumptions/13.md,
that a level start is tried only when it was pending before the sample is notes/assumptions/23.md, that the hold unit works
after the odometry is notes/assumptions/7.md, and that the spoiled cell record is dropped is notes/assumptions/22.md. -/
def Obligations.Standstill : Prop :=
  (∀ (q : List Instr) (z m h : Station), running z = true →
    m = positionSample (learnSample .b (learnSample .a (moveReference (measure { z with lastSample := z.time })))) →
    h = holdPublish (parkTest (hillSample (levelStart m.hold.levelPending
      (releaseForward (rollbackTest (wheelWake (stillTest m))))))) →
    ∃ t, exec .speedSample ⟨q, z⟩ = .next ⟨q, t⟩ ∧ t.hold = h.hold ∧ t.life = h.life ∧ t.blend = h.blend ∧
      t.makeUp = h.makeUp ∧ t.pos = h.pos ∧ t.ref = m.ref ∧ m.hold = z.hold ∧ m.blend = z.blend ∧ m.life = z.life ∧
      (t.life = z.life → t.port = { z.port with railSlot := t.port.railSlot, seqRail := t.port.seqRail }) ∧
      (t.life ≠ z.life → ∃ c,
        t.port = { z.port with
          railSlot := t.port.railSlot, seqRail := t.port.seqRail, seqStatus := z.port.seqStatus + 1, lastStatus := z.time
          statusSlot := some ⟨c, z.port.seqStatus + 1, z.time⟩ } ∧
        (c.parked = true ↔ t.life = .parked) ∧ c.hold = t.hold.state ∧ (c.rollback = true ↔ t.hold.state = .rollback) ∧
        c.achieved = 50 * min (t.hold.achieved / 50) 2047 ∧ c.need = 50 * min (t.hold.need / 50) 2047 ∧
        c.forward = ⟨t.axles.a.forward, t.axles.b.forward⟩ ∧ c.candidate = ⟨t.axles.a.candidate, t.axles.b.candidate⟩ ∧
        c.creep = ⟨t.creep.a.state, t.creep.b.state⟩)) ∧
  (∀ (q : List Instr) (s : Station) (n : Nat), running s = true →
    (30 ≤ s.ref.speed.natAbs → s.hold.standstill = false → stillTest s = { s with hold := { s.hold with stillTime := none } }) ∧
    (30 ≤ s.ref.speed.natAbs → s.hold.standstill = true →
      stillTest s = evaluate false { s with hold := { s.hold with standstill := false, stillTime := none } }) ∧
    (s.ref.speed.natAbs < 30 → (s.hold.stillTime = none → n = 0) → (∀ k, s.hold.stillTime = some k → n = k + 5) →
      (s.hold.standstill = true ∨ n < 500 → stillTest s = { s with hold := { s.hold with stillTime := some n } }) ∧
      (s.hold.standstill = false → 500 ≤ n → (stillTest s).hold.standstill = true ∧
        exec .standstill ⟨q, { s with hold := { s.hold with stillTime := some n } }⟩ = .next ⟨q, stillTest s⟩))) ∧
  ∀ (q : List Instr) (z : Station), running z = true →
    (z.hold.standstill = true ∨ (∀ n, z.hold.stillTime = some n → n < 500) →
      exec .standstill ⟨q, z⟩ = .next ⟨q, z⟩) ∧
    (∀ n, z.hold.standstill = false → z.hold.stillTime = some n → 500 ≤ n → ∃ t, exec .standstill ⟨q, z⟩ = .next ⟨q, t⟩ ∧
      t.hold.standstill = true ∧ t.life = z.life ∧ t.map = z.map ∧ t.port = z.port ∧ t.link = z.link ∧ t.faults = z.faults ∧
      t.ref = z.ref ∧ t.axles = z.axles ∧ t.store = z.store ∧
      t.hold.shown = (if z.hold.state = .rollback then .holding else z.hold.shown) ∧
      (z.hold.state = .rollback → z.hold.armed = false → t.hold.state = .holding ∧ t.hold.friction = z.hold.holdForce) ∧
      (z.hold.state = .rollback → z.hold.armed = true →
        (driveRequest t = false → t.hold.state = .holding ∧ t.hold.friction = z.hold.holdForce) ∧
        (driveRequest t = true → t.hold.state = if 40 < z.pos.attrStation.rise then .hillStart else .holding)) ∧
      (z.hold.state = .free → (driveRequest t = true → t.hold.state = .free) ∧
        (driveRequest t = false → t.hold.state = .holding ∧ t.hold.friction = z.hold.holdForce)) ∧
      (z.link.loop.delivered ≠ some .loopOpen → (∀ g, z.blend.governing = some g → g.mode ≠ .drive) →
        t.blend.effMode ≠ .emergency ∧ (t.blend.effMode = .hold ∨ t.blend.effMode = .park → t.blend.served = .hold)) ∧
      (z.pos.change = none → t.pos = z.pos ∧ t.creep = z.creep ∧ t.sanders = z.sanders) ∧
      (∀ c, z.pos.change = some c → t.pos.leadingEnd = c.leadingEnd ∧ t.pos.sense = c.sense ∧ t.pos.change = none ∧
        t.pos.station = z.pos.station ∧ Resolved z.figs t.pos ∧ t.cellRec = none ∧
        t.creep.a.history = [] ∧ t.creep.b.history = [] ∧ t.sanding.aim = none ∧ (c.leadingEnd ≠ z.pos.leadingEnd →
          (pick t.sanders (leadingAxle z)).state ≠ .filling ∧ (pick t.sanders (leadingAxle z)).state ≠ .flowing)))

/-- ROLLBACK_TIMER_EXPIRY at 200 ms and WHEEL_MOVEMENT_WAKE on more than four edges within 2,000 ms enter ROLLBACK: the
fault, the timers, the end of standstill, and the wake of a PARKED station with a STATUS built, which shows ROLLBACK and
carries the rollback flag; that the row hands ROLLBACK to the port at once is notes/assumptions/38.md. The wheel wake of a
SPEED_SAMPLE (R141, step 2) acts as the row does, and its rollback test (step 3) runs the timer and enters at its 200 ms, or on
a FRESH peer's flag while standstill does not hold. That start armed is clear after the evaluation that ends standstill, and
that the lowest-numbered of several peers is named, is notes/assumptions/13.md. -/
def Obligations.RollbackEntry : Prop :=
  (∀ (s r : Station) (tested : Prop) (timer : Option Nat), r = rollbackTest s →
    (tested ↔ s.hold.state ≠ .rollback ∧
      (s.blend.effMode = .drive ∨ s.blend.effMode = .coast ∨ s.blend.effMode = .hold ∨ s.blend.effMode = .park)) →
    (tested → s.ref.speed < -150 → s.hold.rollbackTime = none → timer = some 0) →
    (∀ n, tested → s.ref.speed < -150 → s.hold.rollbackTime = some n → timer = some (n + 5)) →
    (¬tested ∨ -150 ≤ s.ref.speed → timer = none) →
    (∀ d, (∃ n, timer = some n ∧ 200 ≤ n ∧ d = .own) ∨ (tested ∧ s.hold.standstill = false ∧ (∀ n, timer = some n → n < 200) ∧
        ∃ n p, (n, p) ∈ freshPeers s ∧ p.rollback = true ∧ d = .peer n ∧
          ∀ k o, (k, o) ∈ freshPeers s → o.rollback = true → n ≤ k) →
      r.faults = recordFault s.faults s.time s.pos.attrLeading.mapCell .rollback none
        (some (if s.life = .parked then .parked else d)) ∧
      r.hold = { s.hold with
        state := .rollback, shown := .rollback, standstill := false, stillTime := none, armed := false, levelPending := false
        hillSince := none, rollbackTime := none, friction := s.hold.holdForce } ∧
      r.port = s.port ∧ r.life = if s.life = .parked then .run else s.life) ∧
    ((∀ n, timer = some n → n < 200) →
      ¬tested ∨ s.hold.standstill = true ∨ (∀ p ∈ freshPeers s, p.2.rollback = false) →
      r = { s with hold := { s.hold with rollbackTime := timer } })) ∧
  (∀ (q : List Instr) (s : Station), running s = true →
    ∃ t, exec .wheelMovementWake ⟨q, s⟩ = .next ⟨q, t⟩ ∧ wheelWake s = { t with port := s.port }) ∧
  ∀ (c : Instr) (q : List Instr) (z : Station) (enters : Prop), running z = true →
    (c = .rollbackTimerExpiry → (enters ↔ z.hold.state ≠ .rollback ∧ (∃ n, z.hold.rollbackTime = some n ∧ 200 ≤ n) ∧
      (z.blend.effMode = .drive ∨ z.blend.effMode = .coast ∨ z.blend.effMode = .hold ∨ z.blend.effMode = .park))) →
    (c = .wheelMovementWake → (enters ↔ z.life = .parked ∧
      ∃ x, 4 < ((pick z.axles x).wakeEdges.filter fun e => age z.time e ≤ 2000).length)) →
    c = .rollbackTimerExpiry ∨ c = .wheelMovementWake →
    (¬enters → exec c ⟨q, z⟩ = .next ⟨q, z⟩) ∧
    (enters → ∃ t, exec c ⟨q, z⟩ = .next ⟨q, t⟩ ∧
      t = { z with
        life := .run, faults := t.faults, hold := t.hold, blend := t.blend
        makeUp := { z.makeUp with takes := t.makeUp.takes }, port := t.port } ∧
      t.faults = recordFault z.faults z.time z.pos.attrLeading.mapCell .rollback none
        (some (if z.life = .parked then .parked else .own)) ∧
      t.hold = { z.hold with
        state := .rollback, shown := .rollback, standstill := false, stillTime := none, armed := false, levelPending := false
        hillSince := none, rollbackTime := none, friction := z.hold.holdForce } ∧
      (z.hold.standstill = false → t.blend = z.blend ∧ t.makeUp = z.makeUp) ∧
      (z.life = .run → t.port = z.port) ∧
      (z.life = .parked → t.port = { z.port with
        seqStatus := z.port.seqStatus + 1, lastStatus := z.time, statusSlot := t.port.statusSlot } ∧
        ∃ s, t.port.statusSlot = some ⟨s, z.port.seqStatus + 1, z.time⟩ ∧ s.parked = false ∧ s.hold = .rollback ∧
          s.rollback = true))

/-- PARK_TIMER_EXPIRY at 2,000 ms enters PARKED with a running save and the beacon; HILL_START_TIMER_EXPIRY at 3,000 ms
fails the hill start: the fault, and HOLDING at the hold force. Steps 4 and 5 of the hold unit in a SPEED_SAMPLE: the release
of HOLDING on forward motion, the end of a pending level start, the hand-over and completion of a hill start, the park timer,
and the hold force, hold friction and figures that are published. `usable` is a MOTOR station's inverter neither LOST nor
unhealthy, `own` and `tram` the achieved tractions, `need` and `needs` the gravity needs of the station and of the tram. The model's
choices in it: a beacon or a STATUS caused within a sample is built at its end (notes/assumptions/38.md), an inverter which
returns brings back the hand-over of R148 (notes/assumptions/39.md), the own need in the tram's is that of R153
(notes/assumptions/40.md), the hold friction in FREE is 0 (notes/assumptions/48.md), and the PARKED entry clears the park timer
(notes/assumptions/49.md). -/
def Obligations.ParkAndHillTimers : Prop :=
  (∀ s : Station,
    (s.hold.state = .holding → s.hold.standstill = false → 30 ≤ s.ref.speed →
      releaseForward s = { s with
        hold := { s.hold with state := .free }, life := if s.life = .parked then .run else s.life }) ∧
    (s.hold.state ≠ .holding ∨ s.hold.standstill = true ∨ s.ref.speed < 30 → releaseForward s = s)) ∧
  (∀ (s : Station) (usable : Prop) (own need tram needs : Nat) (mass rise G : Int) (q : List Instr),
    (usable ↔ s.plug.kind = .motor ∧ s.link.inverter.state = .present ∧ ∃ r, s.link.inverter.report = some r ∧ r.healthy = true) →
    (¬usable → own = 0) →
    (∀ r, usable → s.link.inverter.report = some r → own = r.achieved.a.toNat + r.achieved.b.toNat) →
    mass = s.blend.mass → rise = s.pos.attrStation.rise → G = (mass * 9807 * rise).tdiv 1000000 →
    (0 < rise → (need : Int) = G) → (rise ≤ 0 → need = 0) →
    tram = own + ((freshPeers s).map fun p => p.2.achieved).sum → needs = need + ((freshPeers s).map fun p => p.2.need).sum →
    (∀ appears : Prop,
      (usable → (appears ↔ effortSense s = .traction ∧ (0 < s.blend.axles.a.electric ∨ 0 < s.blend.axles.b.electric))) →
      (¬usable → (appears ↔ 0 < tram ∧ needs ≤ tram)) →
      (s.hold.levelPending = true → appears →
        levelStart true s = { s with hold := { s.hold with levelPending := false, state := .free } }) ∧
      (s.hold.levelPending = false ∨ ¬appears → levelStart true s = s) ∧ levelStart false s = s) ∧
    (s.hold.state ≠ .hillStart → hillSample s = s) ∧
    (∀ (friction : Nat) (free : Bool), s.hold.state = .hillStart →
      (usable → free = s.hold.trailerReleased ∧ (G ≤ own → friction = 0) ∧
        ((own : Int) < G → (friction : Int) = s.hold.holdForce * (G - own) / G)) →
      (¬usable → (free = true ↔ s.hold.trailerReleased = true ∨ needs ≤ tram) ∧
        friction = if free then 0 else s.hold.holdForce) →
      ∀ released : Prop, (usable → (released ↔ friction = 0)) → (¬usable → (released ↔ free = true)) →
      (released → 100 < s.ref.speed → hillSample s = { s with hold := { s.hold with
        friction := friction, trailerReleased := free, state := .free, hillSince := none } }) ∧
      (¬released ∨ s.ref.speed ≤ 100 → hillSample s = { s with hold := { s.hold with
        friction := friction, trailerReleased := free } })) ∧
    (∀ (runs : Prop) (timer : Option Nat), running s = true →
      (runs ↔ s.life = .run ∧ s.blend.effMode = .park ∧ s.hold.standstill = true ∧ s.hold.state = .holding) →
      (¬runs → timer = none) → (runs → s.hold.parkTime = none → timer = some 0) →
      (∀ n, runs → s.hold.parkTime = some n → timer = some (n + 5)) →
      ((∀ n, timer = some n → n < 2000) → parkTest s = { s with hold := { s.hold with parkTime := timer } }) ∧
      ∃ t, exec .parkTimerExpiry ⟨q, { s with hold := { s.hold with parkTime := timer } }⟩ = .next ⟨q, t⟩ ∧
        parkTest s = { t with port := s.port }) ∧
    ∀ (force friction : Nat),
      force = min (max (s.blend.mass * 9807 * rise.natAbs / 1000000 * 1300 / 1000 / 2) 8000) (min s.figs.frictionMax s.figs.axleMax) →
      (s.hold.state = .holding ∨ s.hold.state = .rollback → friction = force) → (s.hold.state = .free → friction = 0) →
      (s.hold.state = .hillStart → usable → friction = s.hold.friction) →
      (s.hold.state = .hillStart → ¬usable → friction = if s.hold.trailerReleased then 0 else force) →
      holdPublish s = { s with hold := { s.hold with
        holdForce := force, friction := friction, shown := s.hold.state, achieved := own, need := need } }) ∧
  ∀ (q : List Instr) (z : Station), running z = true →
    (z.life = .parked ∨ (∀ n, z.hold.parkTime = some n → n < 2000) → exec .parkTimerExpiry ⟨q, z⟩ = .next ⟨q, z⟩) ∧
    (∀ n, z.life = .run → z.hold.parkTime = some n → 2000 ≤ n → ∃ t s, exec .parkTimerExpiry ⟨q, z⟩ = .next ⟨q, t⟩ ∧
      t = { z with
        life := .parked
        hold := { z.hold with parkTime := none }
        axles := ⟨{ z.axles.a with wakeEdges := [] }, { z.axles.b with wakeEdges := [] }⟩
        store := t.store
        port := { z.port with
          seqStatus := z.port.seqStatus + 1, lastStatus := z.time
          statusSlot := some ⟨s, z.port.seqStatus + 1, z.time⟩ } } ∧
      s.parked = true ∧ s.hold = z.hold.shown ∧
      (z.store.write = none → t.store = { z.store with
        write := some (.running ⟨z.axles.a.trim, z.axles.b.trim⟩ ⟨z.sanders.a.box, z.sanders.b.box⟩ z.time) }) ∧
      (z.store.write ≠ none → t.store = { z.store with pendingSave := true })) ∧
    (∀ m, z.hold.state = .hillStart → z.hold.hillSince = some m → 3000 ≤ age z.time m →
      exec .hillStartTimerExpiry ⟨q, z⟩ = .next ⟨q, { z with
        hold := { z.hold with state := .holding, friction := z.hold.holdForce, hillSince := none }
        faults := recordFault z.faults z.time z.pos.attrLeading.mapCell .hillStartFailed none none }⟩) ∧
    (z.hold.state ≠ .hillStart ∨ (∀ m, z.hold.hillSince = some m → age z.time m < 3000) →
      exec .hillStartTimerExpiry ⟨q, z⟩ = .next ⟨q, z⟩)

/-! ## Trainline -/

/-- DEMAND_ARRIVAL, accepted: the cab's record, the silence armed, the governing request of R105 and its conflict fault,
the loop over the request, and the wake of a PARKED station by a mode other than PARK. `new` and `old` are the clamped
requests of the sender and of the other cab. That DEMAND_CONFLICT is stamped with the map cell as it stood before the same
frame settles leading end and anchor is the model's choice (notes/assumptions/18.md). -/
def Obligations.DemandAccepted : Prop :=
  ∀ (f : Frame) (cab : CabEnd) (d : DemandContent) (new old : Governing) (rank : DemandMode → Nat) (both : Prop)
    (q : List Instr) (z : Station), running z = true →
    checkDemand f = some (cab, d) → repeatsDemand z cab f.sequence = false →
    new = ⟨cab, d.mode, max (-3500) (min 1500 d.accel)⟩ →
    (both ↔ ∃ r, pick z.port.demands (axleOf (otherEnd cab)) = some r ∧ age z.time r.arrived < 100) →
    (∀ r, pick z.port.demands (axleOf (otherEnd cab)) = some r →
      old = ⟨otherEnd cab, r.content.mode, max (-3500) (min 1500 r.content.accel)⟩) →
    rank = (fun m => match m with | .brake => 0 | .hold => 1 | .park => 2 | .coast => 3 | .drive => 4) →
    ∃ t, exec (.demandArrival f) ⟨q, z⟩ = .next ⟨q, t⟩ ∧
      t.port.demands = put z.port.demands (axleOf cab) (some ⟨d, z.time, f.sequence⟩) ∧
      t.port.announced = false ∧ t.port.heardAt = z.time ∧
      (¬both → t.blend.governing = some new ∧ t.blend.conflict = false ∧ t.faults = z.faults) ∧
      (both → t.blend.conflict = true ∧
        t.faults = (if z.blend.conflict then z.faults
          else recordFault z.faults z.time z.pos.attrLeading.mapCell .demandConflict none none) ∧
        (new.accel < old.accel → t.blend.governing = some new) ∧
        (old.accel < new.accel → t.blend.governing = some old) ∧
        (new.accel = old.accel → rank new.mode ≤ rank old.mode → t.blend.governing = some new) ∧
        (new.accel = old.accel → rank old.mode < rank new.mode → t.blend.governing = some old)) ∧
      (z.link.loop.delivered = some .loopOpen → t.blend.effMode = .emergency) ∧
      (z.link.loop.delivered ≠ some .loopOpen → z.blend.effMode ≠ .emergency →
        t.blend.effMode = requestedMode t.blend ∧
        (t.blend.effMode = .drive → t.blend.rearm = z.blend.rearm) ∧ (t.blend.effMode ≠ .drive → t.blend.rearm = false)) ∧
      (∀ g, t.blend.governing = some g → z.life = .parked → t.life = if g.mode = .park then .parked else .run) ∧
      (z.life = .run → t.life = .run) ∧
      t = { z with
        life := t.life, pos := t.pos, creep := t.creep, cellRec := t.cellRec, sanding := t.sanding, sanders := t.sanders
        blend := t.blend, makeUp := { z.makeUp with takes := t.makeUp.takes }, hold := t.hold, faults := t.faults
        port := { z.port with
          demands := t.port.demands, announced := false, heardAt := z.time, seqStatus := t.port.seqStatus
          statusSlot := t.port.statusSlot, lastStatus := t.port.lastStatus } }

/-- DEMAND_SILENCE after 100 ms, once a silence: no governing request, LINE_LOSS unless EMERGENCY governs, DEMAND_LOST once a
DEMAND has been heard, and a VALID position falls to DEAD_RECKONING. -/
def Obligations.DemandSilence : Prop :=
  ∀ (q : List Instr) (z : Station), running z = true →
    (z.port.announced = true ∨ age z.time z.port.heardAt < 100 → exec .demandSilence ⟨q, z⟩ = .next ⟨q, z⟩) ∧
    (z.port.announced = false → 100 ≤ age z.time z.port.heardAt → ∃ t, exec .demandSilence ⟨q, z⟩ = .next ⟨q, t⟩ ∧
      t = { z with
        port := { z.port with announced := true }
        blend := t.blend, makeUp := { z.makeUp with takes := t.makeUp.takes }, hold := t.hold, sanding := t.sanding
        pos := t.pos, sanders := t.sanders, faults := t.faults } ∧
      t.blend.governing = none ∧ t.blend.conflict = false ∧
      (z.link.loop.delivered = some .loopOpen ∨ (z.blend.effMode = .emergency ∧ z.hold.standstill = false) →
        t.blend.effMode = .emergency) ∧
      (z.link.loop.delivered ≠ some .loopOpen → z.blend.effMode ≠ .emergency ∨ z.hold.standstill = true →
        t.blend.effMode = .lineLoss ∧ t.blend.served = .lineLoss ∧ t.blend.accel = some (-1200)) ∧
      (t.blend.effMode ≠ z.blend.effMode → t.blend.rearm = true) ∧
      t.pos.state = (if z.pos.state = .valid then .deadReckoning else z.pos.state) ∧ t.pos.station = z.pos.station ∧
      (z.pos.state = .valid → Resolved z.figs t.pos) ∧ (z.pos.state ≠ .valid → t.pos = z.pos) ∧
      (z.port.demands = ⟨none, none⟩ → t.faults = z.faults) ∧
      (z.port.demands ≠ ⟨none, none⟩ →
        t.faults = recordFault z.faults z.time z.pos.attrLeading.mapCell .demandLost none none))

/-- STATUS_ARRIVAL, accepted, writes the peer's record and lapses an outdated take on it; PEER_RECORD_SILENT beyond 60 ms
lapses the take; PEER_LOST beyond 2,000 ms (5,000 ms from PARKED) reports. -/
def Obligations.PeerRecords : Prop :=
  ∀ (q : List Instr) (z : Station), running z = true →
    (∀ (f : Frame) (n : Nat) (c : StatusContent), checkStatus f = some (n, c) → n ≠ z.plug.number.val →
      (∀ l, (peerAt z n).latest = some l → l.sequence ≠ f.sequence) →
      ∃ t, exec (.statusArrival f) ⟨q, z⟩ = .next ⟨q, t⟩ ∧
        t = { z with
          port := { z.port with
            peers := z.port.peers.set n ⟨if c.parked then .parked else .fresh, some ⟨c, z.time, f.sequence⟩⟩ }
          makeUp := { z.makeUp with takes := t.makeUp.takes } } ∧
        t.makeUp.takes.length = z.makeUp.takes.length ∧
        ∀ (i : Nat) (k : Take) (out : Prop), z.makeUp.takes[i]? = some k →
          (out ↔ k.peer = n ∧ (c.generation ≠ k.generation ∨ ¬(c.short = true ∧ 0 < c.balance) ∨
            senseOf c.served ≠ effortSense z ∨ senseOf c.served = .none ∨
            ((peerAt z n).state = .fresh ∧ c.parked = true))) →
          (out → t.makeUp.takes[i]? = some { k with applied := false }) ∧ (¬out → t.makeUp.takes[i]? = some k)) ∧
    (∀ n : Fin 8, (∃ l, (peerAt z n).latest = some l ∧ 60 < age z.time l.arrived) → (peerAt z n).state = .fresh →
      ∃ t, exec (.peerRecordSilent n) ⟨q, z⟩ = .next ⟨q, t⟩ ∧
        t = { z with
          port := { z.port with peers := z.port.peers.set n { peerAt z n with state := .silent } }
          makeUp := { z.makeUp with takes := z.makeUp.takes.map fun k => if k.peer = n.val then { k with applied := false } else k } }) ∧
    (∀ n : Fin 8, (peerAt z n).state ≠ .fresh ∨ (∀ l, (peerAt z n).latest = some l → age z.time l.arrived ≤ 60) →
      exec (.peerRecordSilent n) ⟨q, z⟩ = .next ⟨q, z⟩) ∧
    (∀ n : Fin 8, (∃ l, (peerAt z n).latest = some l ∧
        (((peerAt z n).state = .silent ∧ 2000 < age z.time l.arrived) ∨
          ((peerAt z n).state = .parked ∧ 5000 < age z.time l.arrived))) →
      exec (.peerLost n) ⟨q, z⟩ = .next ⟨q, { z with
        port := { z.port with peers := z.port.peers.set n { peerAt z n with state := .lost } }
        faults := recordFault z.faults z.time z.pos.attrLeading.mapCell .peerLost none (some (.peer n)) }⟩) ∧
    (∀ n : Fin 8, (∀ l, (peerAt z n).latest = some l →
        ((peerAt z n).state = .silent → age z.time l.arrived ≤ 2000) ∧
        ((peerAt z n).state = .parked → age z.time l.arrived ≤ 5000)) →
      exec (.peerLost n) ⟨q, z⟩ = .next ⟨q, z⟩)

/-- STATUS_BUILD: the next sequence number, the slot replaced, the timer restarted, and each field from the unit that owns
it, scaled and saturated as its bits allow: the hold state of the latest sample, the rollback flag while ROLLBACK lasts, the
sanders of the latest decision, and 0 for the make-up figures unless the unit is ACTIVE. -/
def Obligations.StatusBuild : Prop :=
  ∀ (q : List Instr) (z : Station), running z = true → ∃ c,
    exec .statusBuild ⟨q, z⟩ = .next ⟨q, { z with port := { z.port with
      seqStatus := z.port.seqStatus + 1, lastStatus := z.time, statusSlot := some ⟨c, z.port.seqStatus + 1, z.time⟩ } }⟩ ∧
    (c.parked = true ↔ z.life = .parked) ∧ c.served = z.blend.served ∧ c.hold = z.hold.shown ∧
    (c.rollback = true ↔ z.hold.state = .rollback) ∧
    (z.makeUp.standing = .active → 0 < z.makeUp.shortfall → c.short = true ∧ c.balance = min z.makeUp.shortfall 131071) ∧
    (z.makeUp.standing = .active → z.makeUp.shortfall = 0 → c.short = false ∧ c.balance = min z.makeUp.spare 131071) ∧
    (z.makeUp.standing ≠ .active → c.short = false ∧ c.balance = 0 ∧ c.covered = 0) ∧
    c.forward = ⟨z.axles.a.forward, z.axles.b.forward⟩ ∧ c.creep = ⟨z.creep.a.state, z.creep.b.state⟩ ∧
    c.candidate = ⟨z.axles.a.candidate, z.axles.b.candidate⟩ ∧
    c.mass = 20 * min (z.blend.mass / 20) 2047 ∧ c.nominal = 2 * min (z.blend.nominal / 2) 65535 ∧
    (z.makeUp.standing = .active → c.covered = min z.makeUp.covered 131071) ∧ c.generation = z.makeUp.generation ∧
    c.capability = 25 * min (z.blend.capability / 25) 8191 ∧ c.achieved = 50 * min (z.hold.achieved / 50) 2047 ∧
    c.need = 50 * min (z.hold.need / 50) 2047 ∧ c.mapCell = z.pos.attrLeading.mapCell ∧
    (z.map.lastClear = none → c.clearKind = 0 ∧ c.clearId = 0) ∧
    (∀ l, z.map.lastClear = some l → c.clearId = l.id.toNat ∧
      c.clearKind = (match l.actual with | .all => 1 | .window _ => 2 | .cells _ _ => 3)) ∧
    c.faultCount = (z.faults.records.filter (·.isSome)).length ∧ c.overflow = z.faults.overflow ∧
    ((∀ r ∈ z.faults.records, r = none) → c.oldestKind = 0) ∧
    (∀ before r after', z.faults.records = before ++ some r :: after' →
      (∀ o, some o ∈ before → age z.time o.first < age z.time r.first) →
      (∀ o, some o ∈ after' → age z.time o.first ≤ age z.time r.first) → c.oldestKind = faultCode r.kind) ∧
    c.sanders = z.sanding.shownStates ∧ c.boxes = ⟨z.sanding.shownBoxes.a / 1000, z.sanding.shownBoxes.b / 1000⟩ ∧
    c.takes = (z.makeUp.takes.filter (·.applied)).map fun k => ⟨k.peer, k.generation, min k.amount 2097151⟩

/-- LINE_FREE_OFFER puts one frame on the line, STATUS before MAP CLEAR before RAIL REPORT; STATUS_SLOT_EXPIRY drops a STATUS
at 20 ms; CONTENTION_LOST returns the frame to its slot, and withdraws there a RAIL REPORT that has lost an observation while
it was on the line; FRAME_SENT takes it off, and a sent RAIL REPORT's observations
leave the outbox. -/
def Obligations.TransmitSlots : Prop :=
  ∀ (q : List Instr) (z : Station), running z = true →
    (∀ l, z.port.onLine = some l → exec .lineFreeOffer ⟨q, z⟩ = .next ⟨q, z⟩) ∧
    (z.port.onLine = none →
      (∀ f, z.port.statusSlot = some f → exec .lineFreeOffer ⟨q, z⟩ = .next ⟨q, { z with port := { z.port with
        statusSlot := none, onLine := some (.status f) } }⟩) ∧
      (∀ f, z.port.statusSlot = none → z.port.clearSlot = some f → exec .lineFreeOffer ⟨q, z⟩ = .next ⟨q, { z with
        port := { z.port with clearSlot := none, onLine := some (.mapClear f) } }⟩) ∧
      (∀ f, z.port.statusSlot = none → z.port.clearSlot = none → z.port.railSlot = some f →
        exec .lineFreeOffer ⟨q, z⟩ = .next ⟨q, { z with port := { z.port with
          railSlot := none, onLine := some (.rail f false) } }⟩) ∧
      (z.port.statusSlot = none → z.port.clearSlot = none → z.port.railSlot = none →
        exec .lineFreeOffer ⟨q, z⟩ = .next ⟨q, z⟩)) ∧
    (∀ f, z.port.statusSlot = some f → 20 ≤ age z.time f.built →
      exec .statusSlotExpiry ⟨q, z⟩ = .next ⟨q, { z with port := { z.port with statusSlot := none } }⟩) ∧
    ((∀ f, z.port.statusSlot = some f → age z.time f.built < 20) → exec .statusSlotExpiry ⟨q, z⟩ = .next ⟨q, z⟩) ∧
    (z.port.onLine = none → exec .contentionLost ⟨q, z⟩ = .next ⟨q, z⟩ ∧ exec .frameSent ⟨q, z⟩ = .next ⟨q, z⟩) ∧
    (∀ f, z.port.onLine = some (.status f) →
      exec .frameSent ⟨q, z⟩ = .next ⟨q, { z with port := { z.port with onLine := none } }⟩ ∧
      exec .contentionLost ⟨q, z⟩ = .next ⟨q, { z with port := { z.port with
        onLine := none
        statusSlot := if z.port.statusSlot = none ∧ age z.time f.built < 20 then some f else z.port.statusSlot } }⟩) ∧
    (∀ f, z.port.onLine = some (.mapClear f) →
      exec .frameSent ⟨q, z⟩ = .next ⟨q, { z with port := { z.port with onLine := none } }⟩ ∧
      exec .contentionLost ⟨q, z⟩ = .next ⟨q, { z with port := { z.port with
        onLine := none, clearSlot := if z.port.clearSlot = none then some f else z.port.clearSlot } }⟩) ∧
    (∀ f, z.port.onLine = some (.rail f false) →
      exec .contentionLost ⟨q, z⟩ = .next ⟨q, { z with port := { z.port with onLine := none, railSlot := some f } }⟩) ∧
    (∀ f, z.port.onLine = some (.rail f true) → ∃ t, exec .contentionLost ⟨q, z⟩ = .next ⟨q, t⟩ ∧
      t = { z with
        map := { z.map with outbox := t.map.outbox }
        port := { z.port with onLine := none, railSlot := t.port.railSlot, seqRail := t.port.seqRail } } ∧
      t.map.outbox.map (·.obs) = z.map.outbox.map (·.obs) ∧
      (z.map.outbox = [] → t.port.railSlot = none ∧ t.port.seqRail = z.port.seqRail) ∧
      (z.map.outbox ≠ [] → t.port.railSlot = some ⟨(z.map.outbox.map (·.obs)).take 6, z.port.seqRail + 1⟩ ∧
        t.port.seqRail = z.port.seqRail + 1 ∧ inFrameObs t.map.outbox = (z.map.outbox.map (·.obs)).take 6)) ∧
    (∀ f b, z.port.onLine = some (.rail f b) → z.port.railSlot = none → ∃ t, exec .frameSent ⟨q, z⟩ = .next ⟨q, t⟩ ∧
      t = { z with
        map := { z.map with outbox := t.map.outbox }
        port := { z.port with onLine := none, railSlot := t.port.railSlot, seqRail := t.port.seqRail } } ∧
      t.map.outbox.map (·.obs) = (z.map.outbox.filter fun i => !i.inFrame).map (·.obs) ∧
      (t.map.outbox = [] → t.port.railSlot = none ∧ t.port.seqRail = z.port.seqRail) ∧
      (t.map.outbox ≠ [] → t.port.railSlot = some ⟨(t.map.outbox.map (·.obs)).take 6, z.port.seqRail + 1⟩ ∧
        t.port.seqRail = z.port.seqRail + 1 ∧ inFrameObs t.map.outbox = (t.map.outbox.map (·.obs)).take 6))

/-- What fails a check is no arrival: a frame that R159 discards, a repeated DEMAND or STATUS, link bytes of a wrong length or
sum, the inverter channel of a TRAILER; a STATUS with the own number withdraws the make-up unit once; a request with a
wrong sum has no answer; one with an unknown code or a wrong length is answered BAD_REQUEST. Which DEMAND, STATUS, RAIL REPORT
and MAP CLEAR frames fail R159's checks is stated for frames whose content is as long as their header says
(notes/assumptions/30.md). -/
def Obligations.DiscardedInputs : Prop :=
  ∀ (q : List Instr) (z : Station), running z = true →
    (∀ f, checkDemand f = none ∨ (∃ cab d r, checkDemand f = some (cab, d) ∧ pick z.port.demands (axleOf cab) = some r ∧
      r.sequence = f.sequence) → exec (.demandArrival f) ⟨q, z⟩ = .next ⟨q, z⟩) ∧
    (∀ f : Frame, f.bits.length = 8 * f.length.toNat →
      (checkDemand f = none ↔ (8 ≠ f.sender ∧ 9 ≠ f.sender) ∨ f.length ≠ 6 ∨ 5 ≤ field f.bits 0 3)) ∧
    (∀ f : Frame, f.bits.length = 8 * f.length.toNat →
      (checkStatus f = none ↔ 8 ≤ f.sender.toNat ∨ (∀ n < 8, f.length.toNat ≠ 28 + 4 * n) ∨ 6 ≤ field f.bits 1 3 ∨
        6 ≤ field f.bits 40 3 ∨ 6 ≤ field f.bits 44 3 ∨ 5 ≤ field f.bits 186 3 ∨ 5 ≤ field f.bits 189 3)) ∧
    (∀ (now : Millis) (f : Frame), f.bits.length = 8 * f.length.toNat →
      (checkRail now f = none ↔ 8 ≤ f.sender.toNat ∨ ∀ n, 1 ≤ n → n ≤ 6 → f.length.toNat ≠ 4 * n)) ∧
    (∀ f, checkStatus f = none ∨ (∃ n c l, checkStatus f = some (n, c) ∧ n ≠ z.plug.number.val ∧
      (peerAt z n).latest = some l ∧ l.sequence = f.sequence) → exec (.statusArrival f) ⟨q, z⟩ = .next ⟨q, z⟩) ∧
    (∀ f c, checkStatus f = some (z.plug.number.val, c) →
      (z.port.dupSeen = true → exec (.statusArrival f) ⟨q, z⟩ = .next ⟨q, z⟩) ∧
      (z.port.dupSeen = false → exec (.statusArrival f) ⟨q, z⟩ = .next ⟨q, { z with
        port := { z.port with dupSeen := true }
        makeUp := { z.makeUp with withdrawn := true, standing := .withdrawn, takes := [] }
        faults := recordFault z.faults z.time z.pos.attrLeading.mapCell .duplicateStation none none }⟩)) ∧
    (∀ f, checkRail z.time f = none → exec (.railReportArrival f) ⟨q, z⟩ = .next ⟨q, z⟩) ∧
    (∀ f, checkClear f = none → exec (.mapClearArrival f) ⟨q, z⟩ = .next ⟨q, z⟩) ∧
    (∀ f : Frame, f.bits.length = 8 * f.length.toNat → (checkClear f = none ↔ 10 ≤ f.sender.toNat ∨ f.length ≠ 6)) ∧
    (∀ b : List Byte, b.length ≠ 16 ∨ z.plug.kind = .trailer ∨ b.getLast? ≠ some (byteSum b.dropLast) →
      exec (.inverterReport b) ⟨q, z⟩ = .next ⟨q, z⟩) ∧
    (∀ b : List Byte, b.length ≠ 10 ∨ b.getLast? ≠ some (byteSum b.dropLast) →
      exec (.brakeUnitReport b) ⟨q, z⟩ = .next ⟨q, z⟩) ∧
    (∀ (code : Byte) (req : Request) (c : Instr), (code, c) ∈ [((1 : Byte), Instr.readStatus req), (2, .readFaults req),
        (3, .clearFault req), (4, .clearAllFaults req), (5, .clearOverflow req), (6, .readMap req), (7, .clearMap req),
        (8, .filled req), (9, .writeCommissioning req)] ∨ (c = .badRequest code req ∧ (code = 0 ∨ 10 < code.toNat)) →
      (req.sum ≠ byteSum (code :: req.args) → exec c ⟨q, z⟩ = .next ⟨q, { z with reply := none }⟩) ∧
      (req.sum = byteSum (code :: req.args) → argLength code.toNat ≠ some req.args.length →
        exec c ⟨q, z⟩ = .next ⟨q, { z with reply := some ⟨code, .badRequest, .empty⟩ }⟩)) ∧
    (∀ (req : Request) (plug : CodePlug) (comm : EccFinding),
      (req.sum ≠ byteSum (10 :: req.args) → exec (.restart req plug comm) ⟨q, z⟩ = .next ⟨q, { z with reply := none }⟩) ∧
      (req.sum = byteSum (10 :: req.args) → req.args ≠ [] →
        exec (.restart req plug comm) ⟨q, z⟩ = .next ⟨q, { z with reply := some ⟨10, .badRequest, .empty⟩ }⟩)) ∧
    (∀ code : Byte, code = 0 ∨ 10 < code.toNat → argLength code.toNat = none)

/-! ## Bogie link and plant lines -/

/-- INVERTER_REPORT and BRAKE_UNIT_REPORT, accepted, replace the latest report and restart the silence; the third report in
LOST makes the unit PRESENT; loads are clamped, at crush while LOST. PLANT_SILENCE_EXPIRY at 30 ms makes a unit LOST with
its fault, clears the count of returns, and reports a loss not yet reported. -/
def Obligations.PlantRecords : Prop :=
  ∀ (q : List Instr) (z : Station), running z = true →
    (∀ b r, z.plug.kind = .motor → decodeInverter b = some r → ∃ u,
      exec (.inverterReport b) ⟨q, z⟩ = .next ⟨q, { z with link := { z.link with inverter := u } }⟩ ∧
      u.report = some r ∧ u.silentSince = z.time ∧
      (z.link.inverter.state = .present → u = { z.link.inverter with report := some r, silentSince := z.time }) ∧
      (z.link.inverter.state = .lost → z.link.inverter.returns < 2 → u.state = .lost ∧
        u.returns = z.link.inverter.returns + 1 ∧ u.lossReported = z.link.inverter.lossReported) ∧
      (z.link.inverter.state = .lost → 2 ≤ z.link.inverter.returns → u.state = .present ∧ u.lossReported = false)) ∧
    (∀ b r, decodeBrake b = some r → ∃ u l,
      exec (.brakeUnitReport b) ⟨q, z⟩ = .next ⟨q, { z with link := { z.link with brake := u, loads := l } }⟩ ∧
      u.report = some r ∧ u.silentSince = z.time ∧
      (z.link.brake.state = .present ∨ 2 ≤ z.link.brake.returns → u.state = .present ∧
        ∀ x, pick l x = max z.figs.emptyLoad (min z.figs.crushLoad (pick r.load x))) ∧
      (z.link.brake.state = .lost → z.link.brake.returns < 2 → u.state = .lost ∧ u.returns = z.link.brake.returns + 1 ∧
        l = ⟨z.figs.crushLoad, z.figs.crushLoad⟩) ∧
      (z.link.brake.state = .lost → 2 ≤ z.link.brake.returns → u.lossReported = false)) ∧
    (30 ≤ age z.time z.link.inverter.silentSince →
      exec (.plantSilenceExpiry .inverter) ⟨q, z⟩ = .next ⟨q, { z with
        link := { z.link with inverter := { z.link.inverter with state := .lost, returns := 0, lossReported := true } }
        faults := if z.link.inverter.state = .present ∨ z.link.inverter.lossReported = false then
          recordFault z.faults z.time z.pos.attrLeading.mapCell .plantLinkLost none none else z.faults }⟩) ∧
    (z.link.brake.state = .present ∨ z.link.brake.returns ≠ 0 ∨ z.link.brake.lossReported = false →
      30 ≤ age z.time z.link.brake.silentSince →
      exec (.plantSilenceExpiry .brakeUnit) ⟨q, z⟩ = .next ⟨q, { z with
        link := { z.link with
          brake := { z.link.brake with state := .lost, returns := 0, lossReported := true }
          loads := ⟨z.figs.crushLoad, z.figs.crushLoad⟩ }
        faults := if z.link.brake.state = .present ∨ z.link.brake.lossReported = false then
          recordFault z.faults z.time z.pos.attrLeading.mapCell .brakeUnitLost none none else z.faults }⟩) ∧
    (age z.time z.link.inverter.silentSince < 30 → exec (.plantSilenceExpiry .inverter) ⟨q, z⟩ = .next ⟨q, z⟩) ∧
    (age z.time z.link.brake.silentSince < 30 → exec (.plantSilenceExpiry .brakeUnit) ⟨q, z⟩ = .next ⟨q, z⟩)

/-- The debounced inputs: a raw change restarts the timer; at 10 ms an undelivered level is delivered, the loop with an
evaluation and the wake of a PARKED station, the shoe-down sensor with the track brake's confirmation or MTB_NOT_DOWN. That
the lowering timer reads as stopped after the confirmation is notes/assumptions/47.md. -/
def Obligations.PlantInputs : Prop :=
  (∀ (l : LoopLevel) (q : List Instr) (z : Station),
    (z.link.loop.raw = l → exec (.emergencyLoopChange l) ⟨q, z⟩ = .next ⟨q, z⟩) ∧
    (z.link.loop.raw ≠ l → exec (.emergencyLoopChange l) ⟨q, z⟩ = .next ⟨q, { z with link := { z.link with
      loop := { z.link.loop with raw := l, changedAt := z.time } } }⟩)) ∧
  (∀ (l : ShoeLevel) (q : List Instr) (z : Station),
    (z.link.shoe.raw = l → exec (.shoeDownSensorChange l) ⟨q, z⟩ = .next ⟨q, z⟩) ∧
    (z.link.shoe.raw ≠ l → exec (.shoeDownSensorChange l) ⟨q, z⟩ = .next ⟨q, { z with link := { z.link with
      shoe := { z.link.shoe with raw := l, changedAt := z.time } } }⟩)) ∧
  ∀ (q : List Instr) (z : Station), running z = true →
    (age z.time z.link.loop.changedAt < 10 ∨ z.link.loop.delivered = some z.link.loop.raw →
      exec .emergencyLoopDelivery ⟨q, z⟩ = .next ⟨q, z⟩) ∧
    (10 ≤ age z.time z.link.loop.changedAt → z.link.loop.delivered ≠ some z.link.loop.raw →
      ∃ t, exec .emergencyLoopDelivery ⟨q, z⟩ = .next ⟨q, t⟩ ∧ t.life = .run ∧
        t.link = { z.link with loop := { z.link.loop with delivered := some z.link.loop.raw } } ∧
        (z.link.loop.raw = .loopOpen → t.blend.effMode = .emergency ∧ t.blend.served = .emergency ∧
          t.blend.accel = some (-2800)) ∧
        (z.link.loop.raw = .loopClosed → z.blend.effMode = .emergency → z.hold.standstill = false →
          t.blend.effMode = .emergency) ∧
        (z.life = .parked → HoldLaw z → t.hold.state = .holding ∧ t.port.seqStatus = z.port.seqStatus + 1) ∧
        t = { z with
          life := .run, link := t.link, blend := t.blend, makeUp := { z.makeUp with takes := t.makeUp.takes }
          hold := t.hold, sanding := { z.sanding with hillExpiry := t.sanding.hillExpiry }
          port := { z.port with
            seqStatus := t.port.seqStatus, statusSlot := t.port.statusSlot, lastStatus := t.port.lastStatus } }) ∧
    (age z.time z.link.shoe.changedAt < 10 ∨ z.link.shoe.delivered = some z.link.shoe.raw →
      exec .shoeDownDelivery ⟨q, z⟩ = .next ⟨q, z⟩) ∧
    (∀ link, 10 ≤ age z.time z.link.shoe.changedAt → z.link.shoe.delivered ≠ some z.link.shoe.raw →
      link = { z.link with shoe := { z.link.shoe with delivered := some z.link.shoe.raw } } →
      (z.plug.trackBrake = true → z.link.shoe.raw = .down → z.blend.mtb = .lowering ∨ z.blend.mtb = .unconfirmed →
        exec .shoeDownDelivery ⟨q, z⟩ = .next ⟨q, { z with
          link := link, blend := { z.blend with mtb := .down, loweringSince := none } }⟩) ∧
      (z.plug.trackBrake = true → z.link.shoe.raw = .notDown → z.blend.mtb = .down →
        exec .shoeDownDelivery ⟨q, z⟩ = .next ⟨q, { z with
          link := link, blend := { z.blend with mtb := .unconfirmed }
          faults := recordFault z.faults z.time z.pos.attrLeading.mapCell .mtbNotDown none none }⟩) ∧
      (z.plug.trackBrake = false ∨ z.blend.mtb = .up ∨ (z.link.shoe.raw = .down ↔ z.blend.mtb = .down) →
        exec .shoeDownDelivery ⟨q, z⟩ = .next ⟨q, { z with link := link }⟩))

/-! ## Fault table and service connector -/

/-- READ STATUS, READ FAULTS and READ MAP answer OK and change nothing but the reply, with the map in ascending cells, ages
and the outbox in joining order; CLEAR FAULT, CLEAR ALL FAULTS and CLEAR OVERFLOW act on the table alone. -/
def Obligations.ReadsAndFaultCommands : Prop :=
  ∀ (req : Request) (q : List Instr) (z : Station), running z = true →
    (sumOk 1 req = true → req.args = [] → ∃ i, exec (.readStatus req) ⟨q, z⟩ =
        .next ⟨q, { z with reply := some ⟨1, .ok, .status i⟩ }⟩ ∧
      i.refSpeed = z.ref.speed ∧ i.refStatus = z.ref.status ∧ i.degraded = z.degraded ∧
      (∀ x, (pick i.axles x).speed = (pick z.axles x).speed ∧ (pick i.axles x).trim = (pick z.axles x).trim ∧
        (pick i.creep x).state = (pick z.creep x).state ∧ (pick i.creep x).limit = (pick z.creep x).limit ∧
        (pick i.creep x).ceiling = ceilingOf z x ∧ (pick i.sanders x).box = (pick z.sanders x).box) ∧
      i.position.station = z.pos.station ∧ i.blend.effMode = z.blend.effMode ∧ i.makeUp.takes = z.makeUp.takes ∧
      i.hold.state = z.hold.state ∧ i.hold.life = z.life) ∧
    (sumOk 2 req = true → req.args = [] → exec (.readFaults req) ⟨q, z⟩ =
      .next ⟨q, { z with reply := some ⟨2, .ok, .faults z.faults.records z.faults.overflow⟩ }⟩) ∧
    (sumOk 6 req = true → req.args = [] → ∃ i, exec (.readMap req) ⟨q, z⟩ =
        .next ⟨q, { z with reply := some ⟨6, .ok, .map i⟩ }⟩ ∧
      i.entries.map (·.cell) = z.map.entries.map (·.cell) ∧ i.lastClear = z.map.lastClear ∧
      i.outbox.map (·.obs) = z.map.outbox.map (·.obs) ∧ i.outbox.map (·.inFrame) = z.map.outbox.map (·.inFrame) ∧
      i.outbox.map (·.age) = z.map.outbox.map (fun o => age z.time o.obs.time) ∧
      i.entries.map (·.peak) = z.map.entries.map (fun e => e.peak.map fun p => (p.mu, age z.time p.time))) ∧
    (∀ n, sumOk 3 req = true → req.args.length = 1 → n = bytesAt req.args 0 1 →
      (n ≤ 7 → exec (.clearFault req) ⟨q, z⟩ = .next ⟨q, { z with
        faults := { z.faults with records := z.faults.records.set n none }, reply := some ⟨3, .ok, .empty⟩ }⟩) ∧
      (7 < n → exec (.clearFault req) ⟨q, z⟩ = .next ⟨q, { z with reply := some ⟨3, .badValue, .empty⟩ }⟩)) ∧
    (sumOk 4 req = true → req.args = [] → exec (.clearAllFaults req) ⟨q, z⟩ = .next ⟨q, { z with
      faults := ⟨z.faults.records.map fun _ => none, z.faults.overflow⟩, reply := some ⟨4, .ok, .empty⟩ }⟩) ∧
    (sumOk 5 req = true → req.args = [] → exec (.clearOverflow req) ⟨q, z⟩ = .next ⟨q, { z with
      faults := { z.faults with overflow := false }, reply := some ⟨5, .ok, .empty⟩ }⟩)

/-- An occurrence reaching the fault table: it counts in a pending record of its kind and axle; else it takes the
lowest-numbered free record while the overflow flag is clear; else it is not kept, and a full table sets the flag. -/
def Obligations.FaultRecording : Prop :=
  ∀ (t u : FaultTable) (now : Millis) (cell : Option Nat) (k : FaultKind) (x : Option Axle) (d : Option FaultDetail),
    u = recordFault t now cell k x d →
    (∀ a r b, t.records = a ++ some r :: b → r.kind = k → r.axle = x →
      (∀ o, some o ∈ a → ¬(o.kind = k ∧ o.axle = x)) →
      u = ⟨a ++ some ⟨k, x, cell, r.first, now, min 255 (r.count + 1), d⟩ :: b, t.overflow⟩) ∧
    ((∀ o, some o ∈ t.records → ¬(o.kind = k ∧ o.axle = x)) →
      (t.overflow = true → u = t) ∧
      (∀ a b, t.overflow = false → t.records = a ++ none :: b → none ∉ a →
        u = ⟨a ++ some ⟨k, x, cell, now, now, 1, d⟩ :: b, false⟩) ∧
      (none ∉ t.records → u = ⟨t.records, true⟩))

/-- The law of the overflow flag: while it is set, no command but a start, SUPPLY_LOSS aside, and CLEAR OVERFLOW clears it or
makes a free record pending; and no command leaves other than eight records. -/
def Obligations.OverflowLaw : Prop :=
  ∀ (c : Instr) (q q' : List Instr) (z t : Station), FaultLaw z → exec c ⟨q, z⟩ = .next ⟨q', t⟩ →
    FaultLaw t ∧
    ((∀ plug comm run, c ≠ .powerOnStart plug comm run) → (∀ req, c ≠ .clearOverflow req) → z.faults.overflow = true →
      t.faults.overflow = true ∧ ∀ i : Nat, z.faults.records[i]? = some none → t.faults.records[i]? = some none)

/-- WRITE_COMMISSIONING: the first failing check answers; when none fails the write starts with the 262 fields sent. -/
def Obligations.WriteCommissioning : Prop :=
  ∀ (req : Request) (fields : List Int) (ok : Prop) (answer : ReplyCode → Station) (q : List Instr) (z : Station),
    running z = true → sumOk 9 req = true → req.args.length = 1048 → fields = decodeFields 262 req.args →
    (ok ↔ ∀ (i : Nat) (r : FigureRange) (v : Int), blockRanges[i]? = some r → fields[i]? = some v → inRange r v = true) →
    answer = (fun rc => { z with reply := some ⟨9, rc, .empty⟩ }) →
    fields.length = 262 ∧
    (∀ i : Nat, i < 262 → fields[i]? = some (asSigned 32 (bytesAt req.args (4 * i) 4))) ∧
    (z.plug.serviceStrap = false → exec (.writeCommissioning req) ⟨q, z⟩ = .next ⟨q, answer .refusedLocked⟩) ∧
    (z.plug.serviceStrap = true → z.hold.state ≠ .holding →
      exec (.writeCommissioning req) ⟨q, z⟩ = .next ⟨q, answer .refusedMotion⟩) ∧
    (z.plug.serviceStrap = true → z.hold.state = .holding → z.store.write ≠ none →
      exec (.writeCommissioning req) ⟨q, z⟩ = .next ⟨q, answer .busy⟩) ∧
    (z.plug.serviceStrap = true → z.hold.state = .holding → z.store.write = none → ¬ok →
      exec (.writeCommissioning req) ⟨q, z⟩ = .next ⟨q, answer .badValue⟩) ∧
    (z.plug.serviceStrap = true → z.hold.state = .holding → z.store.write = none → ok →
      exec (.writeCommissioning req) ⟨q, z⟩ = .next ⟨q, { answer .ok with
        store := { z.store with write := some (.commissioning fields z.time) } }⟩)

/-! ## Frames -/

/-- Decode and encode agree: every STATUS content, observation and clear that fits its bits comes back from them, and every
header field and signed figure does. A DEMAND, an inverter report and a brake unit report laid out as R158 and R171 give
them decode to the figures they carry; a chainage above 999,999 dm clears the chainage-valid flag (R159). -/
def Obligations.FrameRoundTrips : Prop :=
  (∀ (w : Nat) (v : Int), 0 < w → -(2 ^ (w - 1)) ≤ v → v < 2 ^ (w - 1) →
    ofSigned w v < 2 ^ w ∧ asSigned w (ofSigned w v) = v ∧ field (natToBits w (ofSigned w v)) 0 w = ofSigned w v) ∧
  (∀ (mode : DemandMode) (code chainage : Nat) (end2 down valid sand spare : Bool) (accel : Int),
    (mode, code) ∈ [(DemandMode.drive, 0), (.coast, 1), (.brake, 2), (.hold, 3), (.park, 4)] →
    -32768 ≤ accel → accel ≤ 32767 → chainage < 16777216 →
    decodeDemand (natToBits 3 code ++ [end2, down, valid, sand, spare] ++ natToBits 16 (ofSigned 16 accel) ++
        natToBits 24 chainage) =
      some ⟨mode, if end2 then .end2 else .end1, if down then .down else .up, valid && decide (chainage ≤ 999999), sand,
        accel, chainage⟩) ∧
  (∀ (health : Byte) (ea eb : Int) (ta tb ba bb : Nat), -8388608 ≤ ea → ea < 8388608 → -8388608 ≤ eb → eb < 8388608 →
    ta < 65536 → tb < 65536 → ba < 65536 → bb < 65536 →
    decodeInverter (withSum ([health] ++ natToBytes 3 (ofSigned 24 ea) ++ natToBytes 3 (ofSigned 24 eb) ++ natToBytes 2 ta ++
        natToBytes 2 tb ++ natToBytes 2 ba ++ natToBytes 2 bb)) =
      some ⟨decide (health = 0), ⟨ea, eb⟩, ⟨ta, tb⟩, ⟨ba, bb⟩⟩) ∧
  (∀ (health : Byte) (fa fb la lb : Nat), fa < 65536 → fb < 65536 → la < 65536 → lb < 65536 →
    decodeBrake (withSum ([health] ++ natToBytes 2 fa ++ natToBytes 2 fb ++ natToBytes 2 la ++ natToBytes 2 lb)) =
      some ⟨decide (health = 0), ⟨fa, fb⟩, ⟨la, lb⟩⟩) ∧
  (∀ c : StatusContent, StatusFits c → decodeStatus c.takes.length (encodeStatus c) = some c) ∧
  (∀ c : StatusContent, StatusFits c → (encodeStatus c).length = 8 * (28 + 4 * c.takes.length)) ∧
  (∀ (o : Observation) (n : Nat) (now : Millis), ObservationFits o →
    decodeObs n now (encodeObs o) = some { o with observer := .station n, time := now } ∧ (encodeObs o).length = 32) ∧
  (∀ (id : BitVec 8) (g : Granularity), GranularityFits g → decodeClear (encodeClear id g) = (id, g) ∧
    (encodeClear id g).length = 48) ∧
  (∀ (kind sender length : Nat) (sequence : BitVec 8) (h : List Bool), kind ≤ 3 → sender ≤ 15 → length ≤ 255 →
    h = headerBits kind sender sequence length → h.length = 22 ∧ field h 0 2 = kind ∧ field h 2 4 = sender ∧
      field h 6 8 = sequence.toNat ∧ field h 14 8 = length)

/-! ## Laws that every step keeps -/

/-- Every step keeps the rail condition map's law: ascending cells, at most the depth, entries with a part, an AT_LEAST never
above its PEAK. -/
def Obligations.MapLawKept : Prop :=
  ∀ s t : State, MapLaw s.station → step s = .next t → MapLaw t.station

/-- Every step keeps the law of the outbox and the RAIL REPORT. -/
def Obligations.OutboxLawKept : Prop :=
  ∀ s t : State, OutboxLaw s.station → step s = .next t → OutboxLaw t.station

/-- Every step keeps the laws of the modes and of the hold states, and of the track brake. The model's choices in those laws:
the hold state handed to the port is ROLLBACK exactly while ROLLBACK lasts, where R153 and R166 have it from the latest sample
(notes/assumptions/38.md); the PARKED entry clears the park timer (notes/assumptions/49.md); the lowering timer reads as stopped
outside LOWERING (notes/assumptions/47.md). -/
def Obligations.ModeLawsKept : Prop :=
  ∀ s t : State, step s = .next t →
    (ModeLaw s.station → ModeLaw t.station) ∧
    (ModeLaw s.station → HoldLaw s.station → HoldLaw t.station) ∧
    (ModeLaw s.station → TrackBrakeLaw s.station → TrackBrakeLaw t.station)

/-- Every step keeps the law of the takes: within the spare, and applied only on a matching peer at its latest generation. -/
def Obligations.TakesLawKept : Prop :=
  ∀ s t : State, TakesLaw s.station → step s = .next t → TakesLaw t.station

/-- Every step keeps the law of the sander valves, and with it that a FILLING sander's valve stands open and that a dosing
period runs in FLOWING alone. -/
def Obligations.ValvesLawKept : Prop :=
  ∀ s t : State, ValvesLaw s.station → step s = .next t →
    ValvesLaw t.station ∧ (FillingLaw s.station → FillingLaw t.station)

/-- The station after reset meets every law; that station, with the values it has where the spec gives none, is the model's
choice (notes/assumptions/3.md). -/
def Obligations.ResetLaws : Prop :=
  MapLaw State.reset.station ∧ OutboxLaw State.reset.station ∧ ModeLaw State.reset.station ∧ HoldLaw State.reset.station ∧
  TrackBrakeLaw State.reset.station ∧ TakesLaw State.reset.station ∧ ValvesLaw State.reset.station ∧
  FillingLaw State.reset.station ∧ FaultLaw State.reset.station ∧ State.reset.pending = []

end
end

