-- ==== Sys2Proof/Laws/State.lean ====
section
/-! SUPPORT. One lemma for each field of the station and each named update: what the update writes, and that every other
field stays as it was. -/

namespace Sys2Proof.Machine

/-! ## Pairs -/

@[simp] theorem pick_put {α : Type} (p : PerAxle α) (x : Axle) (v : α) : pick (put p x v) x = v := by cases x <;> rfl

@[simp] theorem pick_put_other {α : Type} (p : PerAxle α) (x : Axle) (v : α) :
    pick (put p x v) (otherAxle x) = pick p (otherAxle x) := by cases x <;> rfl

@[simp] theorem put_put {α : Type} (p : PerAxle α) (x : Axle) (v w : α) : put (put p x v) x w = put p x w := by
  cases x <;> rfl

@[simp] theorem put_pick {α : Type} (p : PerAxle α) (x : Axle) : put p x (pick p x) = p := by cases x <;> rfl

@[simp] theorem otherAxle_otherAxle (x : Axle) : otherAxle (otherAxle x) = x := by cases x <;> rfl

@[simp] theorem axleOf_otherEnd (e : CabEnd) : axleOf (otherEnd e) = otherAxle (axleOf e) := by cases e <;> rfl

/-! ## setAxle -/

@[simp] theorem setAxle_time (s : Station) (x : Axle) (a : AxleUnit) : (setAxle s x a).time = s.time := rfl
@[simp] theorem setAxle_timeUs (s : Station) (x : Axle) (a : AxleUnit) : (setAxle s x a).timeUs = s.timeUs := rfl
@[simp] theorem setAxle_subMs (s : Station) (x : Axle) (a : AxleUnit) : (setAxle s x a).subMs = s.subMs := rfl
@[simp] theorem setAxle_life (s : Station) (x : Axle) (a : AxleUnit) : (setAxle s x a).life = s.life := rfl
@[simp] theorem setAxle_degraded (s : Station) (x : Axle) (a : AxleUnit) : (setAxle s x a).degraded = s.degraded := rfl
@[simp] theorem setAxle_plug (s : Station) (x : Axle) (a : AxleUnit) : (setAxle s x a).plug = s.plug := rfl
@[simp] theorem setAxle_figs (s : Station) (x : Axle) (a : AxleUnit) : (setAxle s x a).figs = s.figs := rfl
@[simp] theorem setAxle_axles (s : Station) (x : Axle) (a : AxleUnit) : (setAxle s x a).axles = put s.axles x a := rfl
@[simp] theorem setAxle_ref (s : Station) (x : Axle) (a : AxleUnit) : (setAxle s x a).ref = s.ref := rfl
@[simp] theorem setAxle_lastSample (s : Station) (x : Axle) (a : AxleUnit) : (setAxle s x a).lastSample = s.lastSample := rfl
@[simp] theorem setAxle_creep (s : Station) (x : Axle) (a : AxleUnit) : (setAxle s x a).creep = s.creep := rfl
@[simp] theorem setAxle_creepDir (s : Station) (x : Axle) (a : AxleUnit) : (setAxle s x a).creepDir = s.creepDir := rfl
@[simp] theorem setAxle_cellRec (s : Station) (x : Axle) (a : AxleUnit) : (setAxle s x a).cellRec = s.cellRec := rfl
@[simp] theorem setAxle_pos (s : Station) (x : Axle) (a : AxleUnit) : (setAxle s x a).pos = s.pos := rfl
@[simp] theorem setAxle_map (s : Station) (x : Axle) (a : AxleUnit) : (setAxle s x a).map = s.map := rfl
@[simp] theorem setAxle_sanders (s : Station) (x : Axle) (a : AxleUnit) : (setAxle s x a).sanders = s.sanders := rfl
@[simp] theorem setAxle_sanding (s : Station) (x : Axle) (a : AxleUnit) : (setAxle s x a).sanding = s.sanding := rfl
@[simp] theorem setAxle_blend (s : Station) (x : Axle) (a : AxleUnit) : (setAxle s x a).blend = s.blend := rfl
@[simp] theorem setAxle_makeUp (s : Station) (x : Axle) (a : AxleUnit) : (setAxle s x a).makeUp = s.makeUp := rfl
@[simp] theorem setAxle_hold (s : Station) (x : Axle) (a : AxleUnit) : (setAxle s x a).hold = s.hold := rfl
@[simp] theorem setAxle_port (s : Station) (x : Axle) (a : AxleUnit) : (setAxle s x a).port = s.port := rfl
@[simp] theorem setAxle_link (s : Station) (x : Axle) (a : AxleUnit) : (setAxle s x a).link = s.link := rfl
@[simp] theorem setAxle_faults (s : Station) (x : Axle) (a : AxleUnit) : (setAxle s x a).faults = s.faults := rfl
@[simp] theorem setAxle_store (s : Station) (x : Axle) (a : AxleUnit) : (setAxle s x a).store = s.store := rfl
@[simp] theorem setAxle_reply (s : Station) (x : Axle) (a : AxleUnit) : (setAxle s x a).reply = s.reply := rfl

/-! ## setCreep -/

@[simp] theorem setCreep_time (s : Station) (x : Axle) (c : AxleCreep) : (setCreep s x c).time = s.time := rfl
@[simp] theorem setCreep_timeUs (s : Station) (x : Axle) (c : AxleCreep) : (setCreep s x c).timeUs = s.timeUs := rfl
@[simp] theorem setCreep_subMs (s : Station) (x : Axle) (c : AxleCreep) : (setCreep s x c).subMs = s.subMs := rfl
@[simp] theorem setCreep_life (s : Station) (x : Axle) (c : AxleCreep) : (setCreep s x c).life = s.life := rfl
@[simp] theorem setCreep_degraded (s : Station) (x : Axle) (c : AxleCreep) : (setCreep s x c).degraded = s.degraded := rfl
@[simp] theorem setCreep_plug (s : Station) (x : Axle) (c : AxleCreep) : (setCreep s x c).plug = s.plug := rfl
@[simp] theorem setCreep_figs (s : Station) (x : Axle) (c : AxleCreep) : (setCreep s x c).figs = s.figs := rfl
@[simp] theorem setCreep_axles (s : Station) (x : Axle) (c : AxleCreep) : (setCreep s x c).axles = s.axles := rfl
@[simp] theorem setCreep_ref (s : Station) (x : Axle) (c : AxleCreep) : (setCreep s x c).ref = s.ref := rfl
@[simp] theorem setCreep_lastSample (s : Station) (x : Axle) (c : AxleCreep) : (setCreep s x c).lastSample = s.lastSample := rfl
@[simp] theorem setCreep_creep (s : Station) (x : Axle) (c : AxleCreep) : (setCreep s x c).creep = put s.creep x c := rfl
@[simp] theorem setCreep_creepDir (s : Station) (x : Axle) (c : AxleCreep) : (setCreep s x c).creepDir = s.creepDir := rfl
@[simp] theorem setCreep_cellRec (s : Station) (x : Axle) (c : AxleCreep) : (setCreep s x c).cellRec = s.cellRec := rfl
@[simp] theorem setCreep_pos (s : Station) (x : Axle) (c : AxleCreep) : (setCreep s x c).pos = s.pos := rfl
@[simp] theorem setCreep_map (s : Station) (x : Axle) (c : AxleCreep) : (setCreep s x c).map = s.map := rfl
@[simp] theorem setCreep_sanders (s : Station) (x : Axle) (c : AxleCreep) : (setCreep s x c).sanders = s.sanders := rfl
@[simp] theorem setCreep_sanding (s : Station) (x : Axle) (c : AxleCreep) : (setCreep s x c).sanding = s.sanding := rfl
@[simp] theorem setCreep_blend (s : Station) (x : Axle) (c : AxleCreep) : (setCreep s x c).blend = s.blend := rfl
@[simp] theorem setCreep_makeUp (s : Station) (x : Axle) (c : AxleCreep) : (setCreep s x c).makeUp = s.makeUp := rfl
@[simp] theorem setCreep_hold (s : Station) (x : Axle) (c : AxleCreep) : (setCreep s x c).hold = s.hold := rfl
@[simp] theorem setCreep_port (s : Station) (x : Axle) (c : AxleCreep) : (setCreep s x c).port = s.port := rfl
@[simp] theorem setCreep_link (s : Station) (x : Axle) (c : AxleCreep) : (setCreep s x c).link = s.link := rfl
@[simp] theorem setCreep_faults (s : Station) (x : Axle) (c : AxleCreep) : (setCreep s x c).faults = s.faults := rfl
@[simp] theorem setCreep_store (s : Station) (x : Axle) (c : AxleCreep) : (setCreep s x c).store = s.store := rfl
@[simp] theorem setCreep_reply (s : Station) (x : Axle) (c : AxleCreep) : (setCreep s x c).reply = s.reply := rfl

/-! ## setSander -/

@[simp] theorem setSander_time (s : Station) (x : Axle) (d : Sander) : (setSander s x d).time = s.time := rfl
@[simp] theorem setSander_timeUs (s : Station) (x : Axle) (d : Sander) : (setSander s x d).timeUs = s.timeUs := rfl
@[simp] theorem setSander_subMs (s : Station) (x : Axle) (d : Sander) : (setSander s x d).subMs = s.subMs := rfl
@[simp] theorem setSander_life (s : Station) (x : Axle) (d : Sander) : (setSander s x d).life = s.life := rfl
@[simp] theorem setSander_degraded (s : Station) (x : Axle) (d : Sander) : (setSander s x d).degraded = s.degraded := rfl
@[simp] theorem setSander_plug (s : Station) (x : Axle) (d : Sander) : (setSander s x d).plug = s.plug := rfl
@[simp] theorem setSander_figs (s : Station) (x : Axle) (d : Sander) : (setSander s x d).figs = s.figs := rfl
@[simp] theorem setSander_axles (s : Station) (x : Axle) (d : Sander) : (setSander s x d).axles = s.axles := rfl
@[simp] theorem setSander_ref (s : Station) (x : Axle) (d : Sander) : (setSander s x d).ref = s.ref := rfl
@[simp] theorem setSander_lastSample (s : Station) (x : Axle) (d : Sander) : (setSander s x d).lastSample = s.lastSample := rfl
@[simp] theorem setSander_creep (s : Station) (x : Axle) (d : Sander) : (setSander s x d).creep = s.creep := rfl
@[simp] theorem setSander_creepDir (s : Station) (x : Axle) (d : Sander) : (setSander s x d).creepDir = s.creepDir := rfl
@[simp] theorem setSander_cellRec (s : Station) (x : Axle) (d : Sander) : (setSander s x d).cellRec = s.cellRec := rfl
@[simp] theorem setSander_pos (s : Station) (x : Axle) (d : Sander) : (setSander s x d).pos = s.pos := rfl
@[simp] theorem setSander_map (s : Station) (x : Axle) (d : Sander) : (setSander s x d).map = s.map := rfl
@[simp] theorem setSander_sanders (s : Station) (x : Axle) (d : Sander) : (setSander s x d).sanders = put s.sanders x d := rfl
@[simp] theorem setSander_sanding (s : Station) (x : Axle) (d : Sander) : (setSander s x d).sanding = s.sanding := rfl
@[simp] theorem setSander_blend (s : Station) (x : Axle) (d : Sander) : (setSander s x d).blend = s.blend := rfl
@[simp] theorem setSander_makeUp (s : Station) (x : Axle) (d : Sander) : (setSander s x d).makeUp = s.makeUp := rfl
@[simp] theorem setSander_hold (s : Station) (x : Axle) (d : Sander) : (setSander s x d).hold = s.hold := rfl
@[simp] theorem setSander_port (s : Station) (x : Axle) (d : Sander) : (setSander s x d).port = s.port := rfl
@[simp] theorem setSander_link (s : Station) (x : Axle) (d : Sander) : (setSander s x d).link = s.link := rfl
@[simp] theorem setSander_faults (s : Station) (x : Axle) (d : Sander) : (setSander s x d).faults = s.faults := rfl
@[simp] theorem setSander_store (s : Station) (x : Axle) (d : Sander) : (setSander s x d).store = s.store := rfl
@[simp] theorem setSander_reply (s : Station) (x : Axle) (d : Sander) : (setSander s x d).reply = s.reply := rfl

/-! ## setPeer: fields inside the port too -/

@[simp] theorem setPeer_time (n : Nat) (p : Peer) (s : Station) : (setPeer n p s).time = s.time := rfl
@[simp] theorem setPeer_timeUs (n : Nat) (p : Peer) (s : Station) : (setPeer n p s).timeUs = s.timeUs := rfl
@[simp] theorem setPeer_subMs (n : Nat) (p : Peer) (s : Station) : (setPeer n p s).subMs = s.subMs := rfl
@[simp] theorem setPeer_life (n : Nat) (p : Peer) (s : Station) : (setPeer n p s).life = s.life := rfl
@[simp] theorem setPeer_degraded (n : Nat) (p : Peer) (s : Station) : (setPeer n p s).degraded = s.degraded := rfl
@[simp] theorem setPeer_plug (n : Nat) (p : Peer) (s : Station) : (setPeer n p s).plug = s.plug := rfl
@[simp] theorem setPeer_figs (n : Nat) (p : Peer) (s : Station) : (setPeer n p s).figs = s.figs := rfl
@[simp] theorem setPeer_axles (n : Nat) (p : Peer) (s : Station) : (setPeer n p s).axles = s.axles := rfl
@[simp] theorem setPeer_ref (n : Nat) (p : Peer) (s : Station) : (setPeer n p s).ref = s.ref := rfl
@[simp] theorem setPeer_lastSample (n : Nat) (p : Peer) (s : Station) : (setPeer n p s).lastSample = s.lastSample := rfl
@[simp] theorem setPeer_creep (n : Nat) (p : Peer) (s : Station) : (setPeer n p s).creep = s.creep := rfl
@[simp] theorem setPeer_creepDir (n : Nat) (p : Peer) (s : Station) : (setPeer n p s).creepDir = s.creepDir := rfl
@[simp] theorem setPeer_cellRec (n : Nat) (p : Peer) (s : Station) : (setPeer n p s).cellRec = s.cellRec := rfl
@[simp] theorem setPeer_pos (n : Nat) (p : Peer) (s : Station) : (setPeer n p s).pos = s.pos := rfl
@[simp] theorem setPeer_map (n : Nat) (p : Peer) (s : Station) : (setPeer n p s).map = s.map := rfl
@[simp] theorem setPeer_sanders (n : Nat) (p : Peer) (s : Station) : (setPeer n p s).sanders = s.sanders := rfl
@[simp] theorem setPeer_sanding (n : Nat) (p : Peer) (s : Station) : (setPeer n p s).sanding = s.sanding := rfl
@[simp] theorem setPeer_blend (n : Nat) (p : Peer) (s : Station) : (setPeer n p s).blend = s.blend := rfl
@[simp] theorem setPeer_makeUp (n : Nat) (p : Peer) (s : Station) : (setPeer n p s).makeUp = s.makeUp := rfl
@[simp] theorem setPeer_hold (n : Nat) (p : Peer) (s : Station) : (setPeer n p s).hold = s.hold := rfl
@[simp] theorem setPeer_port (n : Nat) (p : Peer) (s : Station) : (setPeer n p s).port = { s.port with peers := s.port.peers.set n p } := rfl
@[simp] theorem setPeer_link (n : Nat) (p : Peer) (s : Station) : (setPeer n p s).link = s.link := rfl
@[simp] theorem setPeer_faults (n : Nat) (p : Peer) (s : Station) : (setPeer n p s).faults = s.faults := rfl
@[simp] theorem setPeer_store (n : Nat) (p : Peer) (s : Station) : (setPeer n p s).store = s.store := rfl
@[simp] theorem setPeer_reply (n : Nat) (p : Peer) (s : Station) : (setPeer n p s).reply = s.reply := rfl

/-! ## report -/

@[simp] theorem report_time (k : FaultKind) (x : Option Axle) (d : Option FaultDetail) (s : Station) : (report k x d s).time = s.time := rfl
@[simp] theorem report_timeUs (k : FaultKind) (x : Option Axle) (d : Option FaultDetail) (s : Station) : (report k x d s).timeUs = s.timeUs := rfl
@[simp] theorem report_subMs (k : FaultKind) (x : Option Axle) (d : Option FaultDetail) (s : Station) : (report k x d s).subMs = s.subMs := rfl
@[simp] theorem report_life (k : FaultKind) (x : Option Axle) (d : Option FaultDetail) (s : Station) : (report k x d s).life = s.life := rfl
@[simp] theorem report_degraded (k : FaultKind) (x : Option Axle) (d : Option FaultDetail) (s : Station) : (report k x d s).degraded = s.degraded := rfl
@[simp] theorem report_plug (k : FaultKind) (x : Option Axle) (d : Option FaultDetail) (s : Station) : (report k x d s).plug = s.plug := rfl
@[simp] theorem report_figs (k : FaultKind) (x : Option Axle) (d : Option FaultDetail) (s : Station) : (report k x d s).figs = s.figs := rfl
@[simp] theorem report_axles (k : FaultKind) (x : Option Axle) (d : Option FaultDetail) (s : Station) : (report k x d s).axles = s.axles := rfl
@[simp] theorem report_ref (k : FaultKind) (x : Option Axle) (d : Option FaultDetail) (s : Station) : (report k x d s).ref = s.ref := rfl
@[simp] theorem report_lastSample (k : FaultKind) (x : Option Axle) (d : Option FaultDetail) (s : Station) : (report k x d s).lastSample = s.lastSample := rfl
@[simp] theorem report_creep (k : FaultKind) (x : Option Axle) (d : Option FaultDetail) (s : Station) : (report k x d s).creep = s.creep := rfl
@[simp] theorem report_creepDir (k : FaultKind) (x : Option Axle) (d : Option FaultDetail) (s : Station) : (report k x d s).creepDir = s.creepDir := rfl
@[simp] theorem report_cellRec (k : FaultKind) (x : Option Axle) (d : Option FaultDetail) (s : Station) : (report k x d s).cellRec = s.cellRec := rfl
@[simp] theorem report_pos (k : FaultKind) (x : Option Axle) (d : Option FaultDetail) (s : Station) : (report k x d s).pos = s.pos := rfl
@[simp] theorem report_map (k : FaultKind) (x : Option Axle) (d : Option FaultDetail) (s : Station) : (report k x d s).map = s.map := rfl
@[simp] theorem report_sanders (k : FaultKind) (x : Option Axle) (d : Option FaultDetail) (s : Station) : (report k x d s).sanders = s.sanders := rfl
@[simp] theorem report_sanding (k : FaultKind) (x : Option Axle) (d : Option FaultDetail) (s : Station) : (report k x d s).sanding = s.sanding := rfl
@[simp] theorem report_blend (k : FaultKind) (x : Option Axle) (d : Option FaultDetail) (s : Station) : (report k x d s).blend = s.blend := rfl
@[simp] theorem report_makeUp (k : FaultKind) (x : Option Axle) (d : Option FaultDetail) (s : Station) : (report k x d s).makeUp = s.makeUp := rfl
@[simp] theorem report_hold (k : FaultKind) (x : Option Axle) (d : Option FaultDetail) (s : Station) : (report k x d s).hold = s.hold := rfl
@[simp] theorem report_port (k : FaultKind) (x : Option Axle) (d : Option FaultDetail) (s : Station) : (report k x d s).port = s.port := rfl
@[simp] theorem report_link (k : FaultKind) (x : Option Axle) (d : Option FaultDetail) (s : Station) : (report k x d s).link = s.link := rfl
@[simp] theorem report_faults (k : FaultKind) (x : Option Axle) (d : Option FaultDetail) (s : Station) : (report k x d s).faults = recordFault s.faults s.time s.pos.attrLeading.mapCell k x d := rfl
@[simp] theorem report_store (k : FaultKind) (x : Option Axle) (d : Option FaultDetail) (s : Station) : (report k x d s).store = s.store := rfl
@[simp] theorem report_reply (k : FaultKind) (x : Option Axle) (d : Option FaultDetail) (s : Station) : (report k x d s).reply = s.reply := rfl

/-! ## showSanders -/

@[simp] theorem showSanders_time (s : Station) : (showSanders s).time = s.time := rfl
@[simp] theorem showSanders_timeUs (s : Station) : (showSanders s).timeUs = s.timeUs := rfl
@[simp] theorem showSanders_subMs (s : Station) : (showSanders s).subMs = s.subMs := rfl
@[simp] theorem showSanders_life (s : Station) : (showSanders s).life = s.life := rfl
@[simp] theorem showSanders_degraded (s : Station) : (showSanders s).degraded = s.degraded := rfl
@[simp] theorem showSanders_plug (s : Station) : (showSanders s).plug = s.plug := rfl
@[simp] theorem showSanders_figs (s : Station) : (showSanders s).figs = s.figs := rfl
@[simp] theorem showSanders_axles (s : Station) : (showSanders s).axles = s.axles := rfl
@[simp] theorem showSanders_ref (s : Station) : (showSanders s).ref = s.ref := rfl
@[simp] theorem showSanders_lastSample (s : Station) : (showSanders s).lastSample = s.lastSample := rfl
@[simp] theorem showSanders_creep (s : Station) : (showSanders s).creep = s.creep := rfl
@[simp] theorem showSanders_creepDir (s : Station) : (showSanders s).creepDir = s.creepDir := rfl
@[simp] theorem showSanders_cellRec (s : Station) : (showSanders s).cellRec = s.cellRec := rfl
@[simp] theorem showSanders_pos (s : Station) : (showSanders s).pos = s.pos := rfl
@[simp] theorem showSanders_map (s : Station) : (showSanders s).map = s.map := rfl
@[simp] theorem showSanders_sanders (s : Station) : (showSanders s).sanders = s.sanders := rfl
@[simp] theorem showSanders_blend (s : Station) : (showSanders s).blend = s.blend := rfl
@[simp] theorem showSanders_makeUp (s : Station) : (showSanders s).makeUp = s.makeUp := rfl
@[simp] theorem showSanders_hold (s : Station) : (showSanders s).hold = s.hold := rfl
@[simp] theorem showSanders_port (s : Station) : (showSanders s).port = s.port := rfl
@[simp] theorem showSanders_link (s : Station) : (showSanders s).link = s.link := rfl
@[simp] theorem showSanders_faults (s : Station) : (showSanders s).faults = s.faults := rfl
@[simp] theorem showSanders_store (s : Station) : (showSanders s).store = s.store := rfl
@[simp] theorem showSanders_reply (s : Station) : (showSanders s).reply = s.reply := rfl
@[simp] theorem showSanders_states (s : Station) : (showSanders s).sanding.shownStates = ⟨s.sanders.a.state, s.sanders.b.state⟩ := rfl
@[simp] theorem showSanders_boxes (s : Station) : (showSanders s).sanding.shownBoxes = ⟨s.sanders.a.box, s.sanders.b.box⟩ := rfl
@[simp] theorem showSanders_aim (s : Station) : (showSanders s).sanding.aim = s.sanding.aim := rfl
@[simp] theorem showSanders_asks (s : Station) : (showSanders s).sanding.asks = s.sanding.asks := rfl
@[simp] theorem showSanders_admitted (s : Station) : (showSanders s).sanding.admitted = s.sanding.admitted := rfl
@[simp] theorem showSanders_demandOn (s : Station) : (showSanders s).sanding.demandOn = s.sanding.demandOn := rfl
@[simp] theorem showSanders_high (s : Station) : (showSanders s).sanding.high = s.sanding.high := rfl
@[simp] theorem showSanders_slipHold (s : Station) : (showSanders s).sanding.slipHold = s.sanding.slipHold := rfl
@[simp] theorem showSanders_reslipHold (s : Station) : (showSanders s).sanding.reslipHold = s.sanding.reslipHold := rfl
@[simp] theorem showSanders_hillExpiry (s : Station) : (showSanders s).sanding.hillExpiry = s.sanding.hillExpiry := rfl
@[simp] theorem showSanders_lastDecision (s : Station) : (showSanders s).sanding.lastDecision = s.sanding.lastDecision := rfl

/-! ## Reading back what a named update wrote -/

@[simp] theorem sanderAt_setSander (s : Station) (x : Axle) (d : Sander) : sanderAt (setSander s x d) x = d := by
  cases x <;> rfl

@[simp] theorem sanderAt_setSander_other (s : Station) (x : Axle) (d : Sander) :
    sanderAt (setSander s x d) (otherAxle x) = sanderAt s (otherAxle x) := by cases x <;> rfl

/-! ## A command of a station that runs -/

theorem whenRunning_running (f : Station → Station) (s : Station) (h : running s = true) : whenRunning f s = f s := by
  simp [whenRunning, h]

theorem whenRunning_stopped (f : Station → Station) (s : Station) (h : running s = false) : whenRunning f s = s := by
  simp [whenRunning, h]

/-- A command that acts on a running station: its outcome. -/
theorem actRunning_running (f : Station → Station) (s : State) (h : running s.station = true) :
    actRunning f s = .next { s with station := f s.station } := by simp [actRunning, act, whenRunning, h]

/-- A command that acts only on a running station leaves any other as it was. -/
theorem actRunning_stopped (f : Station → Station) (s : State) (h : running s.station = false) :
    actRunning f s = .next s := by simp [actRunning, act, whenRunning, h]

/-- Every meaning is an operation of the station: the queue is not touched. -/
theorem act_next (f : Station → Station) (s : State) : act f s = .next { s with station := f s.station } := rfl

end Sys2Proof.Machine
end

