-- ==== Sys2Proof/Laws/Frames.lean ====
section
/-! SUPPORT. One lemma for each shared operation that says which parts of the station it can change: after it the station is
the one before with those parts replaced. -/

namespace Sys2Proof.Machine

/-! ## Map, outbox and slots -/

theorem buildRail_frame (s : Station) : ∃ p m, buildRail s = { s with port := p, map := { s.map with outbox := m } } := by
  unfold buildRail; split <;> exact ⟨_, _, rfl⟩

theorem withdrawRail_frame (s : Station) :
    ∃ p m, withdrawRail s = { s with port := p, map := { s.map with outbox := m } } := by
  unfold withdrawRail
  obtain ⟨p, m, h⟩ := buildRail_frame { s with
    port := { s.port with railSlot := none }
    map := { s.map with outbox := s.map.outbox.map fun i => { i with inFrame := false } } }
  exact ⟨p, m, h⟩

theorem spoilRail_frame (s : Station) : ∃ p, spoilRail s = { s with port := p } := by
  unfold spoilRail; split <;> exact ⟨_, rfl⟩

theorem dropFromOutbox_frame (k : Observation → Bool) (s : Station) :
    ∃ p m, dropFromOutbox k s = { s with port := p, map := { s.map with outbox := m } } := by
  unfold dropFromOutbox
  simp only
  split
  · split
    · obtain ⟨p, m, h⟩ := withdrawRail_frame { s with map := { s.map with outbox := s.map.outbox.filter fun i => k i.obs } }
      exact ⟨p, m, h⟩
    · obtain ⟨p, h⟩ := spoilRail_frame { s with map := { s.map with outbox := s.map.outbox.filter fun i => k i.obs } }
      exact ⟨p, _, h⟩
  · exact ⟨_, _, rfl⟩

theorem expireOutbox_frame (s : Station) :
    ∃ p m, expireOutbox s = { s with port := p, map := { s.map with outbox := m } } := dropFromOutbox_frame _ s

/-- R65: what an own observation can change: it merges into the entries, and the outbox and the slot may move. -/
theorem observe_frame (k : ObsKind) (c : Option Nat) (mu : Nat) (s : Station) :
    ∃ p m, observe k c mu s = { s with port := p, map := m } := by
  cases c with
  | none => exact ⟨_, _, rfl⟩
  | some c =>
    obtain ⟨p, m, h⟩ := buildRail_frame { s with
      map := { s.map with
        entries := mergeObs s.figs.mapDepth s.pos.sense ⟨k, c, 1, mu, s.pos.sense, .own, s.time⟩ s.map.entries
        outbox := offerOutbox ⟨k, c, 1, mu, s.pos.sense, .own, s.time⟩ s.map.outbox } }
    exact ⟨p, _, h⟩

/-- R65: the entries after an own observation. -/
theorem observe_entries (k : ObsKind) (c : Nat) (mu : Nat) (s : Station) :
    (observe k (some c) mu s).map.entries =
      mergeObs s.figs.mapDepth s.pos.sense ⟨k, c, 1, mu, s.pos.sense, .own, s.time⟩ s.map.entries := by
  obtain ⟨p, m, h⟩ := buildRail_frame { s with
      map := { s.map with
        entries := mergeObs s.figs.mapDepth s.pos.sense ⟨k, c, 1, mu, s.pos.sense, .own, s.time⟩ s.map.entries
        outbox := offerOutbox ⟨k, c, 1, mu, s.pos.sense, .own, s.time⟩ s.map.outbox } }
  exact (congrArg (fun t => t.map.entries) h : _)

theorem mergePeerObs_frame (s : Station) (o : Observation) : ∃ m, mergePeerObs s o = { s with map := m } := by
  unfold mergePeerObs; split <;> exact ⟨_, rfl⟩

theorem cancelAimIn_frame (g : Granularity) (s : Station) : ∃ d, cancelAimIn g s = { s with sanding := d } := by
  unfold cancelAimIn
  split
  · split <;> exact ⟨_, rfl⟩
  · exact ⟨_, rfl⟩

/-- R75: what a clear can change. -/
theorem takeClear_frame (id : BitVec 8) (g : Granularity) (s : Station) :
    ∃ p m d, takeClear id g s = { s with port := p, map := m, sanding := d } := by
  unfold takeClear
  simp only
  obtain ⟨p, m, h⟩ := dropFromOutbox_frame (keptByClear s.figs (actualGranularity s.figs g))
    { s with map := { s.map with
      entries := s.map.entries.filter (fun e => !clearsCell s.figs (actualGranularity s.figs g) e.cell) } }
  obtain ⟨d, h2⟩ := cancelAimIn_frame (actualGranularity s.figs g)
    (dropFromOutbox (keptByClear s.figs (actualGranularity s.figs g))
    { s with map := { s.map with
      entries := s.map.entries.filter (fun e => !clearsCell s.figs (actualGranularity s.figs g) e.cell) } })
  rw [h2, h]
  exact ⟨_, _, _, rfl⟩

/-- R77: the entries after a clear. -/
theorem takeClear_entries (id : BitVec 8) (g : Granularity) (s : Station) :
    (takeClear id g s).map.entries =
      s.map.entries.filter fun e => !clearsCell s.figs (actualGranularity s.figs g) e.cell := by
  unfold takeClear
  simp only
  obtain ⟨p, m, h⟩ := dropFromOutbox_frame (keptByClear s.figs (actualGranularity s.figs g))
    { s with map := { s.map with
      entries := s.map.entries.filter (fun e => !clearsCell s.figs (actualGranularity s.figs g) e.cell) } }
  obtain ⟨d, h2⟩ := cancelAimIn_frame (actualGranularity s.figs g)
    (dropFromOutbox (keptByClear s.figs (actualGranularity s.figs g))
    { s with map := { s.map with
      entries := s.map.entries.filter (fun e => !clearsCell s.figs (actualGranularity s.figs g) e.cell) } })
  rw [h2, h]

/-! ## One sander -/

theorem tailNow_frame (x : Axle) (s : Station) : ∃ d, tailNow x s = { s with sanders := d } := by
  unfold tailNow; simp only; split <;> exact ⟨_, rfl⟩

theorem inhibitTailing_frame (s : Station) : ∃ d, inhibitTailing s = { s with sanders := d } := by
  unfold inhibitTailing
  simp only
  split
  · exact tailNow_frame _ s
  · exact ⟨_, rfl⟩

theorem beginPeriod_frame (t : Millis) (x : Axle) (s : Station) : ∃ d, beginPeriod t x s = { s with sanders := d } :=
  ⟨_, rfl⟩

theorem recordCell_frame (x : Axle) (s : Station) :
    ∃ d p m, recordCell x s = { s with sanders := d, port := p, map := m } := by
  unfold recordCell
  simp only
  obtain ⟨p, m, h⟩ := observe_frame .sanded (pick s.pos.attrSander x).mapCell 0
    (setSander s x { sanderAt s x with lastCell := some (routeCell (pick s.pos.attrSander x).position) })
  rw [h]
  exact ⟨_, _, _, rfl⟩

theorem recordNewCell_frame (x : Axle) (s : Station) :
    ∃ d p m, recordNewCell x s = { s with sanders := d, port := p, map := m } := by
  unfold recordNewCell
  simp only
  split
  · exact recordCell_frame x s
  · exact ⟨_, _, _, rfl⟩

theorem enterFlowing_frame (x : Axle) (s : Station) :
    ∃ d p m, enterFlowing x s = { s with sanders := d, port := p, map := m } := by
  unfold enterFlowing
  simp only
  obtain ⟨d, p, m, h⟩ := recordCell_frame x
    (setSander s x { sanderAt s x with state := .flowing, pipe := (sanderAt s x).flowDelay })
  obtain ⟨d2, h2⟩ := beginPeriod_frame s.time x (recordCell x
    (setSander s x { sanderAt s x with state := .flowing, pipe := (sanderAt s x).flowDelay }))
  rw [h2, h]
  exact ⟨_, _, _, rfl⟩

theorem noteEmpty_frame (x : Axle) (s : Station) : ∃ d f, noteEmpty x s = { s with sanders := d, faults := f } := by
  unfold noteEmpty; simp only; split <;> exact ⟨_, _, rfl⟩

/-! ## Position unit -/

/-- R61: a resolution at once moves the attribute sets, and may send the leading sander to TAILING (R97). -/
theorem resolveNow_frame (s : Station) : ∃ d, resolveNow s = { s with pos := resolved s, sanders := d } := by
  obtain ⟨d, h⟩ := inhibitTailing_frame { s with pos := resolved s }
  exact ⟨d, h⟩

theorem announceChange_frame (e : CabEnd) (s : Station) :
    ∃ c r a d, announceChange e s = { s with creep := c, cellRec := r, sanding := a, sanders := d } := by
  unfold announceChange
  simp only
  split
  · exact ⟨_, _, _, _, rfl⟩
  · obtain ⟨d, h⟩ := tailNow_frame (axleOf e) (cancelAim (spoilCell (emptyHistories s)))
    rw [h]
    exact ⟨_, _, _, _, rfl⟩

/-- R53, R54: what taking a leading end and sense can change. -/
theorem takeChange_frame (c : EndChange) (s : Station) :
    ∃ p k r a d, takeChange c s = { s with pos := p, creep := k, cellRec := r, sanding := a, sanders := d } := by
  unfold takeChange
  simp only
  obtain ⟨k, r, a, d, h⟩ := announceChange_frame s.pos.leadingEnd { s with
    pos := { s.pos with leadingEnd := c.leadingEnd, sense := c.sense, endTaken := true, change := none } }
  rw [h]
  obtain ⟨d2, h2⟩ := resolveNow_frame { s with
    pos := { s.pos with leadingEnd := c.leadingEnd, sense := c.sense, endTaken := true, change := none }
    creep := k, cellRec := r, sanding := a, sanders := d }
  exact ⟨_, _, _, _, _, h2⟩

theorem takePending_frame (s : Station) :
    ∃ p k r a d, takePending s = { s with pos := p, creep := k, cellRec := r, sanding := a, sanders := d } := by
  unfold takePending
  split
  · exact takeChange_frame _ s
  · exact ⟨_, _, _, _, _, rfl⟩

theorem settleEnd_frame (d : DemandContent) (s : Station) :
    ∃ p k r a e, settleEnd d s = { s with pos := p, creep := k, cellRec := r, sanding := a, sanders := e } := by
  unfold settleEnd
  split
  · exact ⟨_, _, _, _, _, rfl⟩
  · split
    · exact takeChange_frame _ s
    · exact ⟨_, _, _, _, _, rfl⟩

theorem deadReckon_frame (s : Station) : ∃ p d, deadReckon s = { s with pos := p, sanders := d } := by
  unfold deadReckon
  split
  · obtain ⟨d, h⟩ := resolveNow_frame { s with pos := { s.pos with state := .deadReckoning } }
    exact ⟨_, d, h⟩
  · exact ⟨_, _, rfl⟩

theorem announceJump_frame (s : Station) :
    ∃ k r a, announceJump s = { s with creep := k, cellRec := r, sanding := a } := ⟨_, _, _, rfl⟩

/-- R49: what an anchor can change. -/
theorem anchor_frame (n : Nat) (s : Station) :
    ∃ p k r a d, anchor n s = { s with pos := p, creep := k, cellRec := r, sanding := a, sanders := d } := by
  unfold anchor
  simp only
  split
  · obtain ⟨d, h⟩ := resolveNow_frame (announceJump
      { s with pos := { s.pos with station := n, remainder := 0, reckoned := 0, state := .valid } })
    rw [h]
    exact ⟨_, _, _, _, _, rfl⟩
  · obtain ⟨d, h⟩ := resolveNow_frame
      { s with pos := { s.pos with station := n, remainder := 0, reckoned := 0, state := .valid } }
    rw [h]
    exact ⟨_, _, _, _, _, rfl⟩

/-- R48: what a DEMAND can change at the position unit. -/
theorem positionDemand_frame (c : CabEnd) (d : DemandContent) (s : Station) :
    ∃ p k r a e, positionDemand c d s = { s with pos := p, creep := k, cellRec := r, sanding := a, sanders := e } := by
  unfold positionDemand
  split
  · exact ⟨_, _, _, _, _, rfl⟩
  · simp only
    obtain ⟨p, k, r, a, e, h⟩ := settleEnd_frame d { s with pos := { s.pos with lastTaken := some ⟨c, s.time⟩ } }
    rw [h]
    split
    · obtain ⟨p2, k2, r2, a2, e2, h2⟩ := anchor_frame
        (anchorOf { s with pos := p, creep := k, cellRec := r, sanding := a, sanders := e } d).toNat
        { s with pos := p, creep := k, cellRec := r, sanding := a, sanders := e }
      exact ⟨_, _, _, _, _, h2⟩
    · obtain ⟨p2, e2, h2⟩ := deadReckon_frame { s with pos := p, creep := k, cellRec := r, sanding := a, sanders := e }
      exact ⟨_, _, _, _, _, h2⟩

theorem deadReckoningLimit_frame (s : Station) :
    ∃ p k a d, deadReckoningLimit s = { s with pos := p, creep := k, sanding := a, sanders := d } := by
  unfold deadReckoningLimit
  split
  · obtain ⟨d, h⟩ := resolveNow_frame (announceLost { s with pos := { s.pos with state := .lost } })
    rw [h]
    exact ⟨_, _, _, _, rfl⟩
  · exact ⟨_, _, _, _, rfl⟩

theorem positionSample_frame (s : Station) :
    ∃ p k a d, positionSample s = { s with pos := p, creep := k, sanding := a, sanders := d } := by
  unfold positionSample
  simp only
  obtain ⟨p, k, a, d, h⟩ := deadReckoningLimit_frame (advanceOdometry s)
  rw [h]
  exact ⟨_, _, _, _, rfl⟩

/-! ## Modes and hold unit -/

theorem holdRespond_frame (s : Station) : ∃ h a, holdRespond s = { s with hold := h, sanding := a } := by
  unfold holdRespond holdDrive holdNoDrive
  simp only
  repeat' split
  all_goals exact ⟨_, _, rfl⟩

theorem mtbRespond_frame (m : EffMode) (s : Station) : ∃ b, mtbRespond m s = { s with blend := b } := by
  unfold mtbRespond
  simp only
  repeat' split
  all_goals exact ⟨_, rfl⟩

theorem senseRespond_frame (e : EffortSense) (s : Station) :
    ∃ b m, senseRespond e s = { s with blend := b, makeUp := m } := by
  unfold senseRespond; split <;> exact ⟨_, _, rfl⟩

/-- R106: what an evaluation of the effective mode can change. -/
theorem evaluate_frame (arrival : Bool) (s : Station) :
    ∃ b m h a, evaluate arrival s = { s with blend := b, makeUp := m, hold := h, sanding := a } := by
  unfold evaluate
  obtain ⟨b, m, h1⟩ := senseRespond_frame (effortSense s) (publishModes arrival s)
  obtain ⟨b2, h2⟩ := mtbRespond_frame s.blend.effMode (senseRespond (effortSense s) (publishModes arrival s))
  obtain ⟨h, a, h3⟩ := holdRespond_frame
    (mtbRespond s.blend.effMode (senseRespond (effortSense s) (publishModes arrival s)))
  rw [h3, h2, h1]
  exact ⟨_, _, _, _, rfl⟩

theorem buildStatus_frame (s : Station) : ∃ p, buildStatus s = { s with port := p } := ⟨_, rfl⟩

theorem requestSave_frame (s : Station) : ∃ t, requestSave s = { s with store := t } := by
  unfold requestSave; split <;> exact ⟨_, rfl⟩

theorem rouse_frame (s : Station) : ∃ l, rouse s = { s with life := l } := by
  unfold rouse; split <;> exact ⟨_, rfl⟩

/-- R154, R155, R166: what `announced` adds: nothing where the life state stays, the STATUS or beacon of the result where it
changes. -/
theorem announced_cases (f : Station → Station) (s : Station) :
    ((f s).life = s.life ∧ announced f s = f s) ∨ ((f s).life ≠ s.life ∧ announced f s = buildStatus (f s)) := by
  unfold announced
  by_cases h : (f s).life = s.life <;> simp [h]

theorem announced_frame (f : Station → Station) (s : Station) : ∃ p, announced f s = { f s with port := p } := by
  obtain ⟨-, e⟩ | ⟨-, e⟩ := announced_cases f s <;> exact ⟨_, e⟩

theorem wake_frame (s : Station) : ∃ l p, wake s = { s with life := l, port := p } := by
  obtain ⟨l, e⟩ := rouse_frame s
  obtain ⟨p, h⟩ := announced_frame rouse s
  exact ⟨l, p, h.trans (by rw [e])⟩

theorem endStandstill_frame (s : Station) :
    ∃ b m h a, endStandstill s = { s with blend := b, makeUp := m, hold := h, sanding := a } := by
  obtain ⟨b, m, h, a, e⟩ := evaluate_frame false { s with hold := { s.hold with standstill := false, stillTime := none } }
  exact ⟨b, m, h, a, e⟩

/-- R142: what the beginning of standstill can change. -/
theorem beginStandstill_frame (s : Station) :
    ∃ b m h a p k r d, beginStandstill s =
      { s with blend := b, makeUp := m, hold := h, sanding := a, pos := p, creep := k, cellRec := r, sanders := d } := by
  unfold beginStandstill
  simp only
  generalize hs : (if s.hold.state = .rollback then endRollback { s with hold := { s.hold with standstill := true } }
    else { s with hold := { s.hold with standstill := true } }) = t
  have ht : ∃ h, t = { s with hold := h } := by subst hs; split <;> exact ⟨_, rfl⟩
  obtain ⟨h0, rfl⟩ := ht
  obtain ⟨b, m, h, a, e⟩ := evaluate_frame false { s with hold := h0 }
  rw [e]
  obtain ⟨p, k, r, a2, d, e2⟩ := takePending_frame { s with hold := h, blend := b, makeUp := m, sanding := a }
  exact ⟨_, _, _, _, _, _, _, _, e2⟩

/-- R154: what the PARKED entry can change. -/
theorem enterParked_frame (s : Station) :
    ∃ h x t, enterParked s = { s with life := .parked, hold := h, axles := x, store := t } := by
  unfold enterParked
  obtain ⟨t, e⟩ := requestSave_frame { s with
    life := .parked
    hold := { s.hold with parkTime := none }
    axles := ⟨{ s.axles.a with wakeEdges := [] }, { s.axles.b with wakeEdges := [] }⟩ }
  exact ⟨_, _, t, e⟩

/-- The end of standstill with the return to RUN, as an entry to ROLLBACK does it. -/
theorem rollbackEnd_frame (x : Station) :
    ∃ b m h a l, rouse { (if x.hold.standstill then endStandstill x else x) with
        hold := { (if x.hold.standstill then endStandstill x else x).hold with armed := false } } =
      { x with blend := b, makeUp := m, hold := h, sanding := a, life := l } := by
  split
  · obtain ⟨b, m, h, a, e⟩ := endStandstill_frame x
    rw [e]
    obtain ⟨l, e2⟩ := rouse_frame { x with blend := b, makeUp := m, hold := { h with armed := false }, sanding := a }
    exact ⟨_, _, _, _, l, e2⟩
  · obtain ⟨l, e2⟩ := rouse_frame { x with hold := { x.hold with armed := false } }
    exact ⟨_, _, _, _, l, e2⟩

/-- R151: what the entry to ROLLBACK can change. -/
theorem enterRollback_frame (d : FaultDetail) (s : Station) :
    ∃ f b m h a l, enterRollback d s =
      { s with faults := f, blend := b, makeUp := m, hold := h, sanding := a, life := l } := by
  obtain ⟨b, m, h, a, l, e⟩ := rollbackEnd_frame
    { report .rollback none (some (if s.life = .parked then .parked else d)) s with
      hold := { s.hold with
        state := .rollback, shown := .rollback, armed := false, levelPending := false, rollbackTime := none,
        hillSince := none, stillTime := none, friction := s.hold.holdForce } }
  exact ⟨_, b, m, h, a, l, e⟩

end Sys2Proof.Machine
end

