-- ==== Sys2Proof/Laws/SampleFrames.lean ====
section
/-! SUPPORT. What the parts of a speed sample can change: the axle speed unit, the hold unit, the creep controller. -/

namespace Sys2Proof.Machine

/-! ## Axle speed unit -/

theorem failSensor_frame (x : Axle) (s : Station) :
    ∃ a c f, failSensor x s = { s with axles := a, creep := c, faults := f } := ⟨_, _, _, rfl⟩

theorem sensorSilence_frame (x : Axle) (s : Station) :
    ∃ a c f, sensorSilence x s = { s with axles := a, creep := c, faults := f } := by
  unfold sensorSilence
  split
  · exact failSensor_frame x s
  · exact ⟨_, _, _, rfl⟩

theorem negateReference_frame (s : Station) : ∃ r, negateReference s = { s with ref := r } := by
  unfold negateReference; split <;> exact ⟨_, rfl⟩

/-- R5, steps 1 to 3: what measuring can change. -/
theorem measure_frame (s : Station) :
    ∃ r a c f, measure s = { s with ref := r, axles := a, creep := c, faults := f } := by
  unfold measure
  obtain ⟨r, h1⟩ := negateReference_frame s
  rw [h1]
  obtain ⟨a, c, f, h2⟩ := sensorSilence_frame .a (axleSample .b (axleSample .a { s with ref := r }))
  obtain ⟨a2, c2, f2, h3⟩ := sensorSilence_frame .b (sensorSilence .a (axleSample .b (axleSample .a { s with ref := r })))
  rw [h3, h2]
  exact ⟨_, _, _, _, rfl⟩

theorem budgetSpent_frame (s : Station) : ∃ r f, budgetSpent s = { s with ref := r, faults := f } := by
  unfold budgetSpent; split <;> exact ⟨_, _, rfl⟩

theorem moveReference_frame (s : Station) : ∃ r f, moveReference s = { s with ref := r, faults := f } := by
  unfold moveReference moveWithout
  simp only
  split
  · split
    · exact ⟨_, _, rfl⟩
    · exact ⟨_, _, rfl⟩
    · exact ⟨_, _, rfl⟩
    · split
      · exact ⟨_, _, rfl⟩
      · obtain ⟨r, f, h⟩ := budgetSpent_frame { s with ref := { s.ref with extrapTime := s.ref.extrapTime + 5 } }
        exact ⟨r, f, h⟩
  · split <;> exact ⟨_, _, rfl⟩

theorem trimExpiry_frame (x : Axle) (s : Station) : ∃ a, trimExpiry x s = { s with axles := a } := by
  unfold trimExpiry
  simp only
  split
  · split <;> exact ⟨_, rfl⟩
  · exact ⟨_, rfl⟩

theorem learnSample_frame (x : Axle) (s : Station) : ∃ a, learnSample x s = { s with axles := a } := by
  unfold learnSample
  obtain ⟨a, h⟩ := trimExpiry_frame x (setAxle s x (advanceLearning (learningSense s x) (pick s.axles x)))
  exact ⟨a, h⟩

/-! ## Hold unit -/

theorem standstillExpiry_frame (s : Station) :
    ∃ b m h a p k r d, standstillExpiry s =
      { s with blend := b, makeUp := m, hold := h, sanding := a, pos := p, creep := k, cellRec := r, sanders := d } := by
  unfold standstillExpiry
  split
  · exact beginStandstill_frame s
  · exact ⟨_, _, _, _, _, _, _, _, rfl⟩

theorem stillTest_frame (s : Station) :
    ∃ b m h a p k r d, stillTest s =
      { s with blend := b, makeUp := m, hold := h, sanding := a, pos := p, creep := k, cellRec := r, sanders := d } := by
  unfold stillTest
  simp only
  split
  · obtain ⟨b, m, h, a, p, k, r, d, e⟩ := standstillExpiry_frame
      { s with hold := { s.hold with stillTime := runTimer 5 true s.hold.stillTime } }
    exact ⟨b, m, h, a, p, k, r, d, e⟩
  · split
    · obtain ⟨b, m, h, a, e⟩ := endStandstill_frame s
      exact ⟨b, m, h, a, _, _, _, _, e⟩
    · exact ⟨_, _, _, _, _, _, _, _, rfl⟩

theorem wheelWake_frame (s : Station) :
    ∃ f b m h a l, wheelWake s =
      { s with faults := f, blend := b, makeUp := m, hold := h, sanding := a, life := l } := by
  unfold wheelWake
  split
  · exact enterRollback_frame _ s
  · exact ⟨_, _, _, _, _, _, rfl⟩

theorem rollbackExpiry_frame (s : Station) :
    ∃ f b m h a l, rollbackExpiry s =
      { s with faults := f, blend := b, makeUp := m, hold := h, sanding := a, life := l } := by
  unfold rollbackExpiry
  split
  · exact enterRollback_frame _ s
  · exact ⟨_, _, _, _, _, _, rfl⟩

theorem peerRollback_frame (s : Station) :
    ∃ f b m h a l, peerRollback s =
      { s with faults := f, blend := b, makeUp := m, hold := h, sanding := a, life := l } := by
  unfold peerRollback
  split
  · split
    · exact enterRollback_frame _ s
    · exact ⟨_, _, _, _, _, _, rfl⟩
  · exact ⟨_, _, _, _, _, _, rfl⟩

theorem rollbackTest_frame (s : Station) :
    ∃ f b m h a l, rollbackTest s =
      { s with faults := f, blend := b, makeUp := m, hold := h, sanding := a, life := l } := by
  unfold rollbackTest
  simp only
  obtain ⟨f, b, m, h, a, l, e⟩ := rollbackExpiry_frame { s with
    hold := { s.hold with rollbackTime := runTimer 5 (rollbackTested s && decide (s.ref.speed < -150)) s.hold.rollbackTime } }
  rw [e]
  obtain ⟨f2, b2, m2, h2, a2, l2, e2⟩ := peerRollback_frame
    { s with faults := f, blend := b, makeUp := m, hold := h, sanding := a, life := l }
  exact ⟨_, _, _, _, _, _, e2⟩

theorem releaseForward_frame (s : Station) :
    ∃ h l, releaseForward s = { s with hold := h, life := l } := by
  unfold releaseForward
  split
  · obtain ⟨l, e⟩ := rouse_frame { s with hold := { s.hold with state := .free } }
    exact ⟨_, l, e⟩
  · exact ⟨_, _, rfl⟩

theorem levelStart_frame (b : Bool) (s : Station) : ∃ h, levelStart b s = { s with hold := h } := by
  unfold levelStart; split <;> exact ⟨_, rfl⟩

theorem handOver_frame (s : Station) : ∃ h, handOver s = { s with hold := h } := by
  unfold handOver; split <;> exact ⟨_, rfl⟩

theorem hillSample_frame (s : Station) : ∃ h, hillSample s = { s with hold := h } := by
  unfold hillSample
  split
  · obtain ⟨h, e⟩ := handOver_frame s
    simp only
    rw [e]
    split <;> exact ⟨_, rfl⟩
  · exact ⟨_, rfl⟩

theorem parkExpiry_frame (s : Station) :
    ∃ l h x t, parkExpiry s = { s with life := l, hold := h, axles := x, store := t } := by
  unfold parkExpiry
  split
  · obtain ⟨h, x, t, e⟩ := enterParked_frame s
    exact ⟨_, h, x, t, e⟩
  · exact ⟨_, _, _, _, rfl⟩

theorem parkTest_frame (s : Station) :
    ∃ l h x t, parkTest s = { s with life := l, hold := h, axles := x, store := t } := by
  unfold parkTest
  simp only
  generalize runTimer 5 (s.life == .run && s.blend.effMode == .park && s.hold.standstill && s.hold.state == .holding)
    s.hold.parkTime = k
  obtain ⟨l, h, x, t, e⟩ := parkExpiry_frame { s with hold := { s.hold with parkTime := k } }
  exact ⟨l, h, x, t, e⟩

theorem holdPublish_frame (s : Station) : ∃ h, holdPublish s = { s with hold := h } := ⟨_, rfl⟩

/-- R141: what the hold unit's part of a sample can change. -/
theorem holdSample_frame (s : Station) :
    ∃ f b m h a p k r d l x t, holdSample s =
      { s with faults := f, blend := b, makeUp := m, hold := h, sanding := a, pos := p, creep := k, cellRec := r,
               sanders := d, life := l, axles := x, store := t } := by
  unfold holdSample
  simp only
  obtain ⟨b, m, h, a, p, k, r, d, e⟩ := stillTest_frame s
  rw [e]
  obtain ⟨f, b2, m2, h2, a2, l, e2⟩ := wheelWake_frame
    { s with blend := b, makeUp := m, hold := h, sanding := a, pos := p, creep := k, cellRec := r, sanders := d }
  rw [e2]
  obtain ⟨f3, b3, m3, h3, a3, l3, e3⟩ := rollbackTest_frame
    { s with faults := f, blend := b2, makeUp := m2, hold := h2, sanding := a2, pos := p, creep := k, cellRec := r,
             sanders := d, life := l }
  rw [e3]
  obtain ⟨h4, l4, e4⟩ := releaseForward_frame
    { s with faults := f3, blend := b3, makeUp := m3, hold := h3, sanding := a3, pos := p, creep := k, cellRec := r,
             sanders := d, life := l3 }
  rw [e4]
  obtain ⟨h5, e5⟩ := levelStart_frame s.hold.levelPending
    { s with faults := f3, blend := b3, makeUp := m3, hold := h4, sanding := a3, pos := p, creep := k, cellRec := r,
             sanders := d, life := l4 }
  rw [e5]
  obtain ⟨h6, e6⟩ := hillSample_frame
    { s with faults := f3, blend := b3, makeUp := m3, hold := h5, sanding := a3, pos := p, creep := k, cellRec := r,
             sanders := d, life := l4 }
  rw [e6]
  obtain ⟨l7, h7, x, t, e7⟩ := parkTest_frame
    { s with faults := f3, blend := b3, makeUp := m3, hold := h6, sanding := a3, pos := p, creep := k, cellRec := r,
             sanders := d, life := l4 }
  rw [e7]
  exact ⟨_, _, _, _, _, _, _, _, _, _, _, _, rfl⟩

/-! ## Creep controller -/

theorem reslipExpiry_frame (x : Axle) (s : Station) : ∃ c, reslipExpiry x s = { s with creep := c } := by
  unfold reslipExpiry
  simp only
  split
  · split <;> exact ⟨_, rfl⟩
  · exact ⟨_, rfl⟩

theorem joinReslips_frame (n : Nat) (x : Axle) (s : Station) :
    ∃ c a, joinReslips n x s = { s with creep := c, sanding := a } := by
  unfold joinReslips; simp only; split <;> exact ⟨_, _, rfl⟩

theorem peakObservation_frame (n : Nat) (x : Axle) (s : Station) :
    ∃ p m, peakObservation n x s = { s with port := p, map := m } := by
  unfold peakObservation
  split
  · exact observe_frame _ _ _ s
  · exact ⟨_, _, rfl⟩

/-- R28: what a SLIPPING entry can change. -/
theorem enterSlipping_frame (x : Axle) (s : Station) :
    ∃ c a p m, enterSlipping x s = { s with creep := c, sanding := a, port := p, map := m } := by
  unfold enterSlipping
  simp only
  obtain ⟨p, m, h⟩ := peakObservation_frame (peakOf (pick s.creep x)) x (setCreep s x (slippingRecord (pick s.creep x)))
  rw [h]
  obtain ⟨c, a, h2⟩ := joinReslips_frame (peakOf (pick s.creep x)) x
    (slipRequest { setCreep s x (slippingRecord (pick s.creep x)) with port := p, map := m })
  rw [h2]
  exact ⟨_, _, _, _, rfl⟩

theorem slipPersistent_frame (x : Axle) (s : Station) :
    ∃ c f, slipPersistent x s = { s with creep := c, faults := f } := by
  unfold slipPersistent; simp only; split <;> exact ⟨_, _, rfl⟩

theorem slippingRule_frame (x : Axle) (s : Station) : ∃ c f, slippingRule x s = { s with creep := c, faults := f } := by
  unfold slippingRule
  simp only
  split
  · exact ⟨_, _, rfl⟩
  · exact slipPersistent_frame x s

theorem calmExpiry_frame (x : Axle) (s : Station) : ∃ c, calmExpiry x s = { s with creep := c } := by
  unfold calmExpiry; simp only; split <;> exact ⟨_, rfl⟩

theorem regulatingRule_frame (x : Axle) (s : Station) : ∃ c, regulatingRule x s = { s with creep := c } := by
  unfold regulatingRule
  simp only
  obtain ⟨c, h⟩ := calmExpiry_frame x (setCreep s x { pick s.creep x with
    limit := regulatedLimit (creepNow s x) (targetNow s) (ceilingOf s x) (pick s.creep x).limit
    calm := runTimer 5 (decide (creepNow s x ≤ targetNow s)) (pick s.creep x).calm })
  exact ⟨c, h⟩

theorem enterRegulating_frame (x : Axle) (s : Station) : ∃ c, enterRegulating x s = { s with creep := c } := by
  unfold enterRegulating
  obtain ⟨c, h⟩ := regulatingRule_frame x (setCreep s x { pick s.creep x with state := .regulating, stateTime := 0, calm := none })
  exact ⟨c, h⟩

theorem adheringRule_frame (x : Axle) (s : Station) : ∃ c, adheringRule x s = { s with creep := c } := by
  unfold adheringRule
  simp only
  split
  · exact ⟨_, rfl⟩
  · exact enterRegulating_frame x s

theorem reapplyingRule_frame (x : Axle) (s : Station) : ∃ c, reapplyingRule x s = { s with creep := c } := by
  unfold reapplyingRule
  split
  · exact enterRegulating_frame x s
  · exact ⟨_, rfl⟩

theorem recoveryHoldExpiry_frame (x : Axle) (s : Station) : ∃ c, recoveryHoldExpiry x s = { s with creep := c } := by
  unfold recoveryHoldExpiry
  simp only
  split
  · obtain ⟨c, h⟩ := reapplyingRule_frame x (setCreep s x { pick s.creep x with state := .reapplying, stateTime := 0 })
    exact ⟨c, h⟩
  · exact ⟨_, rfl⟩

theorem recoveringRule_frame (x : Axle) (s : Station) :
    ∃ c a p m, recoveringRule x s = { s with creep := c, sanding := a, port := p, map := m } := by
  unfold recoveringRule
  split
  · exact enterSlipping_frame x s
  · obtain ⟨c, h⟩ := recoveryHoldExpiry_frame x s
    exact ⟨c, _, _, _, h⟩

theorem lockExpiry_frame (x : Axle) (s : Station) : ∃ c, lockExpiry x s = { s with creep := c } := by
  unfold lockExpiry; split <;> exact ⟨_, rfl⟩

theorem wheelLockExpiry_frame (x : Axle) (s : Station) :
    ∃ c f, wheelLockExpiry x s = { s with creep := c, faults := f } := by
  unfold wheelLockExpiry; simp only; split <;> exact ⟨_, _, rfl⟩

theorem releaseExpiry_frame (x : Axle) (s : Station) :
    ∃ a c f, releaseExpiry x s = { s with axles := a, creep := c, faults := f } := by
  unfold releaseExpiry
  split
  · exact failSensor_frame x s
  · exact ⟨_, _, _, rfl⟩

theorem releaseSample_frame (x : Axle) (s : Station) :
    ∃ a c f, releaseSample x s = { s with axles := a, creep := c, faults := f } := by
  unfold releaseSample
  simp only
  split
  · obtain ⟨a, c, f, h⟩ := releaseExpiry_frame x (setCreep s x
      { pick s.creep x with release := runTimer 5 (runsFree s x) (pick s.creep x).release })
    exact ⟨a, c, f, h⟩
  · exact ⟨_, _, _, rfl⟩

theorem lockedRule_frame (x : Axle) (s : Station) :
    ∃ a c f, lockedRule x s = { s with axles := a, creep := c, faults := f } := by
  unfold lockedRule
  split
  · exact ⟨_, _, _, rfl⟩
  · obtain ⟨c, f, h⟩ := wheelLockExpiry_frame x s
    rw [h]
    obtain ⟨a, c2, f2, h2⟩ := releaseSample_frame x { s with creep := c, faults := f }
    exact ⟨a, c2, f2, h2⟩

theorem ownRule_frame (x : Axle) (s : Station) :
    ∃ a c f g p m, ownRule x s = { s with axles := a, creep := c, faults := f, sanding := g, port := p, map := m } := by
  unfold ownRule
  split
  · obtain ⟨c, h⟩ := adheringRule_frame x s; exact ⟨_, c, _, _, _, _, h⟩
  · obtain ⟨c, h⟩ := regulatingRule_frame x s; exact ⟨_, c, _, _, _, _, h⟩
  · obtain ⟨c, f, h⟩ := slippingRule_frame x s; exact ⟨_, c, f, _, _, _, h⟩
  · obtain ⟨c, g, p, m, h⟩ := recoveringRule_frame x s; exact ⟨_, c, _, g, p, m, h⟩
  · obtain ⟨c, h⟩ := reapplyingRule_frame x s; exact ⟨_, c, _, _, _, _, h⟩
  · obtain ⟨a, c, f, h⟩ := lockedRule_frame x s; exact ⟨a, c, f, _, _, _, h⟩

/-- R25: what the tests of a sample can change. -/
theorem runTests_frame (x : Axle) (s : Station) :
    ∃ a c f g p m, runTests x s = { s with axles := a, creep := c, faults := f, sanding := g, port := p, map := m } := by
  unfold runTests
  simp only
  split
  · obtain ⟨c, h⟩ := lockExpiry_frame x s
    rw [h]
    obtain ⟨a, c2, f, h2⟩ := lockedRule_frame x { s with creep := c }
    exact ⟨a, c2, f, _, _, _, h2⟩
  · split
    · obtain ⟨c, g, p, m, h⟩ := enterSlipping_frame x s
      rw [h]
      obtain ⟨c2, f, h2⟩ := slippingRule_frame x { s with creep := c, sanding := g, port := p, map := m }
      exact ⟨_, c2, f, _, _, _, h2⟩
    · exact ownRule_frame x s

theorem machineSample_frame (x : Axle) (s : Station) :
    ∃ a c f g p m, machineSample x s =
      { s with axles := a, creep := c, faults := f, sanding := g, port := p, map := m } := by
  unfold machineSample
  simp only
  split
  · obtain ⟨a, c, f, g, p, m, h⟩ := runTests_frame x (advanceLock x s)
    rw [h]
    split <;> exact ⟨_, _, _, _, _, _, rfl⟩
  · exact ⟨_, _, _, _, _, _, rfl⟩

theorem restSample_frame (x : Axle) (s : Station) : ∃ c, restSample x s = { s with creep := c } := by
  unfold restSample; split <;> exact ⟨_, rfl⟩

theorem growStateTime_frame (x : Axle) (s : Station) : ∃ c, growStateTime x s = { s with creep := c } := by
  unfold growStateTime; simp only; split <;> exact ⟨_, rfl⟩

theorem redirect_frame (x : Axle) (s : Station) : ∃ c, redirect x s = { s with creep := c } := by
  unfold redirect; split <;> exact ⟨_, rfl⟩

theorem followPartners_frame (s : Station) : ∃ c, followPartners s = { s with creep := c } := by
  unfold followPartners bothFailed followPartner
  simp only
  repeat' split
  all_goals exact ⟨_, rfl⟩

theorem failAndFollow_frame (x : Axle) (s : Station) :
    ∃ a c f, failAndFollow x s = { s with axles := a, creep := c, faults := f } := by
  unfold failAndFollow
  obtain ⟨a, c, f, h⟩ := failSensor_frame x s
  obtain ⟨c2, h2⟩ := followPartners_frame { s with axles := a, creep := c, faults := f }
  rw [h, h2]
  exact ⟨a, c2, f, rfl⟩

/-- R17: what SENSOR_SILENCE_EXPIRY can change. -/
theorem silenceRow_frame (x : Axle) (s : Station) :
    ∃ a c f, silenceRow x s = { s with axles := a, creep := c, faults := f } := by
  unfold silenceRow; split
  · exact failAndFollow_frame x s
  · exact ⟨s.axles, s.creep, s.faults, rfl⟩

/-- R44: what RELEASE_TIMER_EXPIRY can change. -/
theorem releaseRow_frame (x : Axle) (s : Station) :
    ∃ a c f, releaseRow x s = { s with axles := a, creep := c, faults := f } := by
  unfold releaseRow; split
  · exact failAndFollow_frame x s
  · exact ⟨s.axles, s.creep, s.faults, rfl⟩

theorem queryAhead_frame (s : Station) : ∃ c, queryAhead s = { s with creep := c } := by
  unfold queryAhead
  split
  · exact ⟨_, rfl⟩
  · split <;> exact ⟨_, rfl⟩

theorem closeCell_frame (r : CellRec) (s : Station) : ∃ p m, closeCell r s = { s with port := p, map := m } := by
  unfold closeCell
  simp only
  split
  · exact observe_frame _ _ _ s
  · exact ⟨_, _, rfl⟩

theorem turnCell_frame (s : Station) : ∃ r p m, turnCell s = { s with cellRec := r, port := p, map := m } := by
  unfold turnCell
  simp only
  split
  · exact ⟨_, _, _, rfl⟩
  · split
    · exact ⟨_, _, _, rfl⟩
    · split
      · rename_i r _ _ _
        obtain ⟨p, m, h⟩ := closeCell_frame r s
        rw [h]
        exact ⟨_, _, _, rfl⟩
      · exact ⟨_, _, _, rfl⟩

theorem sampleCell_frame (b : Bool) (n : Nat) (s : Station) : ∃ r, sampleCell b n s = { s with cellRec := r } := by
  unfold sampleCell; split <;> exact ⟨_, rfl⟩

theorem formOrder_frame (x : Axle) (s : Station) : ∃ c, formOrder x s = { s with creep := c } := by
  unfold formOrder; simp only; split <;> exact ⟨_, rfl⟩

theorem runMachines_frame (b : Bool) (s : Station) :
    ∃ a c f g p m, runMachines b s =
      { s with axles := a, creep := c, faults := f, sanding := g, port := p, map := m } := by
  have run : ∀ t : Station, ∃ a c f g p m, machineSample .b (machineSample .a t) =
      { t with axles := a, creep := c, faults := f, sanding := g, port := p, map := m } := by
    intro t
    obtain ⟨a, c, f, g, p, m, h⟩ := machineSample_frame .a t
    rw [h]
    obtain ⟨a2, c2, f2, g2, p2, m2, h2⟩ := machineSample_frame .b
      { t with axles := a, creep := c, faults := f, sanding := g, port := p, map := m }
    exact ⟨_, _, _, _, _, _, h2⟩
  have red : ∀ t : Station, ∃ c, (if b then redirect .b (redirect .a t) else t) = { t with creep := c } := by
    intro t
    split
    · obtain ⟨c, h⟩ := redirect_frame .a t
      rw [h]
      obtain ⟨c2, h2⟩ := redirect_frame .b { t with creep := c }
      exact ⟨c2, h2⟩
    · exact ⟨_, rfl⟩
  have whole : ∀ t : Station, ∃ a c f g p m,
      machineSample .b (machineSample .a (if b then redirect .b (redirect .a (growStateTime .b (growStateTime .a t)))
        else growStateTime .b (growStateTime .a t))) =
      { t with axles := a, creep := c, faults := f, sanding := g, port := p, map := m } := by
    intro t
    obtain ⟨c, h⟩ := growStateTime_frame .a t
    rw [h]
    obtain ⟨c2, h2⟩ := growStateTime_frame .b { t with creep := c }
    rw [h2]
    obtain ⟨c3, h3⟩ := red { t with creep := c2 }
    rw [h3]
    exact run { t with creep := c3 }
  unfold runMachines
  split
  · obtain ⟨c, h⟩ := restSample_frame .a s
    rw [h]
    obtain ⟨c2, h2⟩ := restSample_frame .b { s with creep := c }
    exact ⟨_, c2, _, _, _, _, h2⟩
  · exact whole s
  · exact whole s
  · exact whole s

/-- What the creep controller's part of a sample can change. -/
theorem creepSample_frame (b : Bool) (s : Station) :
    ∃ e a c f g p m r, creepSample b s =
      { s with creepDir := e, axles := a, creep := c, faults := f, sanding := g, port := p, map := m, cellRec := r } := by
  have pre : ∀ t : Station, ∃ c, pruneReslips .b (pruneReslips .a (reslipExpiry .b (reslipExpiry .a t))) =
      { t with creep := c } := by
    intro t
    obtain ⟨c, h⟩ := reslipExpiry_frame .a t
    rw [h]
    obtain ⟨c2, h2⟩ := reslipExpiry_frame .b { t with creep := c }
    rw [h2]
    exact ⟨_, rfl⟩
  have seed : ∀ t : Station, ∃ c, (if b then emptyHistories t else t) = { t with creep := c } := by
    intro t; split <;> exact ⟨_, rfl⟩
  have mid : ∀ (d : Bool) (t : Station), ∃ a c f g p m, followPartners (runMachines d (queryAhead t)) =
      { t with axles := a, creep := c, faults := f, sanding := g, port := p, map := m } := by
    intro d t
    obtain ⟨c, h⟩ := queryAhead_frame t
    rw [h]
    obtain ⟨a, c2, f, g, p, m, h2⟩ := runMachines_frame d { t with creep := c }
    rw [h2]
    obtain ⟨c3, h3⟩ := followPartners_frame { t with axles := a, creep := c2, faults := f, sanding := g, port := p, map := m }
    exact ⟨_, c3, _, _, _, _, h3⟩
  have post : ∀ (d : Bool) (n : Nat) (t : Station), ∃ c p m r,
      formOrder .b (formOrder .a (sampleCell d n (turnCell t))) =
      { t with creep := c, port := p, map := m, cellRec := r } := by
    intro d n t
    obtain ⟨r, p, m, h⟩ := turnCell_frame t
    rw [h]
    obtain ⟨r2, h2⟩ := sampleCell_frame d n { t with cellRec := r, port := p, map := m }
    rw [h2]
    obtain ⟨c, h3⟩ := formOrder_frame .a { t with cellRec := r2, port := p, map := m }
    rw [h3]
    obtain ⟨c2, h4⟩ := formOrder_frame .b { t with creep := c, cellRec := r2, port := p, map := m }
    exact ⟨c2, _, _, _, h4⟩
  unfold creepSample
  simp only
  obtain ⟨c, h⟩ := pre (recordApplied (dirOf s.hold.state s.blend.served)
    { s with creepDir := dirOf s.hold.state s.blend.served })
  rw [h]
  obtain ⟨c2, h2⟩ := seed { recordApplied (dirOf s.hold.state s.blend.served)
    { s with creepDir := dirOf s.hold.state s.blend.served } with creep := c }
  rw [h2]
  obtain ⟨a, c3, f, g, p, m, h3⟩ := mid (dirOf s.hold.state s.blend.served != s.creepDir &&
      dirOf s.hold.state s.blend.served != .rest && s.creepDir != .rest)
    { recordApplied (dirOf s.hold.state s.blend.served)
      { s with creepDir := dirOf s.hold.state s.blend.served } with creep := c2 }
  rw [h3]
  obtain ⟨c4, p2, m2, r, h4⟩ := post (dirOf s.hold.state s.blend.served != s.creepDir)
    (appliedForce s (dirOf s.hold.state s.blend.served) (leadingAxle s))
    { recordApplied (dirOf s.hold.state s.blend.served) { s with creepDir := dirOf s.hold.state s.blend.served } with
      axles := a, creep := c3, faults := f, sanding := g, port := p, map := m }
  rw [h4]
  exact ⟨_, _, _, _, _, _, _, _, rfl⟩

/-! ## The sample -/

/-- R5: what a speed sample can change. Station time, the figures, the code plug, the reply and DEGRADED stay. -/
theorem speedSample_frame (s : Station) :
    ∃ r a c f p k d l o t b m h e mp cr,
      (speedSample s).link = { s.link with
        sentInverter := (speedSample s).link.sentInverter, sentBrake := (speedSample s).link.sentBrake } ∧
      speedSample s = { s with
        lastSample := s.time, ref := r, axles := a, creep := c, faults := f, pos := p, sanding := k, sanders := d,
        life := l, port := o, store := t, blend := b, makeUp := m, hold := h, creepDir := e, map := mp, cellRec := cr,
        link := (speedSample s).link } := by
  have whole : ∀ t : Station, ∃ r a c f p k d l o st b m h e mp cr i j,
      command (seeds (measure t)) (judge (measure t)) = { t with
        ref := r, axles := a, creep := c, faults := f, pos := p, sanding := k, sanders := d, life := l, port := o,
        store := st, blend := b, makeUp := m, hold := h, creepDir := e, map := mp, cellRec := cr,
        link := { t.link with sentInverter := i, sentBrake := j } } := by
    intro t
    obtain ⟨r, a, c, f, h1⟩ := measure_frame t
    rw [h1]
    generalize seeds { t with ref := r, axles := a, creep := c, faults := f } = sd
    unfold judge command
    obtain ⟨r2, f2, h2⟩ := moveReference_frame { t with ref := r, axles := a, creep := c, faults := f }
    rw [h2]
    obtain ⟨a3, h3⟩ := learnSample_frame .a { t with ref := r2, axles := a, creep := c, faults := f2 }
    rw [h3]
    obtain ⟨a4, h4⟩ := learnSample_frame .b { t with ref := r2, axles := a3, creep := c, faults := f2 }
    rw [h4]
    obtain ⟨p, c5, k, d, h5⟩ := positionSample_frame { t with ref := r2, axles := a4, creep := c, faults := f2 }
    rw [h5]
    obtain ⟨f6, b, m, h, k6, p6, c6, cr, d6, l, x6, st, h6⟩ := holdSample_frame
      { t with ref := r2, axles := a4, creep := c5, faults := f2, pos := p, sanding := k, sanders := d }
    rw [h6]
    obtain ⟨e, a7, c7, f7, k7, o7, mp, cr7, h7⟩ := creepSample_frame sd
      { t with ref := r2, axles := x6, creep := c6, faults := f6, pos := p6, sanding := k6, sanders := d6, blend := b,
               makeUp := m, hold := h, cellRec := cr, life := l, store := st }
    rw [h7]
    exact ⟨_, _, _, _, _, _, _, _, _, _, _, _, _, _, _, _, _, _, rfl⟩
  obtain ⟨r, a, c, f, p, k, d, l, o, t, b, m, h, e, mp, cr, i, j, hw⟩ := whole { s with lastSample := s.time }
  have hw' : sampleSteps s = _ := hw
  obtain ⟨q, ha⟩ := announced_frame sampleSteps s
  have hs : speedSample s = { s with
      lastSample := s.time, ref := r, axles := a, creep := c, faults := f, pos := p, sanding := k, sanders := d, life := l,
      port := q, store := t, blend := b, makeUp := m, hold := h, creepDir := e, map := mp, cellRec := cr,
      link := { s.link with sentInverter := i, sentBrake := j } } := ha.trans (by rw [hw'])
  exact ⟨r, a, c, f, p, k, d, l, q, t, b, m, h, e, mp, cr, by rw [hs], by rw [hs]⟩

end Sys2Proof.Machine
end

