-- ==== Sys2Proof/Laws/CommandFrames.lean ====
section
/-! SUPPORT. What the sander decision, the blend event, the arrivals, the link, the service commands and the expiries can
change. -/

namespace Sys2Proof.Machine

/-! ## Sander decision -/

theorem openTimeEnd_frame (x : Axle) (s : Station) : ∃ d, openTimeEnd x s = { s with sanders := d } := by
  unfold openTimeEnd; simp only; split <;> exact ⟨_, rfl⟩

theorem advanceSander_frame (x : Axle) (s : Station) :
    ∃ d f, advanceSander x s = { s with sanders := d, faults := f } := by
  unfold advanceSander
  simp only
  obtain ⟨d, h⟩ := openTimeEnd_frame x (setSander s x (advanceTimes s.time (sanderAt s x)))
  rw [h]
  obtain ⟨d2, f, h2⟩ := noteEmpty_frame x
    (setSander { setSander s x (advanceTimes s.time (sanderAt s x)) with sanders := d } x
      (settleBox s.time (sanderAt { setSander s x (advanceTimes s.time (sanderAt s x)) with sanders := d } x)))
  exact ⟨d2, f, h2⟩

theorem dropPassedAim_frame (s : Station) : ∃ a, dropPassedAim s = { s with sanding := a } := by
  unfold dropPassedAim
  split
  · split <;> exact ⟨_, rfl⟩
  · exact ⟨_, rfl⟩

theorem queryAim_frame (s : Station) : ∃ a, queryAim s = { s with sanding := a } := by
  unfold queryAim
  simp only
  split
  · split <;> exact ⟨_, rfl⟩
  · exact ⟨_, rfl⟩

theorem admitSources_frame (s : Station) : ∃ a, admitSources s = { s with sanding := a } := ⟨_, rfl⟩

theorem pipeFull_frame (x : Axle) (s : Station) :
    ∃ d p m, pipeFull x s = { s with sanders := d, port := p, map := m } := by
  unfold pipeFull
  simp only
  split
  · exact enterFlowing_frame x s
  · exact ⟨_, _, _, rfl⟩

theorem tailEmpty_frame (x : Axle) (s : Station) : ∃ d, tailEmpty x s = { s with sanders := d } := by
  unfold tailEmpty; simp only; split <;> exact ⟨_, rfl⟩

theorem restExpiry_frame (x : Axle) (s : Station) : ∃ d, restExpiry x s = { s with sanders := d } := by
  unfold restExpiry; simp only; split <;> exact ⟨_, rfl⟩

theorem dutyLimit_frame (x : Axle) (s : Station) : ∃ d, dutyLimit x s = { s with sanders := d } := by
  unfold dutyLimit
  simp only
  split
  · split
    · exact ⟨_, rfl⟩
    · obtain ⟨d, h⟩ := tailNow_frame x (setSander s x { sanderAt s x with restOwed := true })
      exact ⟨d, h⟩
  · exact ⟨_, rfl⟩

theorem dosingPeriodStart_frame (x : Axle) (s : Station) : ∃ d, dosingPeriodStart x s = { s with sanders := d } := by
  unfold dosingPeriodStart
  simp only
  split
  · split <;> exact ⟨_, rfl⟩
  · exact ⟨_, rfl⟩

theorem reopen_frame (x : Axle) (s : Station) : ∃ d, reopen x s = { s with sanders := d } := by
  unfold reopen
  simp only
  split
  · split <;> exact ⟨_, rfl⟩
  · exact ⟨_, rfl⟩

theorem runSander_frame (x : Axle) (s : Station) :
    ∃ d p m, runSander x s = { s with sanders := d, port := p, map := m } := by
  have tail : ∃ d p m, tailNow x s = { s with sanders := d, port := p, map := m } := by
    obtain ⟨d, h⟩ := tailNow_frame x s; exact ⟨d, _, _, h⟩
  unfold runSander
  simp only
  split
  · split <;> exact ⟨_, _, _, rfl⟩
  · split
    · exact tail
    · exact pipeFull_frame x s
  · split
    · exact tail
    · obtain ⟨d, h⟩ := dosingPeriodStart_frame x s
      obtain ⟨d2, h2⟩ := reopen_frame x (dosingPeriodStart x s)
      rw [h2, h]
      exact ⟨d2, _, _, rfl⟩
  · split
    · exact ⟨_, _, _, rfl⟩
    · obtain ⟨d, h⟩ := tailEmpty_frame x s; exact ⟨d, _, _, h⟩
  · split
    · exact ⟨_, _, _, rfl⟩
    · obtain ⟨d, h⟩ := restExpiry_frame x s; exact ⟨d, _, _, h⟩

/-- R86: what a sander decision can change. -/
theorem sanderDecision_frame (s : Station) :
    ∃ a d f p m, sanderDecision s = { s with sanding := a, sanders := d, faults := f, port := p, map := m } := by
  unfold sanderDecision
  simp only
  obtain ⟨d1, f1, h1⟩ := advanceSander_frame .a { s with sanding := { s.sanding with lastDecision := s.time } }
  rw [h1]
  obtain ⟨d2, f2, h2⟩ := advanceSander_frame .b
    { s with sanding := { s.sanding with lastDecision := s.time }, sanders := d1, faults := f1 }
  rw [h2]
  obtain ⟨d3, p3, m3, h3⟩ := recordNewCell_frame .a
    { s with sanding := { s.sanding with lastDecision := s.time }, sanders := d2, faults := f2 }
  rw [h3]
  obtain ⟨d4, p4, m4, h4⟩ := recordNewCell_frame .b
    { s with sanding := { s.sanding with lastDecision := s.time }, sanders := d3, faults := f2, port := p3, map := m3 }
  rw [h4]
  obtain ⟨a5, h5⟩ := dropPassedAim_frame
    { s with sanding := { s.sanding with lastDecision := s.time }, sanders := d4, faults := f2, port := p4, map := m4 }
  rw [h5]
  obtain ⟨a6, h6⟩ := queryAim_frame { s with sanding := a5, sanders := d4, faults := f2, port := p4, map := m4 }
  rw [h6]
  obtain ⟨a7, h7⟩ := admitSources_frame { s with sanding := a6, sanders := d4, faults := f2, port := p4, map := m4 }
  rw [h7]
  obtain ⟨d8, p8, m8, h8⟩ := runSander_frame .a { s with sanding := a7, sanders := d4, faults := f2, port := p4, map := m4 }
  rw [h8]
  obtain ⟨d9, p9, m9, h9⟩ := runSander_frame .b { s with sanding := a7, sanders := d8, faults := f2, port := p8, map := m8 }
  rw [h9]
  exact ⟨_, _, _, _, _, rfl⟩

theorem sandEmpty_frame (x : Axle) (s : Station) : ∃ d f, sandEmpty x s = { s with sanders := d, faults := f } := by
  unfold sandEmpty
  simp only
  obtain ⟨d, f, h⟩ := noteEmpty_frame x (setSander s x (settleBox s.time (sanderAt s x)))
  rw [h]
  split
  · obtain ⟨d2, h2⟩ := tailNow_frame x { setSander s x (settleBox s.time (sanderAt s x)) with sanders := d, faults := f }
    exact ⟨d2, f, h2⟩
  · exact ⟨_, _, rfl⟩

/-- R102: what a FILLED can change at the sander control. -/
theorem takeFilled_frame (x : Axle) (n : Nat) (s : Station) :
    ∃ d f, takeFilled x n s = { s with sanders := d, faults := f } := by
  have tail : ∀ t : Station, ∃ d, tailNow x t = { t with sanders := d } := tailNow_frame x
  unfold takeFilled
  simp only
  split
  · split
    · obtain ⟨d, h⟩ := tail (report .sandEmpty (some x) none
        (setSander (setSander s x (fillBox s.time (filledMg s.figs n) (sanderAt s x))) x
          { sanderAt (setSander s x (fillBox s.time (filledMg s.figs n) (sanderAt s x))) x with emptyReported := true }))
      exact ⟨d, _, h⟩
    · obtain ⟨d, h⟩ := tail (setSander s x (fillBox s.time (filledMg s.figs n) (sanderAt s x)))
      exact ⟨d, _, h⟩
  · exact ⟨_, _, rfl⟩

/-! ## Blend event -/

theorem escalationExpiry_frame (s : Station) : ∃ b, escalationExpiry s = { s with blend := b } := by
  unfold escalationExpiry; split <;> exact ⟨_, rfl⟩

theorem mtbReleaseExpiry_frame (s : Station) : ∃ b, mtbReleaseExpiry s = { s with blend := b } := by
  unfold mtbReleaseExpiry; split <;> exact ⟨_, rfl⟩

theorem trackBrakeStep_frame (s : Station) : ∃ b, trackBrakeStep s = { s with blend := b } := by
  have up : ∃ b, escalationTest s = { s with blend := b } := by
    unfold escalationTest
    generalize runTimer 20 (s.plug.trackBrake && escalationCondition s) s.blend.escalation = e
    obtain ⟨b, h⟩ := escalationExpiry_frame { s with blend := { s.blend with release := none, escalation := e } }
    exact ⟨b, h⟩
  have down : ∃ b, releaseTest s = { s with blend := b } := by
    unfold releaseTest
    split
    · exact ⟨_, rfl⟩
    · generalize runTimer 20 (releaseCondition s) s.blend.release = e
      obtain ⟨b, h⟩ := mtbReleaseExpiry_frame { s with blend := { s.blend with escalation := none, release := e } }
      exact ⟨b, h⟩
  have emer : ∃ b, emergencyTest s = { s with blend := b } := by
    unfold emergencyTest
    split
    · exact ⟨_, rfl⟩
    · split <;> exact ⟨_, rfl⟩
  unfold trackBrakeStep
  split
  · split
    · exact up
    · exact down
  · split
    · exact up
    · exact down
  · exact emer
  · exact ⟨_, rfl⟩
  · exact ⟨_, rfl⟩
  · exact ⟨_, rfl⟩
  · exact ⟨_, rfl⟩

theorem makeUpStep_frame (s : Station) : ∃ m, makeUpStep s = { s with makeUp := m } := by
  unfold makeUpStep; split <;> exact ⟨_, rfl⟩

/-- R111: a blend event changes the blend unit and the make-up unit alone. -/
theorem blendEvent_frame (s : Station) : ∃ b m, blendEvent s = { s with blend := b, makeUp := m } := by
  unfold blendEvent
  simp only
  obtain ⟨b, h⟩ := trackBrakeStep_frame { s with blend := { s.blend with lastBlend := s.time } }
  rw [h]
  obtain ⟨m, h2⟩ := makeUpStep_frame (forceStep (massStep { s with blend := b }))
  rw [h2]
  exact ⟨_, _, rfl⟩

theorem loweringExpiry_frame (s : Station) : ∃ b f, loweringExpiry s = { s with blend := b, faults := f } := by
  unfold loweringExpiry
  split
  · split <;> exact ⟨_, _, rfl⟩
  · exact ⟨_, _, rfl⟩

theorem shoeDelivered_frame (l : ShoeLevel) (s : Station) : ∃ b f, shoeDelivered l s = { s with blend := b, faults := f } := by
  unfold shoeDelivered; split <;> exact ⟨_, _, rfl⟩

theorem settleGoverning_frame (c : CabEnd) (s : Station) :
    ∃ b f, settleGoverning c s = { s with blend := b, faults := f } := by
  unfold settleGoverning
  simp only
  split
  · split <;> exact ⟨_, _, rfl⟩
  · exact ⟨_, _, rfl⟩
  · exact ⟨_, _, rfl⟩
  · exact ⟨_, _, rfl⟩

/-! ## Trainline -/

theorem demandWake_frame (s : Station) : ∃ l p, demandWake s = { s with life := l, port := p } := by
  unfold demandWake
  split
  · split
    · exact ⟨_, _, rfl⟩
    · exact wake_frame s
  · exact ⟨_, _, rfl⟩

/-- R161: what an accepted DEMAND can change. -/
theorem acceptDemand_frame (c : CabEnd) (d : DemandContent) (q : BitVec 8) (s : Station) :
    ∃ o f b m h g p k r e l, acceptDemand c d q s =
      { s with port := o, faults := f, blend := b, makeUp := m, hold := h, sanding := g, pos := p, creep := k, cellRec := r,
               sanders := e, life := l } := by
  unfold acceptDemand
  obtain ⟨b, f, h1⟩ := settleGoverning_frame c (recordDemand c d q s)
  rw [h1]
  obtain ⟨b2, m, h, g, h2⟩ := evaluate_frame true { recordDemand c d q s with blend := b, faults := f }
  rw [h2]
  obtain ⟨p, k, r, a, e, h3⟩ := positionDemand_frame c d
    { recordDemand c d q s with blend := b2, faults := f, makeUp := m, hold := h, sanding := g }
  rw [h3]
  obtain ⟨l, o, h4⟩ := demandWake_frame
    { recordDemand c d q s with
      blend := b2, faults := f, makeUp := m, hold := h, sanding := a, pos := p, creep := k, cellRec := r, sanders := e }
  rw [h4]
  exact ⟨_, _, _, _, _, _, _, _, _, _, _, rfl⟩

/-- R162: what the announcement of demand silence can change. -/
theorem announceSilence_frame (s : Station) :
    ∃ f b m h g p e, announceSilence s =
      { s with port := { s.port with announced := true }, faults := f, blend := b, makeUp := m, hold := h, sanding := g,
               pos := p, sanders := e } := by
  have lost : ∀ t : Station, ∃ f, (if demandHeard t then report .demandLost none none t else t) = { t with faults := f } := by
    intro t; split <;> exact ⟨_, rfl⟩
  unfold announceSilence
  simp only
  obtain ⟨f, h1⟩ := lost { s with
    port := { s.port with announced := true }, blend := { s.blend with governing := none, conflict := false } }
  rw [h1]
  obtain ⟨b, m, h, g, h2⟩ := evaluate_frame false { s with
    port := { s.port with announced := true }, blend := { s.blend with governing := none, conflict := false }, faults := f }
  rw [h2]
  obtain ⟨p, e, h3⟩ := deadReckon_frame { s with
    port := { s.port with announced := true }, blend := b, faults := f, makeUp := m, hold := h, sanding := g }
  rw [h3]
  exact ⟨_, _, _, _, _, _, _, rfl⟩

theorem duplicate_frame (s : Station) : ∃ p f m, duplicate s = { s with port := p, faults := f, makeUp := m } := by
  unfold duplicate; split <;> exact ⟨_, _, _, rfl⟩

theorem acceptStatus_frame (n : Nat) (c : StatusContent) (q : BitVec 8) (s : Station) :
    ∃ p m, acceptStatus n c q s = { s with port := p, makeUp := m } := by
  unfold acceptStatus; simp only; split <;> exact ⟨_, _, rfl⟩

theorem peerSilent_frame (n : Nat) (s : Station) : ∃ p m, peerSilent n s = { s with port := p, makeUp := m } := by
  unfold peerSilent; split <;> exact ⟨_, _, rfl⟩

theorem peerLost_frame (n : Nat) (s : Station) : ∃ p f, peerLost n s = { s with port := p, faults := f } := by
  unfold peerLost; split <;> exact ⟨_, _, rfl⟩

theorem railReport_frame (l : List Observation) (s : Station) : ∃ m, l.foldl mergePeerObs s = { s with map := m } := by
  induction l generalizing s with
  | nil => exact ⟨_, rfl⟩
  | cons o l ih =>
    obtain ⟨m, h⟩ := mergePeerObs_frame s o
    rw [List.foldl_cons, h]
    exact ih { s with map := m }

theorem contentionLost_frame (s : Station) :
    ∃ p m, contentionLost s = { s with port := p, map := { s.map with outbox := m } } := by
  unfold contentionLost
  split
  · exact ⟨_, _, rfl⟩
  · unfold returnStatus; split <;> exact ⟨_, _, rfl⟩
  · unfold returnClear; split <;> exact ⟨_, _, rfl⟩
  · unfold returnRail
    simp only
    split
    · rename_i f _ _ _
      obtain ⟨p, m, h⟩ := withdrawRail_frame { offLine s with port := { (offLine s).port with railSlot := some f } }
      exact ⟨p, m, h⟩
    · exact ⟨_, _, rfl⟩

theorem frameSent_frame (s : Station) : ∃ p m, frameSent s = { s with port := p, map := { s.map with outbox := m } } := by
  unfold frameSent
  split
  · exact ⟨_, _, rfl⟩
  · exact ⟨_, _, rfl⟩
  · exact ⟨_, _, rfl⟩
  · obtain ⟨p, m, h⟩ := buildRail_frame (dropSent (offLine s))
    exact ⟨p, m, h⟩

theorem lineFreeOffer_frame (s : Station) : ∃ p, lineFreeOffer s = { s with port := p } := by
  unfold lineFreeOffer; split <;> exact ⟨_, rfl⟩

/-! ## Bogie link -/

theorem inverterSilence_frame (s : Station) : ∃ k f, inverterSilence s = { s with link := k, faults := f } := by
  unfold inverterSilence
  simp only
  split
  · split <;> exact ⟨_, _, rfl⟩
  · exact ⟨_, _, rfl⟩

theorem brakeSilence_frame (s : Station) : ∃ k f, brakeSilence s = { s with link := k, faults := f } := by
  unfold brakeSilence
  simp only
  split
  · split <;> exact ⟨_, _, rfl⟩
  · exact ⟨_, _, rfl⟩

/-- R178: what a delivery of the emergency loop can change. -/
theorem loopDelivery_frame (s : Station) :
    ∃ k b m h g l p, loopDelivery s =
      { s with link := k, blend := b, makeUp := m, hold := h, sanding := g, life := l, port := p } := by
  unfold loopDelivery
  split
  · obtain ⟨b, m, h, g, e⟩ := evaluate_frame false
      { s with link := { s.link with loop := { s.link.loop with delivered := some s.link.loop.raw } } }
    rw [e]
    obtain ⟨l, p, e2⟩ := wake_frame { s with
      link := { s.link with loop := { s.link.loop with delivered := some s.link.loop.raw } }
      blend := b, makeUp := m, hold := h, sanding := g }
    exact ⟨_, _, _, _, _, l, p, e2⟩
  · exact ⟨_, _, _, _, _, _, _, rfl⟩

theorem shoeDelivery_frame (s : Station) : ∃ k b f, shoeDelivery s = { s with link := k, blend := b, faults := f } := by
  unfold shoeDelivery
  simp only
  split
  · split
    · obtain ⟨b, f, h⟩ := shoeDelivered_frame s.link.shoe.raw
        { s with link := { s.link with shoe := { s.link.shoe with delivered := some s.link.shoe.raw } } }
      exact ⟨_, b, f, h⟩
    · exact ⟨_, _, _, rfl⟩
  · exact ⟨_, _, _, rfl⟩

theorem hillStartExpiry_frame (s : Station) : ∃ h f, hillStartExpiry s = { s with hold := h, faults := f } := by
  unfold hillStartExpiry
  split
  · split <;> exact ⟨_, _, rfl⟩
  · exact ⟨_, _, rfl⟩

/-! ## Service connector -/

/-- R185: a request whose sum is right and whose length fits is taken. -/
theorem taken_good (code : Byte) (r : Request) (f : Station → Station) (s : Station) (h : sumOk code r = true)
    (hl : argLength code.toNat = some r.args.length) : taken code r f s = f s := by simp [taken, h, hl]

/-- R185: a request with a wrong sum is discarded unanswered. -/
theorem taken_badSum (code : Byte) (r : Request) (f : Station → Station) (s : Station) (h : sumOk code r = false) :
    taken code r f s = { s with reply := none } := by simp [taken, h]

/-- R185: a request of unknown code or wrong length is answered BAD_REQUEST. -/
theorem taken_badLength (code : Byte) (r : Request) (f : Station → Station) (s : Station) (h : sumOk code r = true)
    (hl : argLength code.toNat ≠ some r.args.length) : taken code r f s = answerCode code .badRequest s := by
  simp [taken, h, hl]

/-- The three cases of a service request. -/
theorem taken_cases (code : Byte) (r : Request) (f : Station → Station) (s : Station) :
    taken code r f s = f s ∨ ∃ q, taken code r f s = { s with reply := q } := by
  unfold taken
  split
  · exact .inr ⟨_, rfl⟩
  · split
    · exact .inl rfl
    · exact .inr ⟨_, rfl⟩

theorem serviceClear_frame (g : Granularity) (s : Station) :
    ∃ p m d, serviceClear g s = { s with port := p, map := m, sanding := d } := by
  unfold serviceClear
  simp only
  obtain ⟨p, m, d, h⟩ := takeClear_frame (nextClearId s) g s
  rw [h]
  exact ⟨_, _, _, rfl⟩

end Sys2Proof.Machine
end

