-- ==== Sys2Proof/WellFormed.lean ====
section
/-! DEFINITION. Which commands the outside can send at all. A frame or request that the station CHECKS and discards is
well-formed; what is ruled out here is what no sender of the spec can produce. -/

namespace Sys2Proof

/-- The line delivers as many content bits as the header's length field names (R158). -/
def frameWellFormed (f : Frame) : Bool := f.bits.length == 8 * f.length.toNat

/-- The code plug straps d1 from 0 to 100,000 mm in steps of 100 mm (chapter 3). -/
def plugWellFormed (p : CodePlug) : Bool := decide (p.d1 ≤ 100000) && p.d1 % 100 == 0

/-- A BAD_REQUEST row is a request whose command code is not 1 to 10 (R184). -/
def codeUnknown (code : Byte) : Bool := code.toNat == 0 || decide (10 < code.toNat)

/-- The commands that a sender of the spec can send. -/
def Instr.wellFormed : Instr → Bool
  | .powerOnStart plug _ _ => plugWellFormed plug
  | .restart _ plug _ => plugWellFormed plug
  | .demandArrival f => frameWellFormed f
  | .statusArrival f => frameWellFormed f
  | .railReportArrival f => frameWellFormed f
  | .mapClearArrival f => frameWellFormed f
  | .badRequest code _ => codeUnknown code
  | .supplyLoss | .wheelSpeedEdge _ _ | .speedSample | .sanderDecision | .blendEvent | .sweep | .statusBuild
  | .demandSilence | .peerRecordSilent _ | .peerLost _ | .contentionLost | .frameSent | .lineFreeOffer
  | .statusSlotExpiry | .outboxExpiry | .inverterReport _ | .brakeUnitReport _ | .plantSilenceExpiry _
  | .emergencyLoopChange _ | .emergencyLoopDelivery | .shoeDownSensorChange _ | .shoeDownDelivery
  | .loweringTimerExpiry | .hillStartTimerExpiry | .storeWriteEnd | .readStatus _ | .readFaults _ | .clearFault _
  | .clearAllFaults _ | .clearOverflow _ | .readMap _ | .clearMap _ | .filled _ | .writeCommissioning _
  | .extrapolationBudgetSpent | .sensorSilenceExpiry _ | .trimStep _ | .calmTimerExpiry _ | .slipPersistent _
  | .recoveryHoldExpiry _ | .lockTimerExpiry _ | .wheelLock _ | .releaseTimerExpiry _ | .reslipCeilingExpiry _
  | .deadReckoningLimit | .pipeFull _ | .tailEmpty _ | .dutyLimit _ | .restExpiry _ | .dosingPeriodStart _
  | .openTimeEnd _ | .slipHoldExpiry | .hillStartSandingExpiry | .sandEmpty _ | .escalationTimerExpiry
  | .trackBrakeReleaseExpiry | .standstill | .rollbackTimerExpiry | .parkTimerExpiry | .wheelMovementWake => true

end Sys2Proof
end

