-- ==== Sys2Proof/Tests/Slice0.lean ====
section
/-! SUPPORT. Tests: commands that no sender can send, one or two small checks a command with figures worked out in the spec
or by hand from its rules, and for every statement with hypotheses a witness for each of its clauses. -/

namespace Sys2Proof.Tests

-- Each `decide +kernel` waits for the theorems before it; elaborating them side by side would take a thread for each.
set_option Elab.async false

open Sys2Proof.Machine

/-- A command answers a next state, whose station passes a check. -/
def gives (c : Instr) (z : Station) (p : Station → Bool) : Bool :=
  match exec c ⟨[], z⟩ with
  | .next t => p t.station
  | .fault _ | .refused _ => false

/-- A service request with its right sum. -/
def req (code : Byte) (args : List Byte) : Request := ⟨args, byteSum (code :: args)⟩

def z0 : Station := resetStation

/-! ## WellFormed: commands that no sender of the spec can send -/

theorem test_wf_frame_length : Instr.wellFormed (.demandArrival ⟨8, 0, 6, []⟩) = false := by decide
theorem test_wf_status_length : Instr.wellFormed (.statusArrival ⟨1, 0, 28, [true]⟩) = false := by decide
theorem test_wf_rail_length : Instr.wellFormed (.railReportArrival ⟨1, 0, 4, []⟩) = false := by decide
theorem test_wf_clear_length : Instr.wellFormed (.mapClearArrival ⟨1, 0, 6, []⟩) = false := by decide
theorem test_wf_plug_far : Instr.wellFormed (.powerOnStart ⟨0, .motor, false, 100100, false⟩ .clean .clean) = false := by decide
theorem test_wf_plug_step : Instr.wellFormed (.restart (req 10 []) ⟨0, .motor, false, 150, false⟩ .clean) = false := by decide
theorem test_wf_known_code : Instr.wellFormed (.badRequest 10 (req 10 [])) = false := by decide
theorem test_wf_unknown_code : Instr.wellFormed (.badRequest 11 (req 11 [])) = true := by decide

/-! ## The step, the starts, the store -/

/-- Findings of one kind alone. -/
def corrected : EccFinding := ⟨true, false⟩
def uncorrectable : EccFinding := ⟨false, true⟩

theorem test_step_front : step ⟨[.sweep, .statusBuild], z0⟩ = exec .sweep ⟨[.statusBuild], z0⟩ := rfl

/-- A running station at a moment at which nothing falls. -/
def quiet : Station :=
  { z0 with lastSample := 0, sanding := { z0.sanding with lastDecision := 0 }, blend := { z0.blend with lastBlend := 0 } }

def dark : Station := { z0 with life := .off }

theorem test_witness_EmptyQueueAndNoSupply :
    running dark = false ∧ (running z0 = true ∧ dueEvents z0 ≠ []) ∧
    (running quiet = true ∧ dueEvents quiet = [] ∧ ({ quiet with subMs := 998 } : Station).subMs < 999) ∧
    (dueEvents { quiet with subMs := 999 } = [] ∧ 999 ≤ ({ quiet with subMs := 999 } : Station).subMs) ∧
    running { z0 with life := .start } = false := by decide +kernel

/-- R182: the first sample, decision and blend event fall at the entry to RUN. -/
theorem test_due_at_entry : dueEvents z0 = [.speedSample, .sanderDecision, .blendEvent] := by decide +kernel

theorem test_witness_PowerOnStart :
    dark.life = .off ∧
    gives (.powerOnStart resetPlug uncorrectable uncorrectable) dark (fun t =>
      t.store.comm.ecc == uncorrectable && t.store.run.ecc == uncorrectable) = true ∧
    gives (.powerOnStart resetPlug corrected .clean) dark (fun t =>
      t.store.comm.ecc != uncorrectable && t.store.run.ecc != uncorrectable) = true := by decide +kernel

/-- R182: a block with words of both kinds gives both faults, and a corrected finding stands until a write replaces the block. -/
theorem test_power_on_both_findings :
    gives (.powerOnStart resetPlug ⟨true, true⟩ .clean) dark (fun t => t.faults.records.filterMap id ==
      [⟨.storeCorrected, none, none, 0, 0, 1, some .commissioning⟩, ⟨.storeInvalid, none, none, 0, 0, 1, some .commissioning⟩]) = true ∧
    gives (.restart (req 10 []) resetPlug uncorrectable) { z0 with store := { z0.store with comm := { z0.store.comm with ecc := corrected } } }
      (fun t => t.store.comm.ecc == ⟨true, true⟩ && t.degraded && (t.faults.records.filterMap id).length == 2) = true := by decide +kernel

/-- R182, R180: both blocks with corrected words give one STORE_CORRECTED with the detail BOTH. -/
theorem test_power_on_faults :
    gives (.powerOnStart resetPlug corrected corrected) dark (fun t =>
      t.faults.records.filterMap id == [⟨.storeCorrected, none, none, 0, 0, 1, some .both⟩] && t.life == .run) = true := by
  decide +kernel

/-- R182: a DEGRADED start takes the default figures, and the estimates of a lost running block stand at the reserve. -/
theorem test_power_on_degraded :
    gives (.powerOnStart resetPlug uncorrectable uncorrectable) dark (fun t =>
      t.degraded && t.figs.teeth == 90 && t.figs.mapDepth == 256 && t.sanders.a.box == 2000000
        && t.figs.windows.all (fun w => !w.enabled)) = true := by decide +kernel

/-- A station with a running save in progress. -/
def saving : Station := { z0 with store := { z0.store with write := some (.running ⟨3, -3⟩ ⟨5, 6⟩ 0) } }

/-- A station with a commissioning write in progress. -/
def writing : Station := { z0 with store := { z0.store with write := some (.commissioning [1] 0) } }

theorem test_witness_Restart :
    (running saving = true ∧ sumOk 10 (req 10 []) = true ∧ (req 10 []).args = [] ∧ saving.store.write ≠ none) ∧
    (running z0 = true ∧ z0.store.write = none) ∧
    gives (.restart (req 10 []) resetPlug .clean) z0 (fun t => t.store.comm.ecc == .clean) = true ∧
    gives (.restart (req 10 []) resetPlug corrected) z0 (fun t => t.store.comm.ecc == corrected) = true ∧
    gives (.restart (req 10 []) resetPlug uncorrectable) z0 (fun t => t.store.comm.ecc == uncorrectable) = true := by
  decide +kernel

theorem test_restart_busy :
    gives (.restart (req 10 []) resetPlug .clean) saving (fun t => t.reply == some ⟨10, .busy, .empty⟩) = true := by
  decide +kernel

/-- R187: a RESTART keeps the trims and the fault table. -/
theorem test_restart_keeps :
    gives (.restart (req 10 []) resetPlug .clean) { z0 with
      axles := put z0.axles .a { z0.axles.a with trim := 7 }, faults := recordFault emptyTable 0 none .demandLost none none }
      (fun t => t.axles.a.trim == 7 && t.faults.records.head? == some (some ⟨.demandLost, none, none, 0, 0, 1, none⟩)) = true := by
  decide +kernel

theorem test_witness_SupplyLossAndStoreWriteEnd :
    (z0.store.write = none ∧ running z0 = true) ∧
    (writing.store.write = some (.commissioning [1] 0) ∧ running writing = true ∧ writing.store.pendingSave = false) ∧
    (saving.store.write = some (.running ⟨3, -3⟩ ⟨5, 6⟩ 0) ∧ running saving = true) ∧
    ({ saving with store := { saving.store with pendingSave := true } } : Station).store.pendingSave = true := by decide +kernel

/-- R183: a loss of supply during a write leaves the block with uncorrectable words. -/
theorem test_supply_loss :
    gives .supplyLoss writing (fun t => t.store.comm.ecc == uncorrectable && t.store.run.ecc == .clean && t.life == .off) = true := by
  decide +kernel

theorem test_store_write_end :
    gives .storeWriteEnd saving (fun t => t.store.run == ⟨⟨3, -3⟩, ⟨5, 6⟩, .clean⟩ && t.store.write == none) = true := by
  decide +kernel

/-! ## Axle speed unit -/

theorem test_witness_WheelSpeedEdge : running z0 = true ∧ running { z0 with life := .parked } = true := by decide +kernel

/-- R1: a low level on track 2 is TOWARD END 1. -/
theorem test_wheel_speed_edge :
    gives (.wheelSpeedEdge .b .low) { z0 with timeUs := 7 } (fun t => t.axles.b.edges == [⟨7, true⟩] && t.axles.a.edges == []) = true := by
  decide +kernel

/-- The nineteen edges of the example of R3, spanning 97,405 µs; the newest stands at 97,405 µs. -/
def nineteen : List Edge := ((List.range 18).map fun i => ⟨BitVec.ofNat 32 (97405 - 5411 * i), true⟩) ++ [⟨0, true⟩]

def turning (l : List Edge) (now : Nat) : Station :=
  { z0 with timeUs := BitVec.ofNat 32 now, axles := put z0.axles .a { z0.axles.a with edges := l } }

/-- The example of R3: 3,999 mm/s. -/
theorem test_axle_speed :
    gives .speedSample (turning nineteen 97405) (fun t => t.axles.a.speed == 3999 && !t.axles.a.lowSpeed && t.axles.b.lowSpeed) = true := by
  decide +kernel

/-- R3: the edge at exactly 100,000 µs counts, one beyond does not; a change of direction ends the run. -/
theorem test_witness_SampleAxleSpeeds :
    (running (turning nineteen 97405) = true ∧ (pick (turning nineteen 97405).axles .a).edges = nineteen ++ [] ∧
      2 ≤ nineteen.length ∧ ∀ e ∈ nineteen, age (97405 : Micros) e.stamp ≤ 100000) ∧
    (let run : List Edge := [⟨100001, true⟩, ⟨1, true⟩]; let rest : List Edge := [⟨0, true⟩]
     (∀ e ∈ run, age (100001 : Micros) e.stamp ≤ 100000 ∧ run.head?.map (·.toEnd1) = some e.toEnd1) ∧
      (∀ e ∈ rest.head?, ¬ age (100001 : Micros) e.stamp ≤ 100000)) ∧
    (let run : List Edge := [⟨9, false⟩]; let rest : List Edge := [⟨8, true⟩]
     run.length < 2 ∧ (∀ e ∈ rest.head?, run ≠ [] ∧ run.head?.map (·.toEnd1) ≠ some e.toEnd1)) ∧
    (let rest : List Edge := [⟨0, true⟩]
     ([] : List Edge).length < 2 ∧ ∀ e ∈ rest.head?, ¬ age (200000 : Micros) e.stamp ≤ 100000) := by decide +kernel

/-- The example of R8. -/
theorem test_selection :
    selectCandidate .free .brake [5210, 5180, 4760, 5230] = 5230 ∧ selectCandidate .free .coast [5210, 5180, 4760, 5230] = 5180 ∧
    selectCandidate .free .drive [5210, 5180, 4760, 5230] = 4760 ∧
    selectCandidate .rollback .brake [5210, 5180, 4760, 5230] = 4760 := by decide

theorem test_witness_CandidateSelection :
    ([5210, 5180] : List Int) ≠ [] ∧ (HoldState.rollback = .rollback ∨ ServedMode.brake = .drive) ∧
    (HoldState.free ≠ .rollback ∧ HoldState.free ≠ .hillStart ∧ (ServedMode.emergency = .brake ∨ ServedMode.emergency = .emergency)) ∧
    (HoldState.holding ≠ .rollback ∧ HoldState.holding ≠ .hillStart ∧ ServedMode.hold = .hold) := by decide

/-- A station whose reference has a given status and speed, and whose axles are candidates or not. -/
def referring (st : RefStatus) (v change : Int) (extrap : Nat) (candidates : Bool) : Station :=
  { z0 with
    ref := { z0.ref with speed := v, status := st, lastChange := change, extrapTime := extrap, capApplied := false }
    axles := ⟨{ z0.axles.a with sensor := if candidates then .ok else .failed },
      { z0.axles.b with sensor := if candidates then .ok else .failed }⟩ }

def measured (z : Station) : Station := measure { z with lastSample := z.time }

theorem test_witness_SampleReference :
    (running (referring .tracking 40 0 0 true) = true ∧ candidateSet (measured (referring .tracking 40 0 0 true)) ≠ [] ∧
      z0.ref.heldFor = z0.pos.leadingEnd) ∧
    (candidateSet (measured (referring .unseeded 0 0 0 true)) ≠ []) ∧
    (candidateSet (measured (referring .uncertain 40 0 0 false)) = []) ∧
    (candidateSet (measured (referring .tracking 10 (-10) 0 false)) = [] ∧ ¬(0 < (10 : Int) ∧ 0 < (10 : Int) + -10)) ∧
    (candidateSet (measured (referring .extrapolating 40 (-3) 390 false)) = [] ∧ 390 + 5 < 400 ∧ 0 < (40 : Int) + -3) ∧
    (candidateSet (measured (referring .extrapolating 40 (-3) 395 false)) = [] ∧ 400 ≤ 395 + 5) ∧
    ({ z0 with ref := { z0.ref with heldFor := .end2 } } : Station).ref.heldFor ≠ z0.pos.leadingEnd := by decide +kernel

/-- R10: axles at 0 and a TRACKING reference of 40: the rate limit of 3,800 mm/s² lets it fall by 19 mm/s. -/
theorem test_reference_rate :
    gives .speedSample (referring .tracking 40 0 0 true) (fun t => t.ref.speed == 21 && t.ref.lastChange == -19) = true := by
  decide +kernel

/-- R13: an UNCERTAIN reference with a candidate seeds. -/
theorem test_reference_seed :
    gives .speedSample (referring .uncertain 4000 0 400 true) (fun t => t.ref.speed == 0 && t.ref.status == .tracking) = true := by
  decide +kernel

def learning (d : Deviation) (trim : Int) (n : Nat) : Station :=
  { z0 with axles := put z0.axles .b { z0.axles.b with learnSense := some d, learnTime := n, trim := trim } }

theorem test_witness_BudgetAndTrim :
    (running (referring .extrapolating 40 0 400 false) = true ∧ 400 ≤ (referring .extrapolating 40 0 400 false).ref.extrapTime) ∧
    (referring .extrapolating 40 0 395 false).ref.extrapTime < 400 ∧
    ((pick (learning .high 0 2000).axles .b).learnSense = some .high ∧ 2000 ≤ (pick (learning .high 0 2000).axles .b).learnTime) ∧
    ((pick (learning .low 80 2000).axles .b).learnSense = some .low ∧ 2000 ≤ (pick (learning .low 80 2000).axles .b).learnTime) ∧
    (pick (learning .low 0 1995).axles .b).learnTime < 2000 := by decide +kernel

theorem test_budget_spent :
    gives .extrapolationBudgetSpent (referring .extrapolating 40 0 400 false) (fun t =>
      t.ref.status == .uncertain && t.ref.capApplied && (t.faults.records.filterMap id).length == 1) = true := by decide +kernel

theorem test_trim_step_limit :
    gives (.trimStep .b) (learning .low 80 2000) (fun t => t.axles.b.trim == 80 && t.axles.b.learnTime == 0) = true ∧
    gives (.trimStep .b) (learning .high 80 2000) (fun t => t.axles.b.trim == 79) = true := by decide +kernel

/-- Twenty-one edges `d` µs apart, the newest at 99,000 µs: 21,642,000 / d mm/s with wheels of 620 mm and 90 teeth. -/
def evenly (d : Nat) : List Edge := (List.range 21).filterMap fun i => if d * i ≤ 99000 then some ⟨BitVec.ofNat 32 (99000 - d * i), true⟩ else none

/-- The axle units with edges `da` and `db` µs apart. -/
def wheels (da db : Nat) : PerAxle AxleUnit := ⟨{ z0.axles.a with edges := evenly da }, { z0.axles.b with edges := evenly db }⟩

/-- COAST in FREE at 5,000 mm/s on the level, three FRESH peers' candidates at 5,000, axle A at 5,020 with a timer. -/
def learningTram (sense : Option Deviation) (n : Nat) : Station :=
  let c : StatusContent := { statusContent z0 with candidate := ⟨true, true⟩, forward := ⟨5000, 5000⟩ }
  { z0 with
    timeUs := 99000, axles := put (wheels 4311 4328) .a { (wheels 4311 4328).a with learnSense := sense, learnTime := n }
    ref := { z0.ref with speed := 5000, status := .tracking }, pos := { z0.pos with state := .valid }
    blend := { z0.blend with effMode := .coast, served := .coast, accel := none }, hold := { z0.hold with state := .free }
    port := { z0.port with peers := (z0.port.peers.set 1 ⟨.fresh, some ⟨c, 0, 1⟩⟩).set 2 ⟨.fresh, some ⟨c, 0, 1⟩⟩ } }

/-- R14, R15: at a sample the timer starts, runs, moves the trim at 2,000 ms; a rise of 10‰ or a lost position stops it. -/
theorem test_witness_Learning :
    (running (learningTram none 0) = true ∧ lowerMedian (candidateSet (measured (learningTram none 0))) = 5000 ∧
      ((5020 - 5000) * 1000 : Int).tdiv 5000 = 4) ∧
    gives .speedSample (learningTram none 0) (fun t => t.axles.a.learnSense == some .high && t.axles.a.learnTime == 0) = true ∧
    gives .speedSample (learningTram (some .high) 1990) (fun t => t.axles.a.learnTime == 1995 && t.axles.a.trim == 0) = true ∧
    gives .speedSample (learningTram (some .high) 1995) (fun t => t.axles.a.learnTime == 0 && t.axles.a.trim == -1) = true ∧
    gives .speedSample (learningTram (some .low) 1995) (fun t => t.axles.a.learnTime == 0 && t.axles.a.trim == 0) = true ∧
    gives .speedSample { learningTram (some .high) 1995 with pos := z0.pos } (fun t => t.axles.a.learnSense == none && t.axles.a.trim == 0) = true := by
  decide +kernel

/-- Axle A silent for `n` ms beside a partner at `v` mm/s, in COAST and FREE. -/
def silentAxle (n : Nat) (v : Int) : Station :=
  { z0 with
    time := BitVec.ofNat 32 n
    axles := put z0.axles .b { z0.axles.b with speed := v }
    blend := { z0.blend with effMode := .coast, served := .coast, accel := none }
    hold := { z0.hold with state := .free } }

/-- Axle A in LOCKED with its flag and release timer. -/
def lockedAxle (n : Nat) (partner : SensorStatus) : Station :=
  { z0 with
    axles := put z0.axles .b { z0.axles.b with sensor := partner }
    creep := put z0.creep .a { z0.creep.a with state := .locked, limit := 0, wheelLock := true, release := some n } }

theorem test_witness_SensorFailure :
    (running (silentAxle 1000 2001) = true ∧ 1000 ≤ age (silentAxle 1000 2001).time z0.axles.a.quietSince ∧
      2000 < (silentAxle 1000 2001).axles.b.speed.natAbs ∧ (silentAxle 1000 2001).blend.served = .coast ∧
      (silentAxle 1000 2001).hold.state ≠ .rollback) ∧
    (age (silentAxle 999 2001).time z0.axles.a.quietSince < 1000 ∧ (silentAxle 1000 2000).axles.b.speed.natAbs ≤ 2000 ∧
      z0.blend.served = .lineLoss) ∧
    ((pick (lockedAxle 1000 .ok).creep .a).state = .locked ∧ (pick (lockedAxle 1000 .ok).creep .a).wheelLock = true ∧
      (pick (lockedAxle 1000 .ok).creep .a).release = some 1000 ∧ (pick (lockedAxle 1000 .ok).axles .b).sensor = .ok) ∧
    (∀ n ∈ (pick (lockedAxle 999 .ok).creep .a).release, n < 1000) ∧
    (pick (lockedAxle 1000 .failed).axles .b).sensor = .failed ∧
    (z0.axles.a.sensor = .ok ∧ z0.axles.b.sensor = .ok ∧ (pick z0.creep .a).release = none) := by decide +kernel

theorem test_sensor_silence :
    gives (.sensorSilenceExpiry .a) (silentAxle 1000 2001) (fun t => t.axles.a.sensor == .failed && t.axles.b.sensor == .ok) = true ∧
    gives (.sensorSilenceExpiry .a) (silentAxle 1000 2000) (fun t => t.axles.a.sensor == .ok) = true := by decide +kernel

/-- R17, R41: the failed axle follows its partner from the row itself on. -/
theorem test_sensor_silence_follows :
    gives (.sensorSilenceExpiry .a) { silentAxle 1000 2001 with creep := put z0.creep .b { z0.creep.b with state := .regulating, limit := 7000 } }
      (fun t => t.creep.a.state == .regulating && t.creep.a.limit == 7000) = true := by decide +kernel

/-- R44, R41: the failed axle takes its partner's state and limit; two failed axles stand at 300‰ of 40,000 N. -/
theorem test_release_timer :
    gives (.releaseTimerExpiry .a) (lockedAxle 1000 .ok) (fun t => t.axles.a.sensor == .failed && t.creep.a.state == .adhering
      && t.creep.a.limit == 40000) = true ∧
    gives (.releaseTimerExpiry .a) (lockedAxle 1000 .failed) (fun t => t.creep.a.limit == 12000 && t.creep.b.limit == 12000) = true := by
  decide +kernel


/-! ## Creep controller -/

/-- A braking station in FREE, TRACKING at 6,000 mm/s, demands 30,000 + 12,000 N on both axles, axle A in a given state. -/
def braking (c : AxleCreep) : Station :=
  { z0 with
    ref := { z0.ref with speed := 6000, status := .tracking, capApplied := false }
    creepDir := .braking, creep := ⟨c, z0.creep.b⟩
    blend := { z0.blend with axles := ⟨⟨42000, 42000, 30000, 12000⟩, ⟨42000, 42000, 30000, 12000⟩⟩ }
    hold := { z0.hold with state := .free } }

/-- The station with axle A at a forward speed. -/
def rollingAt (v : Int) (z : Station) : Station := { z with axles := put z.axles .a { z.axles.a with forward := v } }

/-- Axle A's record in a state with a limit and a state time. -/
def creepAt (st : CreepState) (limit n : Nat) : AxleCreep := { z0.creep.a with state := st, limit := limit, stateTime := n }

theorem z0_mode : ModeLaw z0 :=
  ⟨by decide +kernel, by decide +kernel, by decide +kernel, by decide +kernel, by decide +kernel⟩

theorem z0_hold : HoldLaw z0 :=
  ⟨by decide +kernel, by decide +kernel, fun h => absurd h (by decide +kernel), by decide +kernel⟩

theorem test_witness_SampleOrders :
    (running (braking z0.creep.a) = true ∧ (braking z0.creep.a).plug.kind = .motor) ∧
    running { z0 with plug := { z0.plug with kind := .trailer } } = true ∧
    gives .speedSample (braking z0.creep.a) (fun t => t.creep.b.state != .locked &&
      decide (t.creep.b.limit < demandElectric t .b + demandFriction t .b) && t.blend.served == .lineLoss) = true ∧
    gives .speedSample z0 (fun t => t.creep.a.state != .locked &&
      decide (demandElectric t .a + demandFriction t .a ≤ t.creep.a.limit)) = true ∧
    gives .speedSample (braking (creepAt .locked 0 0)) (fun t => t.creep.a.state == .locked) = true ∧
    ModeLaw z0 ∧ HoldLaw z0 := by
  exact ⟨by decide +kernel, by decide +kernel, by decide +kernel, by decide +kernel, by decide +kernel, z0_mode, z0_hold⟩

/-- R40: 42,000 N of demand under a limit of 40,000 N: the electric part gives way first. Axle B is at 0 mm/s under a
reference of 6,000 mm/s, so it slips: its limit falls to 700‰ of its peak of 0. -/
theorem test_orders_slip :
    gives .speedSample (braking z0.creep.a) (fun t => t.creep.b.electric == 0 && t.creep.b.friction == 0
      && t.creep.b.state == .slipping) = true := by decide +kernel

theorem test_order_cut : cutOrder 30000 12000 40000 = (28000, 12000) ∧ cutOrder 30000 12000 10000 = (0, 10000) := by decide

def failedPair (a b : SensorStatus) : Station :=
  { braking z0.creep.a with axles := ⟨{ z0.axles.a with sensor := a }, { z0.axles.b with sensor := b }⟩ }

theorem test_witness_SampleDirectionAndLimits :
    gives .speedSample z0 (fun t => t.hold.state == .holding && t.creepDir == .rest && t.axles.a.sensor == .ok) = true ∧
    gives .speedSample { z0 with hold := { z0.hold with state := .rollback } } (fun t => t.hold.state == .rollback) = true ∧
    gives .speedSample { z0 with hold := { z0.hold with state := .hillStart } } (fun t => t.hold.state == .hillStart) = true ∧
    gives .speedSample { z0 with hold := { z0.hold with state := .free }, blend := { z0.blend with served := .drive } }
      (fun t => t.hold.state == .free && t.blend.served == .drive) = true ∧
    gives .speedSample { z0 with hold := { z0.hold with state := .free }, blend := { z0.blend with served := .coast } }
      (fun t => t.hold.state == .free && t.blend.served == .coast) = true ∧
    gives .speedSample (braking z0.creep.a) (fun t => t.hold.state == .free && t.blend.served == .lineLoss
      && t.creepDir != .rest && t.axles.a.sensor == .ok) = true ∧
    gives .speedSample (failedPair .failed .failed) (fun t => t.axles.a.sensor == .failed && t.axles.b.sensor == .failed) = true ∧
    gives .speedSample (failedPair .ok .failed) (fun t => t.axles.a.sensor == .ok && t.axles.b.sensor == .failed) = true := by
  decide +kernel

/-- R41: two failed axles stand in ADHERING at 300‰ of 40,000 N. -/
theorem test_both_failed :
    gives .speedSample (failedPair .failed .failed) (fun t => t.creep.a.limit == 12000 && t.creep.b.state == .adhering) = true := by
  decide +kernel

/-- The braking station at 6,000 mm/s with axle A's record and its edges `d` µs apart, axle B at 6,000 mm/s (3,607 µs). At
6,000 mm/s the creep target is 240 and the slip threshold 720. -/
def sampled (d : Nat) (c : AxleCreep) : Station := { braking c with timeUs := 99000, axles := wheels d 3607 }

/-- The same with a demand of 20,000 N on axle A. -/
def eased (d : Nat) (c : AxleCreep) : Station :=
  { sampled d c with blend := { (sampled d c).blend with axles := ⟨⟨42000, 42000, 20000, 0⟩, ⟨42000, 42000, 20000, 0⟩⟩ } }

/-- What axle A holds after a sample. -/
def leaves (z : Station) (st : CreepState) (limit time : Nat) : Bool :=
  gives .speedSample z fun t => t.axles.a.sensor == .ok && t.creepDir == .braking && t.creep.a.state == st
    && t.creep.a.limit == limit && t.creep.a.stateTime == time

/-- R26 to R31, worked out by hand: creep 240 and 242 in ADHERING; 118 and 120 in REGULATING; the calm timer at 100 ms;
721 slips; 60 more than four samples ago slips into RECOVERING; RECOVERING at 195 and 200 ms; REAPPLYING to its goal. -/
theorem test_witness_MachineMoves :
    (running (sampled 3757 z0.creep.a) = true ∧ seeds (measured (sampled 3757 z0.creep.a)) = false ∧ z0.pos.change = none) ∧
    leaves (sampled 3757 (creepAt .adhering 9000 40)) .adhering 9100 45 = true ∧
    leaves (sampled 3758 (creepAt .adhering 9000 40)) .regulating 8750 0 = true ∧
    leaves (sampled 3679 (creepAt .regulating 9000 40)) .regulating 9100 45 = true ∧
    leaves (sampled 3680 (creepAt .regulating 9000 40)) .regulating 9000 45 = true ∧
    leaves (eased 3680 { creepAt .regulating 20000 40 with calm := some 95 }) .adhering 20000 0 = true ∧
    leaves (eased 3680 { creepAt .regulating 19999 40 with calm := some 95 }) .regulating 19999 45 = true ∧
    leaves (sampled 4099 { creepAt .reapplying 9000 40 with peaks := [10000] }) .slipping 7000 0 = true ∧
    leaves (sampled 3679 { creepAt .adhering 9000 40 with history := [58, 0, 0, 0] }) .recovering 0 0 = true := by decide +kernel

theorem test_witness_MachineRecovers :
    leaves (sampled 3758 (creepAt .recovering 9000 190)) .recovering 9000 195 = true ∧
    leaves (sampled 3757 (creepAt .recovering 9000 195)) .reapplying 9150 0 = true ∧
    leaves (sampled 3758 (creepAt .recovering 9000 195)) .regulating 8750 0 = true ∧
    leaves (sampled 4099 { creepAt .recovering 9000 195 with peaks := [10000] }) .slipping 7000 0 = true ∧
    leaves (eased 3757 (creepAt .reapplying 19800 40)) .reapplying 19950 45 = true ∧
    leaves (eased 3757 (creepAt .reapplying 19850 40)) .adhering 20000 0 = true ∧
    leaves (sampled 3757 (creepAt .slipping 9000 40)) .recovering 9000 0 = true ∧
    leaves (sampled 3758 (creepAt .slipping 9000 1490)) .slipping 9000 1495 = true ∧
    leaves (sampled 3758 (creepAt .slipping 9000 1495)) .slipping 0 1500 = true := by decide +kernel

/-- R42 to R44, R32, R33: an axle without edges enters LOCKED at 150 ms; it leaves at 3,000 mm/s and not at 2,999; a change
from TRACTION takes SLIPPING to RECOVERING; a third entry within 5 s sets the re-slip ceiling at 900‰ of the lowest peak. -/
theorem test_witness_MachineLocks :
    leaves (sampled 200000 { creepAt .adhering 9000 40 with lock := some 145, peaks := [10000] }) .locked 7000 0 = true ∧
    leaves (sampled 7214 (creepAt .locked 7000 40)) .recovering 7000 0 = true ∧
    leaves (sampled 7215 (creepAt .locked 7000 40)) .locked 7000 45 = true ∧
    leaves { sampled 3758 (creepAt .slipping 9000 40) with creepDir := .traction } .recovering 9000 0 = true ∧
    gives .speedSample (sampled 4099 { creepAt .adhering 9000 40 with peaks := [10000], reslips := [⟨0, 9000⟩, ⟨0, 9500⟩] }) (fun t =>
      t.creep.a.ceiling == some ⟨8100, 10000⟩ && t.sanding.reslipHold == some 10000 && t.sanding.slipHold == some 3000
        && t.creep.a.history == [721]) = true ∧
    (let z := { sampled 7215 { creepAt .locked 7000 795 with release := none } with
       link := { z0.link with brake := { z0.link.brake with state := .present, report := some ⟨true, ⟨0, 0⟩, ⟨9200, 9200⟩⟩ } } }
     gives .speedSample z (fun t => t.creep.a.wheelLock && t.creep.a.release == some 0 && t.creep.a.peaks == [0]) = true) := by
  decide +kernel

/-- The kinds a sample from `z` reports, by record. -/
def sampleReports (z : Station) (kinds : List FaultKind) : Bool :=
  gives .speedSample z fun t => (t.faults.records.filterMap id).map (·.kind) == kinds

/-- R12, R17, R29, R42, R44: the faults that the sample itself reports: 400 ms of extrapolation, an axle silent for 1,000 ms
beside a partner at 6,000 mm/s, 1,500 ms of SLIPPING, 800 ms of LOCKED, and a release timer at 1,000 ms; 5 ms short, none. -/
theorem test_witness_SampleReports :
    (let free := { z0.link with brake := { z0.link.brake with state := .present, report := some ⟨true, ⟨0, 0⟩, ⟨9200, 9200⟩⟩ } }
     let still (n : Nat) := { silentAxle n 0 with timeUs := 99000, axles := put (wheels 3607 3607) .a z0.axles.a }
     let locked (n : Nat) := { sampled 7215 { creepAt .locked 7000 1900 with wheelLock := true, release := some n } with link := free }
     (sampleReports (referring .extrapolating 40 (-3) 395 false) [.referenceUncertain] = true ∧
       sampleReports (referring .extrapolating 40 (-3) 390 false) [] = true) ∧
     (sampleReports (still 1000) [.speedSensor] = true ∧ sampleReports (still 999) [] = true ∧
       gives .speedSample (still 1000) (fun t => t.axles.a.sensor == .failed && t.axles.b.sensor == .ok) = true) ∧
     (sampleReports (sampled 3758 (creepAt .slipping 9000 1495)) [.slipPersistent] = true ∧
       sampleReports (sampled 3758 (creepAt .slipping 9000 1490)) [] = true) ∧
     (sampleReports { sampled 7215 (creepAt .locked 7000 795) with link := free } [.wheelLock] = true ∧
       sampleReports { sampled 7215 (creepAt .locked 7000 790) with link := free } [] = true) ∧
     (sampleReports (locked 995) [.speedSensor] = true ∧ sampleReports (locked 990) [] = true ∧
       gives .speedSample (locked 995) (fun t => t.axles.a.sensor == .failed && t.creep.a.state == t.creep.b.state) = true)) := by
  decide +kernel

/-- R22: a report of 1 N of electric braking and 2 N of friction applies 3 N; a LOST unit applies what was ordered. -/
theorem test_witness_AppliedForce :
    gives .speedSample { sampled 3757 (creepAt .adhering 9000 40) with
        link := { z0.link with
          inverter := { z0.link.inverter with state := .present, report := some ⟨true, ⟨-1, 0⟩, ⟨0, 0⟩, ⟨0, 0⟩⟩ }
          brake := { z0.link.brake with state := .present, report := some ⟨true, ⟨2, 0⟩, ⟨9200, 9200⟩⟩ } } }
      (fun t => t.creep.a.peaks == [3] && t.creep.b.peaks == [0]) = true ∧
    gives .speedSample (sampled 3757 { creepAt .adhering 9000 40 with electric := 40, friction := 2, peaks := [7] }) (fun t =>
      t.creep.a.peaks == [42, 7]) = true ∧
    gives .speedSample z0 (fun t => t.creepDir == .rest && t.creep.a.peaks == [0]) = true := by decide +kernel

/-- An axle whose ceiling under R33 expires at `n`. -/
def lockdown (n : Nat) : AxleCreep := { z0.creep.a with ceiling := some ⟨9000, BitVec.ofNat 32 n⟩ }

theorem test_witness_CreepTimers :
    (let c := { creepAt .regulating 42000 0 with calm := some 100 }
     c.state = .regulating ∧ c.calm = some 100 ∧ demandElectric (braking c) .a + demandFriction (braking c) .a ≤ c.limit) ∧
    (let c := { creepAt .regulating 41999 0 with calm := some 100 }
     c.limit < demandElectric (braking c) .a + demandFriction (braking c) .a) ∧
    (∀ n ∈ ({ creepAt .regulating 42000 0 with calm := some 95 }).calm, n < 100) ∧
    ((creepAt .recovering 9000 200).state = .recovering ∧ 200 ≤ (creepAt .recovering 9000 200).stateTime ∧
      creepNow (rollingAt 5280 (braking (creepAt .recovering 9000 200))) .a = 720 ∧ (720 : Nat) = max 300 (120 * 6000 / 1000) ∧
      (240 : Int) < 720 ∧ 720 < creepNow (rollingAt 5279 (braking (creepAt .recovering 9000 200))) .a) ∧
    (let z := rollingAt 5760 (braking (creepAt .recovering 9000 200))
     creepNow z .a ≤ 240 ∧ 9000 + 150 < min (demandElectric z .a + demandFriction z .a) (ceilingOf z .a)) ∧
    (creepAt .recovering 9000 195).stateTime < 200 ∧
    (let c := { creepAt .adhering 9000 0 with lock := some 150, peaks := [4000, 9000, 100] }
     c.state ≠ .locked ∧ c.lock = some 150 ∧ (∀ f ∈ c.peaks, f ≤ 9000) ∧ 9000 ∈ c.peaks) ∧
    (∀ n ∈ ({ creepAt .adhering 9000 0 with lock := some 145 }).lock, n < 150) ∧
    (before 10000 (10000 : Millis) = false ∧ before 9999 (10000 : Millis) = true ∧ (lockdown 10000).ceiling = some ⟨9000, 10000⟩) ∧
    ((creepAt .slipping 9000 1500).state = .slipping ∧ 1500 ≤ (creepAt .slipping 9000 1500).stateTime ∧
      (creepAt .slipping 9000 1500).slipReported = false) ∧ (creepAt .slipping 9000 1495).stateTime < 1500 ∧
    ((creepAt .locked 0 800).state = .locked ∧ 800 ≤ (creepAt .locked 0 800).stateTime ∧ (creepAt .locked 0 800).wheelLock = false) ∧
    (creepAt .locked 0 795).stateTime < 800 ∧ running (braking z0.creep.a) = true := by decide +kernel

theorem test_calm :
    gives (.calmTimerExpiry .a) (braking { creepAt .regulating 42000 40 with calm := some 100 }) (fun t =>
      t.creep.a.state == .adhering && t.creep.a.calm == none) = true := by decide +kernel

theorem test_recovery_hold :
    gives (.recoveryHoldExpiry .a) (rollingAt 5280 (braking (creepAt .recovering 9000 200))) (fun t =>
      t.creep.a.state == .regulating && t.creep.a.limit == 8750) = true ∧
    gives (.recoveryHoldExpiry .a) (rollingAt 5279 (braking (creepAt .recovering 9000 200))) (fun t =>
      t.creep.a.state == .recovering && t.creep.a.limit == 9000) = true := by decide +kernel

theorem test_lock_timer :
    gives (.lockTimerExpiry .a) (braking { creepAt .adhering 40000 0 with lock := some 150, peaks := [4000, 9000, 100] }) (fun t =>
      t.creep.a.state == .locked && t.creep.a.limit == 6300) = true := by decide +kernel

theorem test_reslip_ceiling :
    gives (.reslipCeilingExpiry .a) { braking (lockdown 10000) with time := 10000 } (fun t => t.creep.a.ceiling == none) = true ∧
    gives (.reslipCeilingExpiry .a) { braking (lockdown 10000) with time := 9999 } (fun t => t.creep.a.ceiling.isSome) = true := by
  decide +kernel

theorem test_slip_persistent :
    gives (.slipPersistent .a) (braking (creepAt .slipping 9000 1500)) (fun t => t.creep.a.limit == 0
      && t.faults.records.head? == some (some ⟨.slipPersistent, some .a, none, 0, 0, 1, none⟩)) = true := by decide +kernel

theorem test_wheel_lock :
    gives (.wheelLock .a) (braking (creepAt .locked 0 800)) (fun t => t.creep.a.wheelLock
      && t.faults.records.head? == some (some ⟨.wheelLock, some .a, none, 0, 0, 1, none⟩)) = true := by decide +kernel

/-! ## Position unit -/

/-- A station at a position with a reference that a failed pair of axles extrapolates at its slope. -/
def travelling (p : Nat) (st : PosState) (v : Int) (rem : Int) (reckoned : Nat) (sense : Sense) : Station :=
  { referring .uncertain v 0 400 false with
    pos := { z0.pos with station := p, state := st, remainder := rem, reckoned := reckoned, sense := sense } }

/-- The example of R50: 4,000 mm/s is 20 mm a sample; 150 mm/s with 250 µm carried is 1 mm exactly. -/
theorem test_odometry :
    gives .speedSample (travelling 1000 .valid 4000 0 0 .up) (fun t => t.pos.station == 1020 && t.pos.remainder == 0
      && t.pos.reckoned == 20) = true ∧
    gives .speedSample (travelling 1000 .valid 150 250 7 .down) (fun t => t.pos.station == 999 && t.pos.remainder == 0
      && t.pos.reckoned == 8) = true := by decide +kernel

theorem test_witness_SampleOdometry :
    (running (travelling 100000000 .valid 4000 0 0 .up) = true ∧ (100000000 : Int) < 100000000 + (4000 * 5 + 0 : Int).tdiv 1000) ∧
    ((0 : Int) - (4000 * 5 : Int).tdiv 1000 < 0) ∧ ((0 : Int) ≤ 1000 + 20 ∧ (1000 + 20 : Int) ≤ 100000000) ∧
    gives .speedSample (travelling 100000000 .valid 4000 0 499981 .up) (fun t => t.pos.station == 100000000 &&
      decide (500000 < t.pos.reckoned) && t.pos.state == .lost) = true ∧
    gives .speedSample (travelling 10 .valid 4000 5 499980 .down) (fun t => t.pos.station == 0 && t.pos.remainder == 0 &&
      decide (t.pos.reckoned ≤ 500000) && t.pos.state == .valid) = true := by decide +kernel

/-- Two windows over the blocks 500 to 501 and 501 to 502, with gradients of 20‰ and −30‰ and cells 5 lower. -/
def windowed : Commissioning := { z0.figs with windows := [⟨500, 501, 20, true, false, 1, 0, true⟩, ⟨501, 502, -30, false, true, 0, -5, true⟩] }

/-- R56 to R60: both ends of a window are in it, the lowest number governs, the rise turns with the sense; LOST has none. -/
theorem test_windows :
    (attrsAt windowed .valid .up 4999999).window = none ∧ (attrsAt windowed .valid .up 5000000).window = some 0 ∧
    (attrsAt windowed .valid .up 5019999).window = some 0 ∧ (attrsAt windowed .deadReckoning .down 5020000).window = some 1 ∧
    (attrsAt windowed .deadReckoning .down 5029999).rise = 30 ∧ (attrsAt windowed .valid .up 5029999).mapCell = some 1000 ∧
    (attrsAt windowed .valid .up 5030000).window = none ∧ (attrsAt windowed .lost .up 5000000).sandInhibit = true ∧
    shiftedCell 4 (-5) = none ∧ shiftedCell 5 (-5) = some 0 ∧ shiftedCell 19999 1 = none := by decide +kernel

theorem test_witness_Windows :
    gives .speedSample { travelling 5019980 .valid 4000 0 0 .up with figs := { windowed with wheelbase := 1800 } } (fun t =>
      t.pos.state == .valid && t.pos.attrStation.position == 5020000 && t.pos.attrStation.window == some 1
        && t.pos.attrSander.b.window == some 0) = true ∧
    gives .speedSample (travelling 5019980 .lost 4000 0 0 .up) (fun t => t.pos.attrLeading.window == none && t.pos.attrLeading.obsInhibit) = true := by
  decide +kernel

/-- R55: a block above 9,999, a stop below the start or a negative start disables a window; R176: crush not below empty. -/
theorem test_figures :
    ((loadFigures defaultFields).windows.length = 32 ∧ (loadFigures defaultFields).teeth = 90) ∧
    (loadWindow [0, 9999, 161, 1, 0, 3, -20001]) = ⟨0, 9999, 160, true, false, 3, -20000, true⟩ ∧
    (loadWindow [0, 10000, 0, 0, 0, 0, 0]).enabled = false ∧ (loadWindow [8, 7, 0, 0, 0, 0, 0]).enabled = false ∧
    (loadWindow [-1, 7, 0, 0, 0, 0, 0]).enabled = false ∧
    (loadFigures (defaultFields.set 261 5000)).crushLoad = 7500 := by decide +kernel

/-- A VALID position beyond or at the limit, with a pre-arm and the leading sander FLOWING. -/
def farGone (n : Nat) (emergency : Bool) : Station :=
  { travelling 5000 .valid 0 0 n .up with
    sanders := put z0.sanders .a { z0.sanders.a with state := .flowing, flowDelay := 300, pipe := 300 }
    sanding := { z0.sanding with aim := some ⟨3, 3⟩, admitted := { z0.sanding.admitted with emergency := emergency } } }

theorem test_witness_DeadReckoningLimit :
    (500000 < (farGone 500001 false).pos.reckoned ∧ (farGone 500001 false).pos.state ≠ .lost ∧ running (farGone 500001 false) = true ∧
      (farGone 500001 false).sanding.admitted.emergency = false ∧ (farGone 500001 false).sanding.admitted.rollback = false) ∧
    (farGone 500000 false).pos.reckoned ≤ 500000 ∧ (farGone 500001 true).sanding.admitted.emergency = true := by decide +kernel

theorem test_dead_reckoning_limit :
    gives .deadReckoningLimit (farGone 500001 false) (fun t => t.pos.state == .lost && t.sanding.aim == none
      && t.sanders.a.state == .tailing) = true ∧
    gives .deadReckoningLimit (farGone 500001 true) (fun t => t.sanders.a.state == .flowing) = true := by decide +kernel

/-- A DEMAND: mode, END2, DOWN, chainage valid, driver sand, acceleration, chainage. -/
def demandBits (mode : Nat) (end2 down valid sand : Bool) (accel : Int) (chainage : Nat) : List Bool :=
  natToBits 3 mode ++ [end2, down, valid, sand, false] ++ natToBits 16 (ofSigned 16 accel) ++ natToBits 24 chainage

/-- A DEMAND frame of cab END1 (8) or END2 (9). -/
def demand (sender : BitVec 4) (seq : BitVec 8) (bits : List Bool) : Frame := ⟨sender, seq, 6, bits⟩

/-- COAST, END1, UP, chainage 50,000 dm valid. -/
def coastDemand : Frame := demand 8 1 (demandBits 1 false false true false 0 50000)

/-- COAST from cab END2 naming END2 and DOWN. -/
def otherDemand : Frame := demand 9 1 (demandBits 1 true true true false 0 50000)

/-- A station that has taken an END1 frame at time 0, at 5,000 m and moving at `v`. -/
def anchored (v : Int) (now : Nat) : Station :=
  { travelling 5000000 .valid v 0 0 .up with
    time := BitVec.ofNat 32 now
    pos := { z0.pos with
      station := 5000000, state := .valid, endTaken := true, lastTaken := some ⟨.end1, 0⟩ } }

theorem test_witness_DemandAnchors :
    (checkDemand coastDemand = some (.end1, ⟨.coast, .end1, .up, true, false, 0, 50000⟩) ∧
      repeatsDemand z0 .end1 coastDemand.sequence = false ∧ running z0 = true ∧ z0.pos.lastTaken = none ∧
      z0.pos.endTaken = false ∧ z0.pos.state = .lost) ∧
    (checkDemand otherDemand = some (.end2, ⟨.coast, .end2, .down, true, false, 0, 50000⟩) ∧
      (anchored 300 99).pos.lastTaken = some ⟨.end1, 0⟩ ∧ age (anchored 300 99).time 0 < 100) ∧
    (100 ≤ age (anchored 300 100).time 0 ∧ 300 ≤ (anchored 300 100).ref.speed.natAbs ∧ (anchored 300 100).pos.endTaken = true) ∧
    (anchored 299 100).ref.speed.natAbs < 300 ∧
    (checkDemand (demand 8 1 (demandBits 1 false false false false 0 0)) = some (.end1, ⟨.coast, .end1, .up, false, false, 0, 0⟩)) ∧
    (2000 < ((5002100 : Int) - (anchored 0 0).pos.station).natAbs ∧ ¬ 2000 < ((5002000 : Int) - (anchored 0 0).pos.station).natAbs) := by
  decide +kernel

/-- R46, R48: chainage 50,000 dm with offset 0 is 5,000,000 mm; a competing frame changes nothing; a change while moving
waits. -/
theorem test_anchor :
    gives (.demandArrival coastDemand) z0 (fun t => t.pos.station == 5000000 && t.pos.state == .valid && t.pos.endTaken) = true ∧
    gives (.demandArrival otherDemand) (anchored 300 100) (fun t => t.pos.change == some ⟨.end2, .down⟩
      && t.pos.leadingEnd == .end1 && t.pos.state == .deadReckoning) = true := by decide +kernel

theorem test_competing :
    gives (.demandArrival otherDemand) (anchored 300 99) (fun t => t.pos == (anchored 300 99).pos) = true := by decide +kernel

/-! ## Rail condition map -/

def entry (c : Nat) (peak atLeast : Option TimedMu) (sanded : Option Millis) : MapEntry :=
  ⟨c, peak, atLeast, sanded, .own, .up, 1⟩

/-- A station whose map holds entries and whose outbox holds observations. -/
def mapped (now : Nat) (es : List MapEntry) (box : List OutboxItem) : Station :=
  { z0 with time := BitVec.ofNat 32 now, map := { z0.map with entries := es, outbox := box } }

/-- R71: a PEAK of 300,000 ms stays, a sanded part of 90,001 ms goes, and an entry without a part goes. -/
theorem test_sweep :
    gives .sweep (mapped 300000 [entry 1 (some ⟨90, 0⟩) none (some 209999), entry 2 none none (some 209999)] []) (fun t =>
      t.map.entries == [entry 1 (some ⟨90, 0⟩) none none] && t.map.lastSweep == 300000) = true := by decide +kernel

theorem test_witness_Sweep :
    running (mapped 1000 [] []) = true ∧ Instr.sweep ∈ dueEvents (mapped 1000 [] []) ∧ Instr.sweep ∉ dueEvents (mapped 999 [] []) := by
  decide +kernel

/-- The examples of R72. -/
theorem test_effective_mu :
    effectiveMu (entry 0 (some ⟨110, 0⟩) none (some 0)) = some 150 ∧ effectiveMu (entry 0 (some ⟨280, 0⟩) none (some 0)) = some 300 ∧
    effectiveMu (entry 0 (some ⟨320, 0⟩) none (some 0)) = some 320 ∧
    effectiveMu (entry 0 (some ⟨140, 0⟩) (some ⟨120, 0⟩) none) = some 140 := by decide

/-- A VALID station at 0 with a map. -/
def located (es : List MapEntry) : Station := { mapped 0 es [] with pos := { z0.pos with state := .valid } }

theorem test_witness_EffectiveMuAndLookAhead :
    (entry 0 (some ⟨110, 0⟩) none none).sanded = none ∧ (entry 0 none (some ⟨110, 0⟩) none).peak = none ∧
    lookAhead (located []) 0 30000 = none ∧
    lookAhead (located [entry 2 (some ⟨90, 0⟩) none none, entry 4 (some ⟨90, 0⟩) none none]) 0 30000 = some (90, ⟨2, 2⟩) ∧
    ((located []).pos.sense = .up ∧ 99990000 + 10000 ≤ 100000000 ∧ (located []).pos.state ≠ .lost ∧
      stretch (located []) 99990000 10000 = [(19998, some 19998), (19999, some 19999), (20000, none)]) ∧
    (let z := { located [] with pos := { (located []).pos with sense := .down } }
     12000 ≤ 12000 ∧ stretch z 12000 12000 = [(2, some 2), (1, some 1), (0, some 0)]) ∧ z0.pos.state = .lost := by
  decide +kernel

/-- R38, R39: a PEAK of 110‰ ahead gives each axle the pre-limit of the spec's example at a load of 9,200 kg; in REST none. -/
theorem test_pre_limit :
    let z := { sampled 3757 (creepAt .adhering 9000 40) with
      link := { z0.link with loads := ⟨9200, 9200⟩ }, pos := { z0.pos with state := .valid }
      map := { z0.map with entries := [entry 3 (some ⟨110, 0⟩) none none] } }
    gives .speedSample z (fun t => t.creep.a.preLimit == some 10919 && t.creep.b.preLimit == some 10919) = true ∧
    gives .speedSample { z with hold := { z.hold with state := .holding, standstill := true, stillTime := some 500 }, ref := z0.ref, axles := z0.axles }
      (fun t => t.creepDir == .rest && t.creep.a.preLimit == none) = true := by decide +kernel

/-- The figures with window 5 on blocks 2,000 to 2,099. -/
def figs5 : Commissioning := { z0.figs with windows := List.replicate 5 (loadWindow disabledWindow) ++ [⟨2000, 2099, 0, false, false, 0, 0, true⟩] }

/-- The examples of R76. -/
theorem test_granularity :
    actualGranularity figs5 (.cells 4010 4060) = .cells 4010 4060 ∧ actualGranularity figs5 (.cells 4010 4090) = .window 5 ∧
    actualGranularity figs5 (.cells 4150 4250) = .all ∧ actualGranularity figs5 (.window 4) = .all := by decide +kernel

theorem test_witness_ClearGranularity :
    (∃ w, figs5.windows[5]? = some w ∧ w.enabled = true) ∧ (∀ w ∈ figs5.windows[32]?, w.enabled = false) ∧
    (10 ≤ 73 ∧ 73 ≤ 19999 ∧ 73 - 10 + 1 ≤ 64) ∧ (64 < 4090 - 4010 + 1) ∧ (10 < 11) ∧ 19999 < 20000 ∧
    clearsCell figs5 (.window 5) 4199 = true ∧ clearsCell figs5 (.window 5) 4200 = false ∧ clearsCell figs5 (.cells 10 73) 73 = true ∧
    ObsKind.peak ≠ .sanded := by
  refine ⟨⟨_, rfl, rfl⟩, by decide +kernel, by decide, by decide, by decide, by decide, by decide +kernel, by decide +kernel,
    by decide +kernel, by decide⟩

def obs (k : ObsKind) (c n mu : Nat) (t : Millis) : Observation := ⟨k, c, n, mu, .up, .own, t⟩

/-- CELLS 10..73 with identifier 9 from cab END1. -/
def clearFrame : Frame := ⟨8, 0, 6, encodeClear 9 (.cells 10 73)⟩

theorem test_witness_MapClear :
    checkClear clearFrame = some (9, .cells 10 73) ∧ running z0 = true ∧
    (sumOk 7 (req 7 [2, 0, 10, 0, 73]) = true ∧ (req 7 [2, 0, 10, 0, 73]).args.length = 5 ∧
      bytesAt (req 7 [2, 0, 10, 0, 73]).args 0 1 = 2 ∧ bytesAt (req 7 [2, 0, 10, 0, 73]).args 1 2 = 10 ∧
      bytesAt (req 7 [2, 0, 10, 0, 73]).args 3 2 = 73) ∧
    bytesAt (req 7 [0, 0, 0, 0, 0]).args 0 1 = 0 ∧ bytesAt (req 7 [1, 0, 5, 0, 0]).args 0 1 = 1 ∧
    2 < bytesAt (req 7 [3, 0, 0, 0, 0]).args 0 1 := by decide +kernel

theorem test_map_clear :
    gives (.mapClearArrival clearFrame) (mapped 0 [entry 9 (some ⟨90, 0⟩) none none, entry 73 (some ⟨90, 0⟩) none none] []) (fun t =>
      t.map.entries.map (·.cell) == [9] && t.map.lastClear == some ⟨9, .cells 10 73⟩) = true := by decide +kernel

/-- R79: the first service clear bears the identifier 1, and its frame waits in the slot. -/
theorem test_service_clear :
    gives (.clearMap (req 7 [0, 0, 0, 0, 0])) (mapped 0 [entry 9 (some ⟨90, 0⟩) none none] []) (fun t => t.map.entries == []
      && t.port.clearSlot == some ⟨1, .all, 1⟩ && t.reply == some ⟨7, .ok, .empty⟩) = true := by decide +kernel

/-- A RAIL REPORT of station 2 with a PEAK of 511‰ in cell 7 and a SANDED of 17 cells. -/
def railFrame : Frame := ⟨2, 0, 8, encodeObs (obs .peak 7 1 511 0) ++ encodeObs (obs .sanded 3 17 0 0)⟩

theorem test_witness_RailReport :
    checkRail 5 railFrame = some (2, [⟨.peak, 7, 1, 511, .up, .station 2, 5⟩, ⟨.sanded, 3, 17, 0, .up, .station 2, 5⟩]) ∧
    2 ≠ z0.plug.number.val ∧ checkRail 5 { railFrame with sender := 0 } ≠ none ∧ running z0 = true := by decide +kernel

/-- R66: μ is taken as 500 at most, a range beyond 16 is skipped. -/
theorem test_rail_report :
    gives (.railReportArrival railFrame) z0 (fun t => t.map.entries == [⟨7, some ⟨500, 0⟩, none, none, .station 2, .up, 1⟩]) = true := by
  decide +kernel

/-- R69: a SANDED range in an UP sense merges its farthest cell first, and cells above 19,999 are left out: on a map of two
cells the range 19,997 to 20,000 leaves the two farthest ahead. -/
theorem test_witness_SandedRange :
    (List.range' 19997 4).filter (· ≤ 19999) = [19997, 19998, 19999] ∧
    (mergeObs 2 .up (obs .sanded 19997 4 0 5) []).map (·.cell) = [19998, 19999] ∧
    (mergeObs 2 .down (obs .sanded 19997 4 0 5) []).map (·.cell) = [19997, 19998] ∧
    mergeObs 2 .up (obs .peak 3 4 90 5) [] = mergeCell 2 .up (obs .peak 3 4 90 5) 3 [] := by decide +kernel

/-- The examples of R67: a PEAK of 171, 4,000 ms old, becomes 160 under 160 and stays under 180; 12,000 ms old it is replaced. -/
theorem test_merge_peak :
    let es := [entry 5 (some ⟨171, 0⟩) none none]
    ((mergeCell 64 .up (obs .peak 5 1 160 4000) 5 es).map (·.peak) = [some ⟨160, 4000⟩]) ∧
    ((mergeCell 64 .up (obs .peak 5 1 180 4000) 5 es).map (·.peak) = [some ⟨171, 0⟩]) ∧
    ((mergeCell 64 .up (obs .peak 5 1 180 12000) 5 es).map (·.peak) = [some ⟨180, 12000⟩]) := by decide +kernel

theorem test_witness_MergeIntoEntry :
    let e := entry 5 (some ⟨171, 0⟩) (some ⟨170, 0⟩) none
    let es := [entry 3 (some ⟨90, 0⟩) none none, e]
    es.Pairwise (fun a b => a.cell < b.cell) ∧ e ∈ es ∧ e.peak = some ⟨171, 0⟩ ∧ age (9999 : Millis) 0 < 10000 ∧ 171 < 180 ∧
    10000 ≤ age (10000 : Millis) 0 ∧ e.atLeast = some ⟨170, 0⟩ ∧ (entry 3 (some ⟨90, 0⟩) none none).atLeast = none ∧
    (obs .peak 5 1 180 9999).kind = .peak ∧ (obs .atLeast 5 1 170 9999).kind = .atLeast ∧ (obs .sanded 5 1 0 9999).kind = .sanded := by
  decide +kernel

/-- The rule of R64 on a full map of two: UP evicts the lowest, refuses what lies below it; DOWN evicts the highest. -/
theorem test_evict :
    let es := [entry 1903 (some ⟨90, 0⟩) none none, entry 1905 (some ⟨90, 0⟩) none none]
    ((mergeCell 2 .up (obs .peak 2450 1 160 0) 2450 es).map (·.cell) = [1905, 2450]) ∧
    ((mergeCell 2 .up (obs .atLeast 1880 1 160 0) 1880 es).map (·.cell) = [1903, 1905]) ∧
    ((mergeCell 2 .down (obs .peak 1904 1 160 0) 1904 es).map (·.cell) = [1903, 1904]) := by decide +kernel

theorem test_witness_MergeNewEntry :
    let es := [entry 1903 (some ⟨90, 0⟩) none none, entry 1905 (some ⟨90, 0⟩) none none]
    es.Pairwise (fun a b => a.cell < b.cell) ∧ (∀ e ∈ es, e.cell ≠ 1904) ∧ es.length < 3 ∧ 2 ≤ es.length ∧
    (∃ first rest, es = first :: rest ∧ 1880 < first.cell ∧ first.cell < 1904) ∧
    (∃ rest last, es = rest ++ [last] ∧ last.cell < 2450 ∧ 1904 < last.cell) := by
  refine ⟨by decide, by decide, by decide, by decide, ⟨_, _, rfl, by decide, by decide⟩, ⟨[_], _, rfl, by decide, by decide⟩⟩

def item (k : ObsKind) (c n : Nat) (inFrame : Bool) : OutboxItem := ⟨obs k c n 90 0, inFrame⟩

/-- Twelve observations, the first six IN FRAME. -/
def fullBox (k : ObsKind) : List OutboxItem := ((List.range 6).map fun i => item .peak i 1 true) ++ (List.range 6).map fun i => item k (10 + i) 1 false

theorem test_witness_OutboxOffer :
    (let i := item .sanded 8 15 false
     i.inFrame = false ∧ i.obs.kind = .sanded ∧ i.obs.direction = .up ∧ i.obs.count < 16 ∧ 7 + 1 = i.obs.cell ∧ 23 = i.obs.cell + i.obs.count) ∧
    (16 ≤ (item .sanded 8 16 false).obs.count) ∧ ([item .peak 8 1 false].length < 12 ∧ (obs .peak 1 1 90 0).kind ≠ .sanded) ∧
    (12 ≤ (fullBox .atLeast).length ∧ (obs .peak 1 1 90 0).kind ≠ .atLeast ∧
      fullBox .atLeast = (fullBox .atLeast).take 6 ++ item .atLeast 10 1 false :: (fullBox .atLeast).drop 7 ∧
      ∀ j ∈ (fullBox .atLeast).take 6, j.inFrame = true ∨ j.obs.kind ≠ .atLeast) ∧
    (12 ≤ (fullBox .sanded).length ∧ (∀ j ∈ fullBox .sanded, j.inFrame = false → j.obs.kind ≠ .atLeast) ∧
      fullBox .sanded = (fullBox .sanded).take 6 ++ item .sanded 10 1 false :: (fullBox .sanded).drop 7 ∧
      ∀ j ∈ (fullBox .sanded).take 6, j.inFrame = true) := by decide +kernel

/-- The sampled station VALID in an UP sense with its leading axle at 5,000,900 mm and a cell record. -/
def recording (r : Option CellRec) (c : AxleCreep) : Station :=
  { sampled 3757 c with pos := { z0.pos with station := 4999970, state := .valid }, cellRec := r, creepDir := .braking }

/-- R35 to R37: after the sample the leading axle lies in cell 1,000. A clean record of cell 999 with a mean of 20,000 N gives
its AT_LEAST; a spoiled one or one of another cell gives none; a record of cell 1,000 goes on; without one a spoiled one opens. -/
theorem test_witness_CellRecord :
    gives .speedSample (recording (some ⟨999, some 999, 20000, 1, true⟩) (creepAt .adhering 9000 40)) (fun t =>
      observes t && t.pos.attrLeading.position == 5000900 && t.map.entries.map (·.cell) == [999]
        && t.map.outbox.map (fun i => (i.obs.kind, i.obs.mu)) == [(.atLeast, 140)]
        && t.cellRec == some ⟨1000, some 1000, 0, 1, true⟩) = true ∧
    gives .speedSample (recording (some ⟨999, some 999, 20000, 1, false⟩) (creepAt .adhering 9000 40)) (fun t => t.map.outbox == []
      && t.cellRec == some ⟨1000, some 1000, 0, 1, true⟩) = true ∧
    gives .speedSample (recording (some ⟨998, some 998, 20000, 1, true⟩) (creepAt .adhering 9000 40)) (fun t => t.map.outbox == []
      && t.cellRec == some ⟨1000, some 1000, 0, 1, false⟩) = true ∧
    gives .speedSample (recording (some ⟨1000, some 1000, 20000, 3, true⟩) { creepAt .adhering 9000 40 with electric := 7 }) (fun t =>
      t.cellRec == some ⟨1000, some 1000, 20007, 4, true⟩) = true ∧
    gives .speedSample (recording none (creepAt .adhering 9000 40)) (fun t => t.cellRec == some ⟨1000, some 1000, 0, 1, false⟩) = true ∧
    gives .speedSample { recording (some ⟨999, some 999, 20000, 1, true⟩) (creepAt .regulating 9000 40) with creepDir := .rest } (fun t =>
      t.cellRec == some ⟨1000, some 1000, 0, 1, false⟩) = true := by decide +kernel

/-- R36: an entry to SLIPPING of the leading axle hands over the PEAK of 10,000 N; that of the trailing axle, or in LOST,
hands over none. -/
theorem test_witness_SlipPeak :
    (let z := { recording none { creepAt .adhering 9000 40 with peaks := [10000, 4000] } with
       pos := resolved { z0 with pos := { z0.pos with station := 4999970, state := .valid } }, link := { z0.link with loads := ⟨9200, 9200⟩ } }
     (leadingAxle z = .a ∧ observes z = true ∧ (∀ f ∈ (pick z.creep .a).peaks, f ≤ 10000)) ∧
      (enterSlipping .a z).map.outbox.map (fun i => (i.obs.kind, i.obs.cell, i.obs.mu)) = [(.peak, 1000, 110)] ∧
      (enterSlipping .b z).map = z.map) ∧
    observes z0 = false ∧ (enterSlipping .a z0).map = z0.map := by decide +kernel

/-- R81: a PEAK takes the place of the oldest WAITING AT_LEAST, and an AT_LEAST is dropped. -/
theorem test_full_outbox :
    offerOutbox (obs .peak 50 1 90 0) (fullBox .atLeast) = (fullBox .atLeast).eraseIdx 6 ++ [⟨obs .peak 50 1 90 0, false⟩] ∧
    offerOutbox (obs .atLeast 50 1 90 0) (fullBox .atLeast) = fullBox .atLeast := by decide +kernel

/-- A RAIL REPORT in the slot, or on the line, with one observation of it 2,001 ms old and another WAITING. -/
def reported (line : Bool) : Station :=
  let f : RailFrame := ⟨[obs .peak 1 1 90 0], 4⟩
  let z := mapped 2001 [] [item .peak 1 1 true, ⟨obs .peak 2 1 90 1, false⟩]
  { z with port := { z.port with seqRail := 4, railSlot := if line then none else some f, onLine := if line then some (.rail f false) else none } }

theorem reported_slot : OutboxLaw (reported false) :=
  ⟨by decide +kernel, by decide +kernel, ⟨by decide +kernel, by decide +kernel⟩, by decide +kernel⟩

theorem reported_line : OutboxLaw (reported true) :=
  ⟨by decide +kernel, by decide +kernel, ⟨by decide +kernel, by decide +kernel⟩, by decide +kernel⟩

theorem test_witness_OutboxExpiry :
    (running (reported false) = true ∧ OutboxLaw (reported false) ∧ OutboxLaw (reported true)) ∧
    (∃ i ∈ (reported false).map.outbox, i.inFrame = true ∧ 2000 < age (reported false).time i.obs.time) ∧
    (∀ i ∈ ({ reported false with time := 2000 } : Station).map.outbox, i.inFrame = true → age (2000 : Millis) i.obs.time ≤ 2000) := by
  exact ⟨⟨by decide +kernel, reported_slot, reported_line⟩, by decide +kernel, by decide +kernel⟩

/-- CELLS 1 to 1 with identifier 9. -/
def clearOne : Frame := ⟨8, 0, 6, encodeClear 9 (.cells 1 1)⟩

/-- R78: a clear that takes an observation out of a waiting RAIL REPORT has it built afresh, and one on the line goes on. -/
theorem test_witness_RailAfterDrop :
    (checkClear clearOne = some (9, .cells 1 1) ∧ OutboxLaw (reported false) ∧ OutboxLaw (reported true)) ∧
    gives (.mapClearArrival clearOne) (reported false) (fun t => t.port.railSlot == some ⟨[obs .peak 2 1 90 1], 5⟩ && t.port.seqRail == 5) = true ∧
    gives (.mapClearArrival clearOne) (reported true) (fun t => t.port.onLine == some (.rail ⟨[obs .peak 1 1 90 0], 4⟩ true)
      && t.port.seqRail == 4) = true ∧
    gives (.mapClearArrival clearFrame) (reported false) (fun t => t.port.railSlot == (reported false).port.railSlot) = true := by
  exact ⟨⟨by decide +kernel, reported_slot, reported_line⟩, by decide +kernel, by decide +kernel, by decide +kernel⟩

/-- R83: the waiting RAIL REPORT is withdrawn and built afresh with the next sequence number. -/
theorem test_outbox_expiry :
    gives .outboxExpiry (reported false) (fun t => t.port.railSlot == some ⟨[obs .peak 2 1 90 1], 5⟩ && t.map.outbox.length == 1) = true := by
  decide +kernel

/-! ## Sander control -/

/-- A VALID station at 5,000 m moving at `v`, boxes full, with driver sand asked for by a current DEMAND of END1. -/
def sanding (v : Int) (now : Nat) (a : Sander) : Station :=
  { travelling 5000000 .valid v 0 0 .up with
    time := BitVec.ofNat 32 now
    pos := resolved { z0 with pos := { z0.pos with station := 5000000, state := .valid } }
    sanders := ⟨a, { z0.sanders.b with box := 9000000 }⟩
    port := { z0.port with demands := ⟨some ⟨⟨.coast, .end1, .up, true, true, 0, 50000⟩, 0, 1⟩, none⟩ } }

/-- A sander in a state with a box of 9 kg. -/
def sander (st : SanderState) (pipe duty : Nat) (owes : Bool) : Sander :=
  { z0.sanders.a with state := st, flowDelay := 300, fillBase := 15000, pipe := pipe, duty := duty, restOwed := owes, box := 9000000 }

theorem test_witness_DecisionAdmission :
    (running (sanding 4000 5 (sander .closed 0 0 false)) = true ∧ leadingAxle (sanding 4000 5 (sander .closed 0 0 false)) = .a ∧
      ∀ y, (pick (sanding 4000 5 (sander .closed 0 0 false)).sanders y).state = .closed) ∧
    (let z := { sanding 4000 5 (sander .closed 0 0 false) with map := { z0.map with entries := [entry 1000 (some ⟨99, 0⟩) none none] } }
     lookAhead z (pick z.pos.attrSander .a).position ((max 0 z.ref.speed).toNat * (rateSetOf z.figs 0).flowDelay / 1000 + 2000) =
      some (99, ⟨1000, 1000⟩)) ∧
    (let z := { sanding 4000 5 (sander .closed 0 0 false) with map := { z0.map with entries := [entry 1000 (some ⟨100, 0⟩) none none] } }
     lookAhead z (pick z.pos.attrSander .a).position 3200 = some (100, ⟨1000, 1000⟩)) := by
  refine ⟨⟨by decide +kernel, by decide +kernel, fun y => by cases y <;> decide +kernel⟩, by decide +kernel, by decide +kernel⟩

/-- R99: a FLOWING sander whose last recorded cell is another, and a TAILING one that has none, record their cell at step 2,
before the look-ahead query of step 3; one in its last recorded cell, and a FILLING one, do not. -/
theorem test_witness_CellRecorded :
    gives .sanderDecision (sanding 4000 5 { sander .flowing 300 0 false with lastCell := some 999, dosing := some ⟨5, 15000, 200⟩ }) (fun t =>
      t.map.entries.map (·.cell) == [1000] && t.sanders.a.lastCell == some 1000) = true ∧
    gives .sanderDecision (sanding 4000 5 { sander .flowing 300 0 false with lastCell := some 1000, dosing := some ⟨5, 15000, 200⟩ }) (fun t =>
      t.map.entries == []) = true ∧
    gives .sanderDecision (sanding 299 5 (sander .tailing 205 0 false)) (fun t => t.map.entries.map (·.cell) == [1000]
      && t.sanders.a.lastCell == some 1000) = true ∧
    gives .sanderDecision (sanding 299 5 (sander .filling 205 0 false)) (fun t => t.map.entries == []) = true ∧
    (let z := { sanding 4000 5 { sander .flowing 300 0 false with lastCell := some 999, dosing := some ⟨5, 15000, 200⟩ } with
       map := { z0.map with entries := [entry 1000 (some ⟨99, 0⟩) none none] } }
     gives .sanderDecision z (fun t => t.map.entries == [⟨1000, some ⟨99, 0⟩, none, some 5, .own, .up, 2⟩] && t.sanding.aim == none) = true ∧
      effectiveMu ⟨1000, some ⟨99, 0⟩, none, some 5, .own, .up, 2⟩ = some 139) := by decide +kernel

/-- R97: a FLOWING sander that was filled after its period began with an empty box opens at the next decision, within the
open time and not after it. -/
theorem test_reopen :
    gives .sanderDecision (sanding 4000 84 { sander .flowing 300 0 false with dosing := some ⟨5, 15000, 80⟩ }) (fun t =>
      t.sanders.a.state == .flowing && t.sanders.a.valveOpen && t.sanders.a.interval == some ⟨84, 9000000, 15000⟩) = true ∧
    gives .sanderDecision (sanding 4000 85 { sander .flowing 300 0 false with dosing := some ⟨5, 15000, 80⟩ }) (fun t =>
      t.sanders.a.state == .flowing && !t.sanders.a.valveOpen) = true := by decide +kernel

/-- R91: driver sand is admitted at 4,000 mm/s, and barred below 300 mm/s and at the reserve. -/
theorem test_decision_driver :
    gives .sanderDecision (sanding 4000 5 (sander .closed 0 0 false)) (fun t => t.sanding.admitted.driver && t.sanding.demandOn
      && !t.sanding.high && t.sanders.a.state == .filling && t.sanders.a.valveOpen) = true ∧
    gives .sanderDecision (sanding 299 5 (sander .closed 0 0 false)) (fun t => t.sanding.asks.driver && !t.sanding.admitted.driver) = true ∧
    gives .sanderDecision (sanding 4000 5 { sander .closed 0 0 false with box := 2000000 }) (fun t => !t.sanding.admitted.driver) = true := by
  decide +kernel

theorem test_witness_DecisionStates :
    gives .sanderDecision (sanding 4000 5 (sander .filling 290 0 false)) (fun t => t.sanders.a.state == .filling && t.sanders.a.pipe == 295) = true ∧
    gives .sanderDecision (sanding 4000 5 (sander .filling 295 0 false)) (fun t => t.sanders.a.state == .flowing) = true ∧
    gives .sanderDecision (sanding 4000 5 (sander .flowing 300 29995 false)) (fun t => t.sanders.a.state == .tailing && t.sanders.a.restOwed) = true ∧
    gives .sanderDecision (sanding 299 5 (sander .tailing 6 0 true)) (fun t => t.sanders.a.state == .tailing && t.sanders.a.pipe == 1) = true ∧
    gives .sanderDecision (sanding 299 5 (sander .tailing 5 0 true)) (fun t => t.sanders.a.state == .resting) = true ∧
    gives .sanderDecision (sanding 299 5 (sander .tailing 5 0 false)) (fun t => t.sanders.a.state == .closed) = true ∧
    gives .sanderDecision (sanding 4000 5 (sander .tailing 205 0 false)) (fun t => t.sanders.a.state == .filling && t.sanders.a.pipe == 200) = true ∧
    gives .sanderDecision (sanding 299 5 { sander .resting 0 30000 true with rest := 9995 }) (fun t => t.sanders.a.state == .closed && !t.sanders.a.restOwed) = true ∧
    gives .sanderDecision (sanding 299 5 { sander .resting 0 30000 true with rest := 9994 }) (fun t => t.sanders.a.state == .resting) = true := by
  decide +kernel

theorem z0_filling : FillingLaw z0 := fun x => by cases x <;> exact ⟨by decide +kernel, by decide +kernel⟩

theorem test_witness_DecisionValves : ValvesLaw z0 ∧ FillingLaw z0 ∧ running z0 = true ∧
    gives .sanderDecision (sanding 4000 5 (sander .closed 0 0 false)) (fun t => t.sanders.a.valveOpen) = true :=
  ⟨⟨⟨by decide +kernel, by decide +kernel⟩, ⟨by decide +kernel, by decide +kernel⟩⟩, z0_filling, by decide +kernel, by decide +kernel⟩

/-- A sander whose demand stands since the latest decision. -/
def demanded (v : Int) (now : Nat) (a : Sander) : Station :=
  { sanding v now a with sanding := { z0.sanding with demandOn := true } }

theorem test_witness_FlowingAndDosing :
    (let z := demanded 4000 5 (sander .filling 300 0 false)
     running z = true ∧ z.sanders.a.flowDelay ≤ z.sanders.a.pipe ∧ z.sanders.a.box ≠ 0 ∧ Axle.a = leadingAxle z ∧ z.sanding.demandOn = true ∧
      2800 ≤ z.ref.speed.natAbs ∧ z.ref.speed.natAbs < 5600 ∧ (pick z.pos.attrSander .a).mapCell = some 1000) ∧
    (sander .filling 299 0 false).pipe < (sander .filling 299 0 false).flowDelay ∧
    (age (405 : Millis) 5 ≥ 400 ∧ ({ sander .flowing 300 0 false with dosing := some ⟨5, 15000, 200⟩ }).dosing = some ⟨5, 15000, 200⟩) ∧
    age (404 : Millis) 5 < 400 := by decide +kernel

/-- R98, R99: at 4,000 mm/s and LOW the default rate set opens 200 ms of the period, and the cell joins the map. -/
theorem test_pipe_full :
    gives (.pipeFull .end1) (demanded 4000 5 (sander .filling 300 0 false)) (fun t => t.sanders.a.state == .flowing
      && t.sanders.a.dosing == some ⟨5, 15000, 200⟩ && t.map.entries.map (·.cell) == [1000]) = true := by decide +kernel

theorem test_dosing_period :
    gives (.dosingPeriodStart .end1) (demanded 9000 405 { sander .flowing 300 0 false with dosing := some ⟨5, 15000, 200⟩ }) (fun t =>
      t.sanders.a.dosing == some ⟨405, 15000, 400⟩) = true := by decide +kernel

/-- A FLOWING sander with its valve open since 5 for a period of 200 ms. -/
def dosing : Sander :=
  { sander .flowing 300 0 false with dosing := some ⟨5, 15000, 200⟩, valveOpen := true, interval := some ⟨5, 9000000, 15000⟩ }

theorem test_witness_SanderTimers :
    (dosing.valveOpen = true ∧ 200 < 400 ∧ 200 ≤ age (205 : Millis) 5 ∧ dosing.interval = some ⟨5, 9000000, 15000⟩) ∧
    age (204 : Millis) 5 < 200 ∧ before 3000 (3000 : Millis) = false ∧ before 2999 (3000 : Millis) = true ∧
    (let z := sanding 299 5 (sander .tailing 0 0 true)
     running z = true ∧ z.sanders.a.state = .tailing ∧ z.sanders.a.pipe = 0 ∧ z.sanding.demandOn = false) ∧
    ((sander .tailing 1 0 true).pipe ≠ 0) ∧ (10000 ≤ ({ sander .resting 0 0 true with rest := 10000 }).rest) ∧
    (({ sander .resting 0 0 true with rest := 9999 }).rest < 10000) ∧
    (30000 ≤ (sander .flowing 300 30000 false).duty) ∧ ((sander .flowing 300 29999 false).duty < 30000) ∧
    (farGone 0 true).sanding.admitted.emergency = true := by decide +kernel

/-- R100: 200 ms at 15,000 mg/s use 3,000 mg. -/
theorem test_open_time_end :
    gives (.openTimeEnd .end1) (sanding 4000 205 dosing) (fun t => t.sanders.a.box == 8997000 && !t.sanders.a.valveOpen) = true := by
  decide +kernel

theorem test_slip_hold :
    gives .slipHoldExpiry { z0 with time := 3000, sanding := { z0.sanding with slipHold := some 3000, reslipHold := some 3001 } } (fun t =>
      t.sanding.slipHold == none && t.sanding.reslipHold == some 3001) = true := by decide +kernel

theorem test_hill_sand :
    gives .hillStartSandingExpiry { z0 with time := 2000, sanding := { z0.sanding with hillExpiry := some 2000 } } (fun t =>
      t.sanding.hillExpiry == none) = true := by decide +kernel

theorem test_tail_empty :
    gives (.tailEmpty .end1) (sanding 299 5 (sander .tailing 0 7 false)) (fun t => t.sanders.a.state == .closed && t.sanders.a.duty == 0) = true := by
  decide +kernel

theorem test_rest_expiry :
    gives (.restExpiry .end1) (sanding 299 5 { sander .resting 0 0 true with rest := 10000 }) (fun t =>
      t.sanders.a.state == .closed && !t.sanders.a.restOwed) = true := by decide +kernel

theorem test_duty_limit :
    gives (.dutyLimit .end1) (sanding 4000 5 (sander .flowing 300 30000 false)) (fun t => t.sanders.a.state == .tailing && t.sanders.a.restOwed) = true := by
  decide +kernel

/-- A FLOWING sander whose open interval has used all its sand. -/
def drained : Sander := { dosing with interval := some ⟨5, 3000, 15000⟩, box := 3000 }

theorem test_witness_SandEmptyAndFilled :
    (running (sanding 4000 205 drained) = true ∧ (settleBox 205 drained).box = 0) ∧ (settleBox 205 dosing).box ≠ 0 ∧
    (sumOk 8 (req 8 [1, 0, 7]) = true ∧ (req 8 [1, 0, 7]).args.length = 3 ∧ bytesAt (req 8 [1, 0, 7]).args 0 1 = 1) ∧
    0 < min (bytesAt (req 8 [1, 0, 7]).args 1 2 * 1000) (z0.figs.boxCapacity * 1000) ∧ bytesAt (req 8 [1, 0, 0]).args 1 2 = 0 ∧
    bytesAt (req 8 [2, 0, 7]).args 0 1 = 2 ∧ (bytesAt (req 8 [3, 0, 7]).args 0 1 ≠ 1 ∧ bytesAt (req 8 [3, 0, 7]).args 0 1 ≠ 2) ∧
    z0.store.write = none ∧ saving.store.write ≠ none := by decide +kernel

theorem test_sand_empty :
    gives (.sandEmpty .end1) (sanding 4000 205 drained) (fun t => t.sanders.a.box == 0 && t.sanders.a.state == .tailing
      && (t.faults.records.filterMap id).map (·.kind) == [.sandEmpty]) = true ∧
    gives (.sandEmpty .end1) (sanding 4000 15 dosing) (fun t => t == sanding 4000 15 dosing) = true := by decide +kernel

/-- R102: 30,000 g are clamped to the capacity of 25,000 g, and a running save starts. -/
theorem test_filled :
    gives (.filled (req 8 [2, 117, 48])) z0 (fun t => t.sanders.b.box == 25000000 && t.store.write.isSome
      && t.reply == some ⟨8, .ok, .empty⟩) = true := by decide +kernel

/-! ## Blend unit and make-up unit -/

/-- A PRESENT, healthy inverter and brake unit with equal capabilities on both axles. -/
def plant (trac brk : Nat) : BogieLink :=
  { z0.link with
    inverter := { z0.link.inverter with state := .present, report := some ⟨true, ⟨0, 0⟩, ⟨trac, trac⟩, ⟨brk, brk⟩⟩ }
    brake := { z0.link.brake with state := .present, report := some ⟨true, ⟨0, 0⟩, ⟨9200, 9200⟩⟩ }
    loads := ⟨9200, 9200⟩ }

/-- A FREE station serving a mode with an acceleration on a rise, mass 18,400 kg. -/
def serving (m : EffMode) (s : ServedMode) (a rise : Int) : Station :=
  { z0 with
    link := plant 40000 18000
    pos := { z0.pos with attrStation := { z0.pos.attrStation with rise := rise } }
    blend := { z0.blend with effMode := m, served := s, accel := some a, rearm := false }
    hold := { z0.hold with state := .free } }

/-- The examples of R113. -/
theorem test_nominal :
    gives .blendEvent (serving .drive .drive 600 110) (fun t => t.blend.nominal == 30875 && t.blend.mass == 18400) = true ∧
    gives .blendEvent (serving .brake .brake (-1300) (-90)) (fun t => t.blend.nominal == 40148) = true ∧
    gives .blendEvent (serving .brake .brake (-500) 110) (fun t => t.blend.nominal == 0) = true := by decide +kernel

/-- The examples of R116 and R117: a leading axle cut to 10,806 N, and a share above the electric capability. -/
theorem test_split :
    gives .blendEvent { serving .drive .drive 600 110 with creep := ⟨creepAt .slipping 10806 0, z0.creep.b⟩ } (fun t =>
      t.blend.axles.a.share == 10806 && t.blend.axles.b.share == 20069) = true ∧
    gives .blendEvent (serving .brake .brake (-1300) (-90)) (fun t => t.blend.axles.a.share == 20074
      && t.blend.axles.a.electric == 18000 && t.blend.axles.a.friction == 2074) = true := by decide +kernel

theorem test_witness_BlendForces :
    (running (serving .drive .drive 600 110) = true ∧ (serving .drive .drive 600 110).blend.accel = some 600 ∧
      (serving .drive .drive 600 110).plug.kind = .motor ∧ (serving .drive .drive 600 110).link.inverter.state = .present ∧
      (serving .drive .drive 600 110).link.inverter.report = some ⟨true, ⟨0, 0⟩, ⟨40000, 40000⟩, ⟨18000, 18000⟩⟩ ∧
      (serving .drive .drive 600 110).link.brake.state = .present) ∧
    (serving .brake .brake (-1300) (-90)).blend.served = .brake ∧ (serving .coast .coast 0 0).blend.served = .coast ∧
    z0.link.inverter.state = .lost ∧ (∀ r ∈ z0.link.brake.report, r.healthy = false) ∧ z0.link.brake.state = .lost := by decide +kernel

/-- The braking station of R113's example with its track brake DOWN at 3,000 mm/s. -/
def lowered : Station :=
  let z := serving .brake .brake (-1300) (-90)
  { z with
    plug := { z.plug with trackBrake := true }
    ref := { z.ref with speed := 3000 }
    blend := { z.blend with mtb := .down, contactorClosed := true } }

theorem test_witness_BlendSplit :
    (effortSense (serving .drive .drive 600 110) = .traction ∧ effortSense (serving .coast .coast 0 0) = .none ∧
      effortSense (serving .brake .brake (-1300) (-90)) = .braking) ∧
    gives .blendEvent (serving .brake .brake (-1300) (-90)) (fun t => decide (t.blend.demand / 2 ≤ t.blend.axles.b.capability)
      && decide (t.blend.demand - t.blend.demand / 2 ≤ t.blend.axles.a.capability)) = true ∧
    gives .blendEvent { serving .drive .drive 600 110 with creep := ⟨creepAt .slipping 10806 0, z0.creep.b⟩ } (fun t =>
      decide (t.blend.axles.a.capability < t.blend.demand - t.blend.demand / 2)) = true ∧
    gives .blendEvent { serving .drive .drive 600 110 with creep := ⟨z0.creep.a, creepAt .slipping 10806 0⟩ } (fun t =>
      decide (t.blend.axles.b.capability < t.blend.demand / 2)) = true ∧
    gives .blendEvent lowered (fun t => t.blend.mtb == .down) = true := by decide +kernel

/-- The content of a braking peer's STATUS: short or spare, balance, covered, generation, takes. -/
def peerContent (short : Bool) (balance covered gen : Nat) (takes : List TakeEntry) : StatusContent :=
  { statusContent z0 with served := .brake, short := short, balance := balance, covered := covered, generation := gen, takes := takes }

/-- Stations 1 and 2 FRESH with their contents. -/
def peers (a b : StatusContent) : List Peer :=
  [⟨.absent, none⟩, ⟨.fresh, some ⟨a, 0, 1⟩⟩, ⟨.fresh, some ⟨b, 0, 1⟩⟩] ++ List.replicate 5 ⟨.absent, none⟩

/-- The braking station of nominal 34,912 N and capability 40,000 N, so spare 5,088, beside two peers. -/
def spare (a b : StatusContent) : Station :=
  { serving .brake .brake (-1000) (-91) with
    link := { plant 40000 20000 with loads := ⟨9222, 9222⟩
                                     brake := z0.link.brake }
    port := { z0.port with peers := peers a b } }

/-- The first examples of R130 and R131: a take of 4,041 N on a shortfall of 14,148 N with 12,724 N of spare elsewhere,
scaled to 3,410 N when the peer publishes 16,765 N covered. -/
theorem test_take : takeAmount 5088 17812 14148 (peerContent true 14148 0 41 []) = 4041 ∧
    takeAmount 5088 17812 14148 (peerContent true 14148 16765 41 []) = 3410 ∧
    takeAmount 12724 17812 20000 (peerContent true 20000 0 41 []) = 12724 := by decide +kernel

/-- R124, R125, R127: nominal 40,148 N on 26,000 N is short by 14,148 N, the generation moves on from 40 to 41, and two
takes linked to 41 cover 14,147 N. -/
theorem test_covered :
    gives .blendEvent { serving .brake .brake (-1300) (-90) with
                        creep := ⟨creepAt .adhering 13000 0, creepAt .adhering 13000 0⟩
                        makeUp := { z0.makeUp with generation := 40 }
                        port := { z0.port with peers := peers (peerContent false 0 0 0 [⟨0, 41, 4041⟩]) (peerContent false 0 0 0 [⟨0, 41, 10106⟩]) } }
      (fun t => t.makeUp.shortfall == 14148 && t.makeUp.generation == 41 && t.makeUp.covered == 14147 && t.makeUp.residual == 1) = true := by
  decide +kernel

theorem test_witness_BlendMakeUp :
    (let z := spare (peerContent true 14148 16765 41 []) (peerContent false 12724 0 0 [])
     running z = true ∧ z.makeUp.withdrawn = false ∧ z.blend.served = .brake ∧ z.hold.state = .free ∧
      matchingPeers z = [(1, peerContent true 14148 16765 41 []), (2, peerContent false 12724 0 0 [])]) ∧
    gives .blendEvent (spare (peerContent true 14148 0 41 []) (peerContent false 12724 0 0 [])) (fun t =>
      t.makeUp.takes.map (fun k => (k.peer, k.generation, k.applied)) == [(1, 41, true)]) = true ∧
    (¬(500 < 500 - 0 ∨ 500 < 0 - 500) ∧ 500 < 501 - 0) ∧ (serving .coast .coast 0 0).blend.served = .coast ∧
    ({ z0.makeUp with withdrawn := true }).withdrawn = true := by decide +kernel

/-! ## Track brake -/

/-- A station with the track brake strap in a mode at a speed, with its views. -/
def shoes (m : EffMode) (s : ServedMode) (v : Int) (mtb : TrackBrake) (esc rel : Option Nat) (residual : Nat) : Station :=
  { serving m s (-1300) 0 with
    plug := { z0.plug with trackBrake := true }
    ref := { z0.ref with speed := v }
    blend := { (serving m s (-1300) 0).blend with
      mtb := mtb, escalation := esc, release := rel, residualView := residual, nominalView := 114336
      contactorClosed := mtb != .up, loweringSince := if mtb = .lowering then some 0 else none } }

/-- The example of R118: a residual view of 17,151 N against a nominal view of 114,336 N escalates, 17,150 N does not. -/
theorem test_escalation :
    gives .blendEvent (shoes .brake .brake 1501 .up none none 17151) (fun t => t.blend.escalation == some 0) = true ∧
    gives .blendEvent (shoes .brake .brake 1501 .up none none 17150) (fun t => t.blend.escalation == none) = true ∧
    gives .blendEvent (shoes .brake .brake 1501 .up (some 980) none 17151) (fun t => t.blend.mtb == .lowering && t.blend.contactorClosed) = true := by
  decide +kernel

theorem test_witness_BlendTrackBrake :
    (150 * 114336 < 17151 * 1000 ∧ ¬ 150 * 114336 < 17150 * 1000 ∧ 5716 * 1000 < 50 * 114336 ∧ ¬ 5717 * 1000 < 50 * 114336) ∧
    (running (shoes .brake .brake 1501 .up (some 960) none 17151) = true ∧ 960 + 20 < 1000 ∧ 1000 ≤ 980 + 20) ∧
    ((shoes .lineLoss .lineLoss 799 .down none none 0).blend.mtb ≠ .up ∧ (799 : Int) < 800) ∧
    ((shoes .brake .brake 800 .down none (some 1960) 0).blend.release = some 1960 ∧ 1960 + 20 < 2000 ∧ 2000 ≤ 1980 + 20) ∧
    ((shoes .emergency .emergency 301 .up none none 0).blend.mtb = .up ∧ (300 : Int) < 301) ∧
    ((shoes .emergency .emergency 300 .down none none 0).blend.mtb ≠ .up) ∧
    (¬((shoes .coast .coast 0 .up none none 0).blend.effMode = .brake) ∧ (shoes .coast .coast 0 .up none none 0).blend.effMode ≠ .emergency) := by
  decide +kernel

theorem test_release :
    gives .blendEvent (shoes .brake .brake 800 .down none (some 1980) 5716) (fun t => t.blend.mtb == .up && !t.blend.contactorClosed) = true ∧
    gives .blendEvent (shoes .brake .brake 800 .down none (some 1980) 5717) (fun t => t.blend.mtb == .down && t.blend.release == none) = true := by
  decide +kernel

theorem test_witness_TrackBrakeTimers :
    (running (shoes .brake .brake 1501 .up (some 1000) none 0) = true ∧ (shoes .brake .brake 1501 .up (some 1000) none 0).plug.trackBrake = true) ∧
    (∀ n ∈ (shoes .brake .brake 1501 .up (some 980) none 0).blend.escalation, n < 1000) ∧
    ((shoes .lineLoss .lineLoss 900 .unconfirmed none (some 2000) 0).blend.release = some 2000) ∧
    (∀ n ∈ (shoes .brake .brake 900 .down none (some 1980) 0).blend.release, n < 2000) ∧
    ((shoes .brake .brake 900 .lowering none none 0).blend.loweringSince = some 0 ∧ 500 ≤ age (500 : Millis) 0 ∧ age (499 : Millis) 0 < 500) := by
  decide +kernel

theorem test_escalation_expiry :
    gives .escalationTimerExpiry (shoes .brake .brake 1501 .up (some 1000) none 0) (fun t => t.blend.mtb == .lowering) = true := by decide +kernel

theorem test_release_expiry :
    gives .trackBrakeReleaseExpiry (shoes .lineLoss .lineLoss 900 .unconfirmed none (some 2000) 0) (fun t => t.blend.mtb == .up) = true := by
  decide +kernel

theorem test_lowering_expiry :
    gives .loweringTimerExpiry { shoes .brake .brake 900 .lowering none none 0 with time := 500 } (fun t =>
      t.blend.mtb == .unconfirmed && (t.faults.records.filterMap id).map (·.kind) == [.mtbNotDown]) = true := by decide +kernel

/-! ## Modes and hold unit -/

/-- A station with a governing request of END1, in an effective mode, with a hold state and standstill. -/
def requested (m : DemandMode) (a : Int) (e : EffMode) (rearm : Bool) (h : HoldState) (still : Bool) : Station :=
  { z0 with
    blend := { z0.blend with governing := some ⟨.end1, m, a⟩, effMode := e, rearm := rearm }
    hold := { z0.hold with state := h, standstill := still } }

/-- The station under an OPEN loop. -/
def opened (z : Station) : Station := { z with link := { z.link with loop := { z.link.loop with delivered := some .loopOpen } } }

/-- R107: the latch: EMERGENCY stands until standstill, and at standstill until the cab asks for another mode than DRIVE. -/
theorem test_emergency_latch :
    (evaluate false (requested .brake (-500) .emergency true .free false)).blend.effMode = .emergency ∧
    (evaluate false (requested .drive 500 .emergency true .holding true)).blend.effMode = .emergency ∧
    (evaluate false (requested .brake (-500) .emergency true .holding true)).blend.effMode = .brake ∧
    (evaluate false (opened (requested .brake (-500) .brake false .free false))).blend.served = .emergency := by decide +kernel

theorem test_witness_Evaluation :
    ((opened z0).link.loop.delivered = some .loopOpen ∧ z0.blend.governing = none) ∧
    (let t := evaluate true (requested .coast 0 .lineLoss true .free false)
     t.blend.effMode = .coast ∧ t.blend.rearm = false ∧ effortSense t ≠ effortSense z0) ∧
    (let t := evaluate true (requested .drive 500 .coast false .holding true)
     driveRequest t = true ∧ t.hold.armed = false ∧ t.blend.effMode = .drive) ∧
    (let t := evaluate true (requested .drive 500 .lineLoss true .holding true)
     driveRequest t = false ∧ t.blend.effMode = .drive ∧ t.blend.rearm = true) ∧
    ((evaluate false (requested .hold 0 .brake false .free true)).blend.effMode = .hold) ∧
    ((evaluate false (requested .park 0 .brake false .free false)).blend.served = .brake) ∧
    ((evaluate false (opened (shoes .brake .brake 301 .up none none 0))).blend.mtb = .lowering) ∧
    ((40 : Int) < 41 ∧ (40 : Int) ≤ 40) := by decide +kernel

/-- R146, R147: armed in HOLDING, a DRIVE request on a rise of 41‰ starts a hill start, on 40‰ a level start. -/
theorem test_hill_start :
    (let z := requested .drive 500 .coast false .holding true
     let up := evaluate true { z with pos := { z.pos with attrStation := { z.pos.attrStation with rise := 41 } } }
     let flat := evaluate true { z with pos := { z.pos with attrStation := { z.pos.attrStation with rise := 40 } } }
     up.hold.state = .hillStart ∧ up.sanding.hillExpiry = some 2000 ∧ flat.hold.state = .holding ∧ flat.hold.levelPending = true) := by
  decide +kernel

/-- A station about to announce standstill. -/
def stopping (h : HoldState) (n : Nat) (c : Option EndChange) : Station :=
  { requested .hold 0 .hold false h false with
    hold := { z0.hold with state := h, stillTime := some n, armed := h != .rollback }, pos := { z0.pos with change := c } }

theorem test_witness_Standstill :
    (running (stopping .rollback 500 none) = true ∧ (stopping .rollback 500 none).hold.standstill = false ∧
      (stopping .rollback 500 none).hold.stillTime = some 500 ∧ (stopping .rollback 500 none).hold.armed = false) ∧
    (∀ n ∈ (stopping .free 495 none).hold.stillTime, n < 500) ∧ (stopping .free 500 none).hold.state = .free ∧
    (∀ g ∈ (stopping .free 500 none).blend.governing, g.mode ≠ .drive) ∧
    (stopping .free 500 (some ⟨.end2, .down⟩)).pos.change = some ⟨.end2, .down⟩ ∧ CabEnd.end2 ≠ z0.pos.leadingEnd := by decide +kernel

theorem test_standstill :
    gives .standstill { stopping .rollback 500 none with hold := { (stopping .rollback 500 none).hold with shown := .rollback } }
      (fun t => t.hold.standstill && t.hold.state == .holding && t.hold.shown == .holding && t.blend.served == .hold) = true ∧
    gives .standstill (stopping .free 500 (some ⟨.end2, .down⟩)) (fun t => t.pos.leadingEnd == .end2 && t.pos.sense == .down) = true := by
  decide +kernel

/-- A station in COAST and HOLDING at a reference speed, with standstill and its timer. -/
def slowing (v : Int) (still : Bool) (n : Option Nat) : Station :=
  { requested .coast 0 .coast false .holding still with
    ref := { z0.ref with speed := v, status := .tracking }, hold := { z0.hold with standstill := still, stillTime := n } }

/-- R142: at 30 mm/s the timer is cleared and standstill ends with its evaluation; at 29 mm/s it runs, and begins standstill
at 500 ms. -/
theorem test_witness_StillTest :
    (30 ≤ (30 : Int).natAbs ∧ (-29 : Int).natAbs < 30 ∧ running (slowing 30 true (some 700)) = true) ∧
    (stillTest (slowing 30 false (some 45))).hold.stillTime = none ∧
    ((stillTest (slowing 30 true (some 700))).hold.standstill = false ∧ (stillTest (slowing 30 true (some 700))).hold.stillTime = none) ∧
    ((stillTest (slowing (-29) false none)).hold.stillTime = some 0 ∧ (stillTest (slowing 29 false (some 490))).hold.standstill = false) ∧
    (stillTest (slowing 29 true (some 700))).hold.stillTime = some 705 ∧
    ((stillTest (slowing 29 false (some 495))).hold.standstill = true ∧ (stillTest (slowing 29 false (some 495))).hold.stillTime = some 500) := by
  decide +kernel

/-- R141 to R154 in a sample: standstill that begins at 500 ms of UNSEEDED at 0 mm/s ends HOLD's substitution at the sample. -/
theorem test_hold_sample :
    gives .speedSample { stopping .free 495 none with axles := (failedPair .failed .failed).axles } (fun t => t.hold.standstill
      && t.blend.served == .hold && t.hold.state == .holding && t.hold.shown == .holding) = true := by decide +kernel

/-- A PARKED station whose axle A has given a number of edges at time 0. -/
def nudged (n : Nat) : Station :=
  { requested .park 0 .park false .holding true with
    life := .parked, axles := put z0.axles .a { z0.axles.a with wakeEdges := List.replicate n 0 } }

/-- A coasting station whose rollback timer stands at `n`. -/
def rolling (n : Nat) : Station :=
  { requested .coast 0 .coast false .free false with hold := { z0.hold with state := .free, rollbackTime := some n } }

theorem test_witness_RollbackEntry :
    (running (rolling 200) = true ∧ (rolling 200).hold.state ≠ .rollback ∧ (rolling 200).hold.rollbackTime = some 200 ∧
      (rolling 200).blend.effMode = .coast ∧ (rolling 200).life = .run) ∧ ¬ 200 ≤ 195 ∧
    (running (nudged 5) = true ∧ (nudged 5).life = .parked ∧
      4 < ((pick (nudged 5).axles .a).wakeEdges.filter fun e => age (nudged 5).time e ≤ 2000).length) ∧
    ¬ 4 < ((pick (nudged 4).axles .a).wakeEdges.filter fun e => age (nudged 4).time e ≤ 2000).length := by decide +kernel

/-- A coasting station at a speed whose peer 2 shows the rollback flag and peer 1 does or does not. -/
def pushed (v : Int) (still one : Bool) (timer : Option Nat) : Station :=
  let c : StatusContent := { statusContent z0 with rollback := true }
  { rolling 0 with
    ref := { z0.ref with speed := v }, hold := { z0.hold with state := .free, standstill := still, rollbackTime := timer }
    port := { z0.port with
      peers := (z0.port.peers.set 1 ⟨.fresh, some ⟨{ c with rollback := one }, 0, 1⟩⟩).set 2 ⟨.fresh, some ⟨c, 0, 1⟩⟩ } }

/-- R151: −151 mm/s runs the timer and −150 clears it; 200 ms enter with the detail OWN; a peer's flag enters with the lowest
number, and not at standstill; a PARKED station names PARKED. -/
theorem test_witness_RollbackTest :
    ((rollbackTest (pushed (-151) true true none)).hold.rollbackTime = some 0 ∧
      (rollbackTest (pushed (-151) true true (some 190))).hold.rollbackTime = some 195 ∧
      (rollbackTest (pushed (-150) true true (some 190))).hold.rollbackTime = none) ∧
    ((rollbackTest (pushed (-151) true true (some 195))).faults.records.filterMap id).map (·.detail) = [some .own] ∧
    ((rollbackTest (pushed 0 false true none)).faults.records.filterMap id).map (·.detail) = [some (.peer 1)] ∧
    ((rollbackTest (pushed 0 false false none)).faults.records.filterMap id).map (·.detail) = [some (.peer 2)] ∧
    ((rollbackTest { pushed 0 false false none with life := .parked }).faults.records.filterMap id).map (·.detail) = [some .parked] ∧
    (rollbackTest (pushed 0 true false none)).hold.state = .free ∧
    (rollbackTest (pushed 0 false false none)).hold.armed = false := by decide +kernel

theorem test_rollback_timer :
    gives .rollbackTimerExpiry (rolling 200) (fun t => t.hold.state == .rollback
      && (t.faults.records.filterMap id).map (·.detail) == [some .own]) = true := by decide +kernel

theorem test_wheel_wake :
    gives .wheelMovementWake (nudged 5) (fun t => t.life == .run && t.hold.state == .rollback && t.port.seqStatus == 2
      && (t.port.statusSlot.any fun f => f.content.rollback && f.content.hold == .rollback && !f.content.parked)
      && (t.faults.records.filterMap id).map (·.detail) == [some .parked]) = true ∧
    gives .wheelMovementWake (nudged 4) (fun t => t.life == .parked) = true := by decide +kernel

/-- A station held in PARK whose park timer stands at `n`. -/
def parking (n : Nat) : Station := { requested .park 0 .park false .holding true with
  hold := { z0.hold with state := .holding, standstill := true, parkTime := some n } }

/-- R18, R152, R166: a sample that wakes the station, and one that parks it, builds its STATUS last: the hold state and the
rollback flag, the forward speeds and the candidate flags are all those of this sample. -/
theorem test_sample_status :
    gives .speedSample { nudged 5 with
        timeUs := 97405, axles := put (nudged 5).axles .a { (nudged 5).axles.a with edges := nineteen, candidate := false } }
      (fun t => t.life == .run && t.port.seqStatus == 2 && t.port.statusSlot.any fun f => f.content.rollback
        && f.content.hold == .rollback && f.content.forward == ⟨3999, 0⟩ && f.content.candidate == ⟨true, true⟩) = true ∧
    gives .speedSample (parking 1995) (fun t => t.life == .parked && t.port.seqStatus == 2
      && t.port.statusSlot.any fun f => f.content.parked && !f.content.rollback && f.content.hold == .holding) = true := by
  decide +kernel

/-- A station in HILL_START since time 0. -/
def climbing (now : Nat) : Station := { z0 with
  time := BitVec.ofNat 32 now, hold := { z0.hold with state := .hillStart, hillSince := some 0, holdForce := 9000 } }

theorem test_witness_ParkAndHillTimers :
    (running (parking 2000) = true ∧ (parking 2000).life = .run ∧ (parking 2000).hold.parkTime = some 2000 ∧ (parking 2000).store.write = none) ∧
    (∀ n ∈ (parking 1995).hold.parkTime, n < 2000) ∧ saving.store.write ≠ none ∧
    ((climbing 3000).hold.hillSince = some 0 ∧ 3000 ≤ age (climbing 3000).time 0) ∧ age (climbing 2999).time 0 < 3000 ∧
    z0.hold.state ≠ .hillStart := by decide +kernel

theorem test_park :
    gives .parkTimerExpiry (parking 2000) (fun t => t.life == .parked && t.store.write.isSome && t.port.seqStatus == 2) = true := by decide +kernel

/-- A station in HILL_START on a rise of 60‰ with 18,400 kg, so a need of 10,826 N, with its achieved traction and speed. -/
def starting (achieved v : Int) : Station :=
  { serving .drive .drive 600 60 with
    ref := { z0.ref with speed := v }
    link := { plant 40000 18000 with inverter := { (plant 40000 18000).inverter with
      report := some ⟨true, ⟨achieved, 0⟩, ⟨40000, 40000⟩, ⟨18000, 18000⟩⟩ } }
    blend := { (serving .drive .drive 600 60).blend with mass := 18400, axles := ⟨⟨9000, 9000, 9000, 0⟩, ⟨9000, 9000, 9000, 0⟩⟩ }
    hold := { z0.hold with state := .hillStart, hillSince := some 0, holdForce := 9000, friction := 9000 } }

/-- The same station without a usable inverter, with peers that sum to a traction. -/
def pulled (achieved : Nat) (released : Bool) : Station :=
  let c : StatusContent := { statusContent z0 with achieved := achieved, need := 0 }
  { starting 0 101 with
    link := z0.link, hold := { (starting 0 101).hold with trailerReleased := released }
    port := { z0.port with peers := z0.port.peers.set 1 ⟨.fresh, some ⟨c, 0, 1⟩⟩ } }

/-- R148 to R150: the friction falls by the achieved share of the need, and FREE comes at 0 friction above 100 mm/s. -/
theorem test_witness_HillSample :
    (((18400 : Int) * 9807 * 60).tdiv 1000000 = 10826 ∧ (9000 : Int) * (10826 - 5413) / 10826 = 4500) ∧
    ((hillSample (starting 5413 200)).hold.friction = 4500 ∧ (hillSample (starting 5413 200)).hold.state = .hillStart) ∧
    ((hillSample (starting 10826 100)).hold.friction = 0 ∧ (hillSample (starting 10826 100)).hold.state = .hillStart) ∧
    (hillSample (starting 10826 101)).hold.state = .free ∧
    ((hillSample (pulled 10825 false)).hold.trailerReleased = false ∧ (hillSample (pulled 10825 false)).hold.friction = 9000) ∧
    ((hillSample (pulled 10826 false)).hold.state = .free ∧ (hillSample (pulled 0 true)).hold.friction = 0) ∧
    hillSample z0 = z0 := by decide +kernel

/-- R145, R153, R154: forward motion of 30 mm/s releases HOLDING, and wakes a PARKED station; a level start ends when traction
appears; the hold force of 60‰ at 18,400 kg is 7,036 N, so 8,000; the park timer runs in RUN, PARK, standstill and HOLDING. -/
theorem test_witness_HoldSteps :
    ((releaseForward (slowing 30 false none)).hold.state = .free ∧ releaseForward (slowing 29 false none) = slowing 29 false none ∧
      releaseForward (slowing 30 true none) = slowing 30 true none ∧
      (releaseForward { slowing 30 false none with life := .parked }).life = .run) ∧
    (let z := { starting 0 0 with hold := { z0.hold with levelPending := true } }
     (levelStart true z).hold.state = .free ∧ levelStart false z = z ∧
      levelStart true { z with blend := { z.blend with axles := z0.blend.axles } } = { z with blend := { z.blend with axles := z0.blend.axles } }) ∧
    (let z := { pulled 10826 false with hold := { z0.hold with levelPending := true } }
     (levelStart true z).hold.state = .free ∧ levelStart true { z with port := z0.port } = { z with port := z0.port }) ∧
    ((holdPublish (starting 5413 0)).hold.holdForce = 8000 ∧ (holdPublish (starting 5413 0)).hold.friction = 9000 ∧
      (holdPublish (starting 5413 0)).hold.shown = .hillStart ∧ (holdPublish (starting 5413 0)).hold.achieved = 5413 ∧
      (holdPublish (starting 5413 0)).hold.need = 10826 ∧ (holdPublish (pulled 0 false)).hold.friction = 8000 ∧
      (holdPublish (pulled 0 true)).hold.friction = 0 ∧ (holdPublish z0).hold.need = 0) ∧
    ((parkTest (parking 1990)).hold.parkTime = some 1995 ∧ (parkTest (parking 1995)).life = .parked ∧
      (parkTest (slowing 0 true none)).hold.parkTime = none ∧ running (parking 1995) = true) := by decide +kernel

theorem test_hill_failed :
    gives .hillStartTimerExpiry (climbing 3000) (fun t => t.hold.state == .holding && t.hold.friction == 9000
      && (t.faults.records.filterMap id).map (·.kind) == [.hillStartFailed]) = true := by decide +kernel

/-! ## Trainline -/

/-- A DEMAND written out bit by bit from R158: BRAKE (010), END2, UP, chainage valid, driver sand, −1 mm/s², 5 dm. -/
theorem test_demand_bits :
    decodeDemand ([false, true, false, true, false, true, true, false] ++ List.replicate 16 true ++ List.replicate 21 false
      ++ [true, false, true]) = some ⟨.brake, .end2, .up, true, true, -1, 5⟩ := by decide +kernel

/-- A station that heard DRIVE at +600 from END1 `n` ms ago. -/
def driven (n : Nat) (conflict : Bool) : Station :=
  { z0 with
    time := BitVec.ofNat 32 n
    port := { z0.port with demands := ⟨some ⟨⟨.drive, .end1, .up, false, false, 600, 0⟩, 0, 1⟩, none⟩ }
    blend := { z0.blend with governing := some ⟨.end1, .drive, 600⟩, effMode := .drive, conflict := conflict } }

/-- BRAKE at −1,000 from END2, or DRIVE at +600. -/
def brakeDemand : Frame := demand 9 1 (demandBits 2 false false false false (-1000) 0)
def driveDemand : Frame := demand 9 1 (demandBits 0 false false false false 600 0)

theorem test_witness_DemandAccepted :
    (checkDemand brakeDemand = some (.end2, ⟨.brake, .end1, .up, false, false, -1000, 0⟩) ∧
      repeatsDemand (driven 99 false) .end2 brakeDemand.sequence = false ∧ running (driven 99 false) = true) ∧
    ((pick (driven 99 false).port.demands .a).map (fun r => decide (age (99 : Millis) r.arrived < 100)) = some true) ∧
    ((pick (driven 100 false).port.demands .a).map (fun r => decide (age (100 : Millis) r.arrived < 100)) = some false) ∧
    (checkDemand driveDemand).isSome = true ∧ (driven 99 false).link.loop.delivered ≠ some .loopOpen ∧
    (driven 99 false).blend.effMode ≠ .emergency ∧ (opened (driven 99 false)).link.loop.delivered = some .loopOpen ∧
    (nudged 0).life = .parked := by decide +kernel

/-- The example of R105: BRAKE at −1,000 governs, and the conflict is reported; beyond 100 ms the other record counts no more. -/
theorem test_conflict :
    gives (.demandArrival brakeDemand) (driven 99 false) (fun t => t.blend.governing == some ⟨.end2, .brake, -1000⟩ && t.blend.conflict
      && (t.faults.records.filterMap id).map (·.kind) == [.demandConflict]) = true ∧
    gives (.demandArrival driveDemand) (driven 100 true) (fun t => t.blend.governing == some ⟨.end2, .drive, 600⟩ && !t.blend.conflict) = true := by
  decide +kernel

theorem test_witness_DemandSilence :
    (running (driven 100 false) = true ∧ (driven 100 false).port.announced = false ∧ 100 ≤ age (driven 100 false).time z0.port.heardAt ∧
      (driven 100 false).port.demands ≠ ⟨none, none⟩ ∧ (driven 100 false).blend.effMode ≠ .emergency) ∧
    age (driven 99 false).time z0.port.heardAt < 100 ∧ z0.port.demands = ⟨none, none⟩ ∧
    (opened (driven 100 false)).link.loop.delivered = some .loopOpen ∧
    (let z := requested .drive 500 .emergency true .holding true
     z.blend.effMode = .emergency ∧ z.hold.standstill = true) := by decide +kernel

theorem test_demand_silence :
    gives .demandSilence (driven 100 false) (fun t => t.blend.served == .lineLoss && t.blend.governing == none && t.port.announced
      && (t.faults.records.filterMap id).map (·.kind) == [.demandLost]) = true ∧
    gives .demandSilence (driven 99 false) (fun t => t.blend.effMode == .drive) = true := by decide +kernel

/-- A STATUS of station 1 with a content. -/
def statusFrame (n : BitVec 4) (seq : BitVec 8) (c : StatusContent) : Frame := ⟨n, seq, BitVec.ofNat 8 (28 + 4 * c.takes.length), encodeStatus c⟩

/-- The braking station with a take of 4,041 N on station 1 linked to 41. -/
def taking : Station :=
  { spare (peerContent true 14148 0 41 []) (peerContent false 12724 0 0 []) with
    makeUp := { z0.makeUp with spare := 5088, takes := [⟨1, 41, 4041, true⟩] } }

/-- Station 1's record in a state, last heard at 0, at time `n`. -/
def aged (st : PeerState) (n : Nat) : Station :=
  { taking with
    time := BitVec.ofNat 32 n
    port := { taking.port with peers := taking.port.peers.set 1 ⟨st, some ⟨peerContent true 14148 0 41 [], 0, 1⟩⟩ } }

theorem test_witness_PeerRecords :
    (checkStatus (statusFrame 1 2 (peerContent true 14148 0 42 [])) = some (1, peerContent true 14148 0 42 []) ∧ running taking = true ∧
      1 ≠ taking.plug.number.val ∧ (∀ l ∈ (peerAt taking 1).latest, l.sequence ≠ 2) ∧ taking.makeUp.takes[0]? = some ⟨1, 41, 4041, true⟩) ∧
    ((peerAt (aged .fresh 61) 1).state = .fresh ∧ (peerAge (aged .fresh 61) 1).any (60 < ·) = true) ∧
    ((peerAge (aged .fresh 60) 1).all (· ≤ 60) = true ∧ (peerAge (aged .silent 2001) 1).any (2000 < ·) = true ∧
      (peerAge (aged .silent 2000) 1).all (· ≤ 2000) = true ∧ (peerAge (aged .parked 5001) 1).any (5000 < ·) = true) ∧
    (peerAt z0 3).state ≠ .fresh := by decide +kernel

/-- The example of R133: the take linked to 41 lapses on a STATUS with generation 42. -/
theorem test_lapse :
    gives (.statusArrival (statusFrame 1 2 (peerContent true 14148 0 42 []))) taking (fun t => t.makeUp.takes == [⟨1, 41, 4041, false⟩]) = true ∧
    gives (.statusArrival (statusFrame 1 2 (peerContent true 14148 0 41 []))) taking (fun t => t.makeUp.takes == [⟨1, 41, 4041, true⟩]) = true := by
  decide +kernel

theorem test_peer_silent :
    gives (.peerRecordSilent 1) (aged .fresh 61) (fun t => (peerAt t 1).state == .silent && t.makeUp.takes == [⟨1, 41, 4041, false⟩]) = true ∧
    gives (.peerRecordSilent 1) (aged .fresh 60) (fun t => (peerAt t 1).state == .fresh) = true := by decide +kernel

theorem test_peer_lost :
    gives (.peerLost 1) (aged .parked 5001) (fun t => (peerAt t 1).state == .lost
      && (t.faults.records.filterMap id).map (·.detail) == [some (.peer 1)]) = true ∧
    gives (.peerLost 1) (aged .parked 5000) (fun t => (peerAt t 1).state == .parked) = true := by decide +kernel

theorem test_witness_StatusBuild :
    running taking = true ∧ taking.makeUp.shortfall = 0 ∧ 0 < ({ z0.makeUp with shortfall := 300 }).shortfall ∧
    z0.map.lastClear = none ∧ (∀ r ∈ z0.faults.records, r = none) ∧
    (let t := recordFault (recordFault emptyTable 9 none .rollback none none) 5 none .wheelLock (some .a) none
     t.records = some ⟨.rollback, none, none, 9, 9, 1, none⟩ :: some ⟨.wheelLock, some .a, none, 5, 5, 1, none⟩ :: List.replicate 6 none ∧
     age (9 : Millis) 9 < age (9 : Millis) 5) := by decide +kernel

/-- R104, R128, R153: a STATUS shows the hold state of the latest sample, the sanders of the latest decision, and no figures of a
withdrawn make-up unit. -/
theorem test_status_as_handed_over :
    gives .statusBuild { taking with
        hold := { taking.hold with state := .hillStart, shown := .holding, achieved := 120 }
        sanders := put z0.sanders .a { z0.sanders.a with state := .flowing, box := 7000 }
        makeUp := { taking.makeUp with standing := .active, shortfall := 300, covered := 41 } }
      (fun t => t.port.statusSlot.any fun f => f.content.hold == .holding && f.content.achieved == 100 && f.content.sanders == ⟨.closed, .closed⟩
        && f.content.boxes == ⟨2000, 2000⟩ && f.content.short && f.content.balance == 300 && f.content.covered == 41) = true ∧
    gives .statusBuild { taking with makeUp := { taking.makeUp with standing := .withdrawn, shortfall := 300, covered := 41 } }
      (fun t => t.port.statusSlot.any fun f => !f.content.short && f.content.balance == 0 && f.content.covered == 0) = true ∧
    gives .sanderDecision (sanding 4000 5 (sander .closed 0 0 false)) (fun t => t.sanding.shownStates == ⟨.filling, .closed⟩
      && t.sanding.shownBoxes == ⟨9000000, 9000000⟩) = true := by decide +kernel

/-- R166, R181: the second STATUS; the oldest pending record is the one with the earliest first time. -/
theorem test_status_build :
    gives .statusBuild { z0 with time := 9, faults := recordFault (recordFault emptyTable 9 none .rollback none none) 5 none .wheelLock (some .a) none }
      (fun t => t.port.statusSlot.any fun f => f.sequence == 2 && f.built == 9 && f.content.faultCount == 2 && f.content.oldestKind == 2) = true := by
  decide +kernel

/-- The slots filled, or the line busy with a frame. -/
def slots (s : Option StatusFrame) (c : Option ClearFrame) (r : Option RailFrame) (l : Option LineFrame) (now : Nat) : Station :=
  { z0 with time := BitVec.ofNat 32 now, port := { z0.port with statusSlot := s, clearSlot := c, railSlot := r, onLine := l } }

def aStatus : StatusFrame := ⟨statusContent z0, 1, 0⟩
def aClear : ClearFrame := ⟨1, .all, 1⟩
def aRail : RailFrame := ⟨[obs .peak 1 1 90 0], 1⟩

theorem test_witness_TransmitSlots :
    running (slots none none none none 0) = true ∧ (slots (some aStatus) (some aClear) none none 0).port.onLine = none ∧
    (slots none (some aClear) (some aRail) none 0).port.statusSlot = none ∧ (slots none none (some aRail) none 0).port.clearSlot = none ∧
    (20 ≤ age (20 : Millis) aStatus.built ∧ age (19 : Millis) aStatus.built < 20) ∧
    (slots none none none (some (.status aStatus)) 19).port.onLine = some (.status aStatus) ∧
    (slots none none none (some (.rail aRail false)) 0).port.railSlot = none := by decide +kernel

theorem test_offer_order :
    gives .lineFreeOffer (slots (some aStatus) (some aClear) (some aRail) none 0) (fun t => t.port.onLine == some (.status aStatus)) = true ∧
    gives .lineFreeOffer (slots none (some aClear) (some aRail) none 0) (fun t => t.port.onLine == some (.mapClear aClear)) = true := by
  decide +kernel

theorem test_slot_expiry :
    gives .statusSlotExpiry (slots (some aStatus) none none none 20) (fun t => t.port.statusSlot == none) = true ∧
    gives .statusSlotExpiry (slots (some aStatus) none none none 19) (fun t => t.port.statusSlot == some aStatus) = true := by decide +kernel

theorem test_contention :
    gives .contentionLost (slots none none none (some (.status aStatus)) 19) (fun t => t.port.statusSlot == some aStatus && t.port.onLine == none) = true ∧
    gives .contentionLost (slots none none none (some (.status aStatus)) 20) (fun t => t.port.statusSlot == none) = true := by decide +kernel

/-- R167: a RAIL REPORT that lost an observation on the line is withdrawn at its return, and what waits is built afresh. -/
theorem test_witness_SpoiledReturn :
    (let z := { reported true with port := { (reported true).port with onLine := some (.rail ⟨[obs .peak 1 1 90 0], 4⟩ true) } }
     gives .contentionLost z (fun t => t.port.railSlot == some ⟨[obs .peak 1 1 90 0, obs .peak 2 1 90 1], 5⟩ && t.port.onLine == none) = true ∧
      gives .contentionLost { z with map := { z.map with outbox := [] } } (fun t => t.port.railSlot == none && t.port.seqRail == 4) = true) := by
  decide +kernel

/-- R82: the observation sent leaves the outbox, and the next RAIL REPORT is built from what waits. -/
theorem test_frame_sent :
    gives .frameSent (reported true) (fun t => t.map.outbox.map (·.obs) == [obs .peak 2 1 90 1] && t.port.onLine == none
      && t.port.railSlot == some ⟨[obs .peak 2 1 90 1], 5⟩) = true := by decide +kernel

theorem test_witness_DiscardedInputs :
    (running z0 = true ∧ checkDemand (demand 10 1 (demandBits 1 false false false false 0 0)) = none ∧
      checkDemand (demand 8 1 (demandBits 5 false false false false 0 0)) = none ∧ 5 ≤ field (demandBits 5 false false false false 0 0) 0 3) ∧
    ((checkDemand (demand 8 1 (demandBits 1 false false false false 0 0))).map (·.1) = some .end1 ∧
      (pick (driven 0 false).port.demands .a).map (·.sequence) = some 1) ∧
    checkStatus ⟨8, 0, 28, []⟩ = none ∧ (checkStatus (statusFrame 1 1 (peerContent true 1 0 0 []))).isSome = true ∧
    ((peerAt taking 1).latest.map (·.sequence) = some 1) ∧
    checkStatus (statusFrame 0 1 (peerContent true 14148 0 41 [])) = some (z0.plug.number.val, peerContent true 14148 0 41 []) ∧
    (z0.port.dupSeen = false ∧ checkRail 0 ⟨1, 0, 0, []⟩ = none ∧ checkClear ⟨10, 0, 6, []⟩ = none) ∧
    (([] : List Byte).length ≠ 16 ∧ (List.replicate 16 (1 : Byte)).getLast? ≠ some (byteSum (List.replicate 16 (1 : Byte)).dropLast)) ∧
    ((⟨[], 0⟩ : Request).sum ≠ byteSum [1] ∧ (req 1 [7]).sum = byteSum [1, 7] ∧ argLength 1 ≠ some 1) ∧
    ((0 : Byte) = 0 ∧ 10 < (11 : Byte).toNat) := by decide +kernel

/-- R159, frames as long as they say: STATUS of 28 and 56 bytes and not 60, a served mode of 6, a RAIL REPORT of 24 bytes and not
28, a MAP CLEAR of a cab and not of sender 10; R185: a RESTART with a wrong sum or with an argument. -/
theorem test_witness_DiscardedFrames :
    (let f := statusFrame 1 1 (peerContent true 1 0 0 [])
     f.bits.length = 8 * f.length.toNat ∧ (checkStatus f).isSome = true ∧ checkStatus { f with sender := 8 } = none ∧
      checkStatus ⟨1, 1, 28, List.replicate 224 true⟩ = none ∧ 6 ≤ field (List.replicate 224 true) 1 3 ∧
      (checkStatus ⟨1, 1, 56, List.replicate 448 false⟩).isSome = true ∧ checkStatus ⟨1, 1, 60, List.replicate 480 false⟩ = none) ∧
    ((checkRail 0 ⟨1, 0, 24, List.replicate 192 false⟩).isSome = true ∧ checkRail 0 ⟨1, 0, 28, List.replicate 224 false⟩ = none ∧
      checkRail 0 ⟨8, 0, 4, List.replicate 32 false⟩ = none) ∧
    ((checkClear ⟨9, 0, 6, List.replicate 48 false⟩).isSome = true ∧ checkClear ⟨10, 0, 6, List.replicate 48 false⟩ = none) ∧
    ((checkDemand (demand 9 1 (demandBits 4 false false false false 0 0))).isSome = true ∧
      (demandBits 4 false false false false 0 0).length = 8 * 6) ∧
    gives (.restart ⟨[], 0⟩ resetPlug .clean) z0 (fun t => t.reply == none && t.port.seqStatus == 1) = true ∧
    gives (.restart (req 10 [1]) resetPlug .clean) z0 (fun t => t.reply == some ⟨10, .badRequest, .empty⟩) = true := by decide +kernel

/-- R165, R138: the own number in a STATUS withdraws the make-up unit and is reported once. -/
theorem test_duplicate :
    gives (.statusArrival (statusFrame 0 1 (peerContent true 14148 0 41 []))) taking (fun t => t.makeUp.withdrawn && t.makeUp.takes == []
      && (t.faults.records.filterMap id).map (·.kind) == [.duplicateStation]) = true := by decide +kernel

theorem test_bad_request :
    gives (.badRequest 11 (req 11 [])) z0 (fun t => t.reply == some ⟨11, .badRequest, .empty⟩) = true ∧
    gives (.badRequest 11 ⟨[], 0⟩) z0 (fun t => t.reply == none) = true ∧
    gives (.readStatus (req 1 [7])) z0 (fun t => t.reply == some ⟨1, .badRequest, .empty⟩) = true := by decide +kernel

/-! ## Bogie link and plant lines -/

/-- Reports written out byte by byte from R171: health OK; achieved +1 N and −1 N; traction 40,000 N; brake 18,000 N. -/
def inverterBytes : List Byte := [0, 0, 0, 1, 255, 255, 255, 156, 64, 156, 64, 70, 80, 70, 80, 226]

/-- Health OK; friction 1 N and 2 N; loads 9,200 kg and 20,000 kg. -/
def brakeBytes : List Byte := [0, 0, 1, 0, 2, 35, 240, 78, 32, 132]

theorem test_report_bytes :
    decodeInverter inverterBytes = some ⟨true, ⟨1, -1⟩, ⟨40000, 40000⟩, ⟨18000, 18000⟩⟩ ∧
    decodeBrake brakeBytes = some ⟨true, ⟨1, 2⟩, ⟨9200, 20000⟩⟩ := by decide +kernel

/-- Both units LOST with `n` reports since, or PRESENT. -/
def linked (st : UnitState) (n now : Nat) : Station :=
  { z0 with
    time := BitVec.ofNat 32 now
    link := { z0.link with
      inverter := { z0.link.inverter with state := st, returns := n }, brake := { z0.link.brake with state := st, returns := n } } }

theorem test_witness_PlantRecords :
    (running (linked .lost 2 0) = true ∧ (linked .lost 2 0).plug.kind = .motor ∧ (decodeInverter inverterBytes).isSome = true ∧
      (decodeBrake brakeBytes).isSome = true) ∧
    ((linked .present 3 0).link.inverter.state = .present ∧ (linked .lost 1 0).link.brake.returns < 2) ∧
    (30 ≤ age (linked .present 3 30).time z0.link.inverter.silentSince ∧ age (linked .present 3 29).time z0.link.inverter.silentSince < 30) := by
  decide +kernel

/-- R174, R176: the third report makes the unit PRESENT, and the loads are clamped to 7,500 to 14,500 kg. -/
theorem test_brake_return :
    gives (.brakeUnitReport brakeBytes) (linked .lost 2 0) (fun t => t.link.brake.state == .present && t.link.loads == ⟨9200, 14500⟩) = true ∧
    gives (.brakeUnitReport brakeBytes) (linked .lost 1 0) (fun t => t.link.brake.state == .lost && t.link.loads == ⟨14500, 14500⟩) = true := by
  decide +kernel

theorem test_inverter_return :
    gives (.inverterReport inverterBytes) (linked .lost 2 0) (fun t => t.link.inverter.state == .present) = true := by decide +kernel

theorem test_plant_silence :
    gives (.plantSilenceExpiry .inverter) (linked .present 3 30) (fun t => t.link.inverter.state == .lost
      && (t.faults.records.filterMap id).map (·.kind) == [.plantLinkLost]) = true ∧
    gives (.plantSilenceExpiry .brakeUnit) (linked .present 3 29) (fun t => t.link.brake.state == .present) = true := by decide +kernel

/-- The loop read OPEN since 0, or the shoe-down sensor read DOWN since 0 with the track brake in a state. -/
def openSince (now : Nat) : Station := { quiet with time := BitVec.ofNat 32 now, link := { z0.link with loop := ⟨.loopOpen, 0, some .loopClosed⟩ } }
def shoeSince (now : Nat) (mtb : TrackBrake) : Station :=
  { shoes .brake .brake 900 mtb none none 0 with time := BitVec.ofNat 32 now, link := { z0.link with shoe := ⟨.down, 0, none⟩ } }

theorem test_witness_PlantInputs :
    (z0.link.loop.raw = .loopClosed ∧ z0.link.loop.raw ≠ .loopOpen ∧ z0.link.shoe.raw = .notDown) ∧
    (running (openSince 10) = true ∧ 10 ≤ age (openSince 10).time 0 ∧ (openSince 10).link.loop.delivered ≠ some .loopOpen ∧
      age (openSince 9).time 0 < 10 ∧ (openSince 10).link.loop.raw = .loopOpen) ∧
    (10 ≤ age (shoeSince 10 .lowering).time 0 ∧ (shoeSince 10 .lowering).link.shoe.delivered ≠ some .down ∧
      (shoeSince 10 .lowering).plug.trackBrake = true) ∧
    (let z := { shoeSince 10 .down with link := { z0.link with shoe := ⟨.notDown, 0, some .down⟩ } }
     z.link.shoe.delivered ≠ some z.link.shoe.raw ∧ z.blend.mtb = .down) ∧ (shoeSince 10 .up).blend.mtb = .up := by decide +kernel

theorem test_loop_change :
    gives (.emergencyLoopChange .loopOpen) { z0 with time := 7 } (fun t => t.link.loop.raw == .loopOpen && t.link.loop.changedAt == 7) = true := by
  decide +kernel

theorem test_loop_delivery :
    gives .emergencyLoopDelivery (openSince 10) (fun t => t.blend.served == .emergency && t.blend.accel == some (-2800)) = true ∧
    gives .emergencyLoopDelivery (openSince 9) (fun t => t.blend.served == .lineLoss) = true := by decide +kernel

theorem test_shoe_change :
    gives (.shoeDownSensorChange .down) { z0 with time := 7 } (fun t => t.link.shoe.raw == .down && t.link.shoe.changedAt == 7) = true := by
  decide +kernel

theorem test_shoe_delivery :
    gives .shoeDownDelivery (shoeSince 10 .lowering) (fun t => t.blend.mtb == .down && t.blend.loweringSince == none) = true ∧
    gives .shoeDownDelivery (shoeSince 9 .lowering) (fun t => t.blend.mtb == .lowering) = true := by decide +kernel

/-! ## Fault table and service connector -/

theorem test_witness_ReadsAndFaultCommands :
    running z0 = true ∧ sumOk 1 (req 1 []) = true ∧ sumOk 2 (req 2 []) = true ∧ sumOk 6 (req 6 []) = true ∧ sumOk 4 (req 4 []) = true ∧
    sumOk 5 (req 5 []) = true ∧ (sumOk 3 (req 3 [7]) = true ∧ (req 3 [7]).args.length = 1 ∧ bytesAt (req 3 [7]).args 0 1 ≤ 7) ∧
    7 < bytesAt (req 3 [8]).args 0 1 := by decide +kernel

/-- A table with kinds enough to fill it, and one more. -/
def fullTable : FaultTable :=
  [.wheelLock, .rollback, .demandLost, .peerLost, .mtbNotDown, .sandEmpty, .storeInvalid, .brakeUnitLost, .demandConflict].foldl
    (fun t k => recordFault t 3 none k none none) emptyTable

theorem test_clear_fault :
    gives (.clearFault (req 3 [7])) { z0 with faults := fullTable } (fun t => (t.faults.records.filterMap id).length == 7 && t.faults.overflow
      && t.reply == some ⟨3, .ok, .empty⟩) = true ∧
    gives (.clearFault (req 3 [8])) { z0 with faults := fullTable } (fun t => t.reply == some ⟨3, .badValue, .empty⟩) = true := by decide +kernel

theorem test_clear_all :
    gives (.clearAllFaults (req 4 [])) { z0 with faults := fullTable } (fun t => t.faults == ⟨List.replicate 8 none, true⟩) = true := by decide +kernel

theorem test_clear_overflow :
    gives (.clearOverflow (req 5 [])) { z0 with faults := fullTable } (fun t => !t.faults.overflow && (t.faults.records.filterMap id).length == 8) = true := by
  decide +kernel

theorem test_reads :
    gives (.readFaults (req 2 [])) { z0 with faults := fullTable } (fun t => t.reply == some ⟨2, .ok, .faults fullTable.records true⟩) = true ∧
    gives (.readMap (req 6 [])) (mapped 9 [entry 4 (some ⟨90, 2⟩) none none] []) (fun t =>
      t.reply == some ⟨6, .ok, .map ⟨[⟨4, some (90, 7), none, none, .own, .up, 1⟩], [], none⟩⟩) = true ∧
    gives (.readStatus (req 1 [])) z0 (fun t => match t.reply with | some ⟨1, .ok, .status i⟩ => i.refStatus == .unseeded | _ => false) = true := by
  decide +kernel

theorem test_witness_FaultRecording :
    (let t := recordFault emptyTable 1 none .rollback none none
     t.records = [] ++ some ⟨.rollback, none, none, 1, 1, 1, none⟩ :: List.replicate 7 none ∧
     (∀ o ∈ t.records, o.all (fun r => !(r.kind == .demandLost)) = true) ∧ t.overflow = false ∧ none ∉ t.records.take 1) ∧
    (fullTable.overflow = true ∧ none ∉ fullTable.records) := by decide +kernel

/-- R180: a full table keeps a known kind's count and sets the overflow flag on a new kind. -/
theorem test_overflow :
    fullTable.overflow = true ∧ (recordFault fullTable 9 none .wheelLock none none).records.head? =
      some (some ⟨.wheelLock, none, none, 3, 9, 2, none⟩) := by decide +kernel

theorem test_witness_OverflowLaw :
    FaultLaw { z0 with faults := fullTable } ∧ ({ z0 with faults := ⟨List.replicate 8 none, true⟩ } : Station).faults.overflow = true ∧
    gives (.clearFault (req 3 [7])) { z0 with faults := fullTable } (fun t => t.faults.overflow) = true ∧
    (Instr.sweep ≠ .clearOverflow (req 5 [])) := by
  refine ⟨?_, by decide +kernel, by decide +kernel, by decide⟩
  show fullTable.records.length = 8
  decide +kernel

/-- A full block of default figures as a request, and one whose first figure is out of range. -/
def writeRequest (fields : List Int) : Request := req 9 (fields.flatMap fun v => natToBytes 4 (ofSigned 32 v))
def strapped (h : HoldState) : Station := { z0 with plug := { z0.plug with serviceStrap := true }, hold := { z0.hold with state := h } }

theorem test_witness_WriteCommissioning :
    running (strapped .holding) = true ∧ sumOk 9 (writeRequest defaultFields) = true ∧ (writeRequest defaultFields).args.length = 1048 ∧
    decodeFields 262 (writeRequest defaultFields).args = defaultFields ∧ (List.zipWith inRange blockRanges defaultFields).all id = true ∧
    inRange (.span 60 120) 121 = false ∧ z0.plug.serviceStrap = false ∧ (strapped .free).hold.state ≠ .holding ∧ saving.store.write ≠ none := by
  decide +kernel

theorem test_write_commissioning :
    gives (.writeCommissioning (writeRequest defaultFields)) (strapped .holding) (fun t => t.reply == some ⟨9, .ok, .empty⟩
      && t.store.write == some (.commissioning defaultFields 0)) = true ∧
    gives (.writeCommissioning (writeRequest (121 :: defaultFields.tail))) (strapped .holding) (fun t =>
      t.reply == some ⟨9, .badValue, .empty⟩ && t.store.write == none) = true ∧
    gives (.writeCommissioning (writeRequest defaultFields)) (strapped .free) (fun t => t.reply == some ⟨9, .refusedMotion, .empty⟩) = true ∧
    gives (.writeCommissioning (writeRequest defaultFields)) z0 (fun t => t.reply == some ⟨9, .refusedLocked, .empty⟩) = true := by decide +kernel

/-! ## Frames and laws -/

theorem z0_content_fits : StatusFits (statusContent z0) := by
  have h : (statusContent z0).mapCell = none := by decide +kernel
  unfold StatusFits
  simp only [h, reduceCtorEq, false_implies, implies_true, true_and]
  decide +kernel

/-- R158, R171: signed figures at the ends of their ranges, and a chainage at and beyond 999,999 dm. -/
theorem test_witness_Decodes :
    (-(2 ^ (16 - 1)) ≤ (-32768 : Int) ∧ asSigned 16 (ofSigned 16 (-32768)) = -32768 ∧ asSigned 24 (ofSigned 24 8388607) = 8388607) ∧
    decodeDemand (natToBits 3 4 ++ [true, true, true, false, true] ++ natToBits 16 (ofSigned 16 (-32768)) ++ natToBits 24 999999) =
      some ⟨.park, .end2, .down, true, false, -32768, 999999⟩ ∧
    decodeDemand (natToBits 3 0 ++ [false, false, true, true, false] ++ natToBits 16 (ofSigned 16 32767) ++ natToBits 24 1000000) =
      some ⟨.drive, .end1, .up, false, true, 32767, 1000000⟩ ∧
    decodeInverter (withSum ([1] ++ natToBytes 3 (ofSigned 24 (-8388608)) ++ natToBytes 3 (ofSigned 24 8388607) ++ natToBytes 2 65535 ++
      natToBytes 2 0 ++ natToBytes 2 1 ++ natToBytes 2 256)) = some ⟨false, ⟨-8388608, 8388607⟩, ⟨65535, 0⟩, ⟨1, 256⟩⟩ ∧
    decodeBrake (withSum ([0] ++ natToBytes 2 65535 ++ natToBytes 2 0 ++ natToBytes 2 1 ++ natToBytes 2 256)) =
      some ⟨true, ⟨65535, 0⟩, ⟨1, 256⟩⟩ := by decide +kernel

theorem test_witness_FrameRoundTrips :
    StatusFits (statusContent z0) ∧ ObservationFits (obs .sanded 32767 31 511 0) ∧ GranularityFits (.cells 65535 65535) ∧
    (3 ≤ 3 ∧ 15 ≤ 15 ∧ 255 ≤ 255) :=
  ⟨z0_content_fits, ⟨by decide, by decide, by decide⟩, ⟨by decide, by decide⟩, by decide⟩

/-- A step with a command in front answers a next state. -/
def stepsOn (c : Instr) (z : Station) : Bool :=
  match step ⟨[c], z⟩ with
  | .next _ => true
  | .fault _ | .refused _ => false

/-- A map of two entries keeps its law, and a sweep answers a next state. -/
theorem test_witness_MapLawKept :
    let z := mapped 5 [entry 1 (some ⟨90, 0⟩) none none, entry 2 none (some ⟨90, 0⟩) none] []
    MapLaw z ∧ stepsOn .sweep z = true := by
  refine ⟨⟨by decide +kernel, by decide +kernel, fun e h => ?_⟩, by decide +kernel⟩
  have : e = entry 1 (some ⟨90, 0⟩) none none ∨ e = entry 2 none (some ⟨90, 0⟩) none := by simpa [mapped] using h
  rcases this with rfl | rfl
  · exact ⟨by decide, by decide, by decide, fun p a _ h2 => by cases h2⟩
  · exact ⟨by decide, by decide, by decide, fun p a h1 _ => by cases h1⟩

theorem test_witness_OutboxLawKept :
    OutboxLaw (reported true) ∧ stepsOn .frameSent (reported true) = true :=
  ⟨reported_line, by decide +kernel⟩

/-- A PARKED station by its laws, and a braking one with its track brake LOWERING. -/
theorem test_witness_ModeLawsKept :
    (ModeLaw z0 ∧ HoldLaw z0 ∧ TrackBrakeLaw z0) ∧
    (let z := { nudged 5 with blend := { (nudged 5).blend with served := .hold, accel := none } }
     ModeLaw z ∧ HoldLaw z ∧ stepsOn .wheelMovementWake z = true) ∧
    TrackBrakeLaw (shoes .brake .brake 900 .lowering none none 0) := by
  refine ⟨⟨z0_mode, z0_hold, ⟨by decide +kernel, by decide +kernel, by decide +kernel, by decide +kernel⟩⟩, ⟨?_, ?_, by decide +kernel⟩,
    ⟨by decide +kernel, by decide +kernel, by decide +kernel, by decide +kernel⟩⟩
  · exact ⟨by decide +kernel, by decide +kernel, by decide +kernel, by decide +kernel, by decide +kernel⟩
  · exact ⟨by decide +kernel, by decide +kernel, fun _ => ⟨by decide +kernel, fun g h => by cases h; rfl⟩, by decide +kernel⟩

theorem test_witness_TakesLawKept :
    TakesLaw taking ∧ stepsOn (.peerRecordSilent 1) taking = true := by
  refine ⟨⟨by decide +kernel, fun t h _ => ?_⟩, by decide +kernel⟩
  have : t = ⟨1, 41, 4041, true⟩ := by simpa [taking] using h
  subst this
  exact ⟨peerContent true 14148 0 41 [], by decide +kernel, by decide +kernel, by decide +kernel⟩

theorem test_witness_ValvesLawKept :
    ValvesLaw (sanding 4000 205 dosing) ∧ FillingLaw (sanding 4000 205 dosing) ∧
      stepsOn (.openTimeEnd .end1) (sanding 4000 205 dosing) = true :=
  ⟨⟨⟨by decide +kernel, by decide +kernel⟩, ⟨by decide +kernel, by decide +kernel⟩⟩,
    fun x => by cases x <;> exact ⟨by decide +kernel, by decide +kernel⟩, by decide +kernel⟩

end Sys2Proof.Tests
end

section
/-! SUPPORT. The axle unit through a speed sample: which operations of a sample leave an axle's record apart from its flags as
it was, the usable run of R3 and the speed formed from it. -/

namespace Sys2Proof.Machine

/-! ## An axle unit apart from its flags

The sensor status, the candidate flag, the edges seen since the sample and those since the PARKED entry are what a sample
still writes into an axle unit after its step 5. -/

/-- An axle unit with its flags blanked. -/
def withoutFlags (a : AxleUnit) : AxleUnit := { a with sensor := .ok, candidate := false, edgeSeen := false, wakeEdges := [] }

/-- The axle units of a station apart from their flags. -/
def axleRecord (s : Station) (x : Axle) : AxleUnit := withoutFlags (pick s.axles x)

/-- Two axle units that agree apart from their flags agree in what R3 and R4 form. -/
theorem speed_of_withoutFlags {a b : AxleUnit} (h : withoutFlags a = withoutFlags b) :
    a.speed = b.speed ∧ a.forward = b.forward ∧ a.lowSpeed = b.lowSpeed := by
  have speed := congrArg AxleUnit.speed h
  have forward := congrArg AxleUnit.forward h
  have low := congrArg AxleUnit.lowSpeed h
  exact ⟨speed, forward, low⟩

theorem axleRecord_of_axles {s t : Station} (h : t.axles = s.axles) : axleRecord t = axleRecord s := by
  unfold axleRecord; rw [h]

/-! ## The operations that keep the axle records -/

@[simp] theorem axleRecord_setCreep (s : Station) (x : Axle) (c : AxleCreep) : axleRecord (setCreep s x c) = axleRecord s := rfl

@[simp] theorem axleRecord_failSensor (x : Axle) (s : Station) : axleRecord (failSensor x s) = axleRecord s := by
  funext y; cases x <;> cases y <;> rfl

@[simp] theorem axleRecord_sensorSilence (x : Axle) (s : Station) : axleRecord (sensorSilence x s) = axleRecord s := by
  unfold sensorSilence
  split
  · exact axleRecord_failSensor x s
  · rfl

@[simp] theorem axleRecord_moveReference (s : Station) : axleRecord (moveReference s) = axleRecord s := by
  obtain ⟨r, f, h⟩ := moveReference_frame s
  rw [h]; rfl

@[simp] theorem axleRecord_positionSample (s : Station) : axleRecord (positionSample s) = axleRecord s := by
  obtain ⟨p, k, a, d, h⟩ := positionSample_frame s
  rw [h]; rfl

/-- R154: the PARKED entry clears the wake edges alone. -/
@[simp] theorem axleRecord_enterParked (s : Station) : axleRecord (enterParked s) = axleRecord s := by
  unfold enterParked
  obtain ⟨t, h⟩ := requestSave_frame { s with
    life := .parked
    hold := { s.hold with parkTime := none }
    axles := ⟨{ s.axles.a with wakeEdges := [] }, { s.axles.b with wakeEdges := [] }⟩ }
  rw [h]
  funext x; cases x <;> rfl

@[simp] theorem axleRecord_parkTest (s : Station) : axleRecord (parkTest s) = axleRecord s := by
  unfold parkTest parkExpiry
  simp only
  split
  · exact axleRecord_enterParked _
  · rfl

@[simp] theorem axleRecord_holdPublish (s : Station) : axleRecord (holdPublish s) = axleRecord s := rfl

/-- R141: of the hold unit's part of a sample, only the park test reaches the axle units. -/
@[simp] theorem axleRecord_holdSample (s : Station) : axleRecord (holdSample s) = axleRecord s := by
  have still (t : Station) : (stillTest t).axles = t.axles := by
    obtain ⟨_, _, _, _, _, _, _, _, h⟩ := stillTest_frame t; rw [h]
  have wheel (t : Station) : (wheelWake t).axles = t.axles := by
    obtain ⟨_, _, _, _, _, _, h⟩ := wheelWake_frame t; rw [h]
  have rollback (t : Station) : (rollbackTest t).axles = t.axles := by
    obtain ⟨_, _, _, _, _, _, h⟩ := rollbackTest_frame t; rw [h]
  have forward (t : Station) : (releaseForward t).axles = t.axles := by
    obtain ⟨_, _, h⟩ := releaseForward_frame t; rw [h]
  have level (b : Bool) (t : Station) : (levelStart b t).axles = t.axles := by
    obtain ⟨_, h⟩ := levelStart_frame b t; rw [h]
  have hill (t : Station) : (hillSample t).axles = t.axles := by
    obtain ⟨_, h⟩ := hillSample_frame t; rw [h]
  unfold holdSample
  rw [axleRecord_holdPublish, axleRecord_parkTest]
  apply axleRecord_of_axles
  rw [hill, level, forward, rollback, wheel, still]

/-! ### Creep controller: only a release timer's expiry reaches the axle units -/

@[simp] theorem axleRecord_lockedRule (x : Axle) (s : Station) : axleRecord (lockedRule x s) = axleRecord s := by
  obtain ⟨_, _, lock⟩ := wheelLockExpiry_frame x s
  have release (t : Station) : axleRecord (releaseSample x t) = axleRecord t := by
    unfold releaseSample releaseExpiry
    simp only
    split
    · split
      · rw [axleRecord_failSensor, axleRecord_setCreep]
      · rfl
    · rfl
  unfold lockedRule
  split
  · rfl
  · rw [release]
    exact axleRecord_of_axles (by rw [lock])

@[simp] theorem axleRecord_ownRule (x : Axle) (s : Station) : axleRecord (ownRule x s) = axleRecord s := by
  unfold ownRule
  split
  · obtain ⟨_, h⟩ := adheringRule_frame x s; exact axleRecord_of_axles (by rw [h])
  · obtain ⟨_, h⟩ := regulatingRule_frame x s; exact axleRecord_of_axles (by rw [h])
  · obtain ⟨_, _, h⟩ := slippingRule_frame x s; exact axleRecord_of_axles (by rw [h])
  · obtain ⟨_, _, _, _, h⟩ := recoveringRule_frame x s; exact axleRecord_of_axles (by rw [h])
  · obtain ⟨_, h⟩ := reapplyingRule_frame x s; exact axleRecord_of_axles (by rw [h])
  · exact axleRecord_lockedRule x s

@[simp] theorem axleRecord_runTests (x : Axle) (s : Station) : axleRecord (runTests x s) = axleRecord s := by
  unfold runTests
  simp only
  split
  · obtain ⟨_, h⟩ := lockExpiry_frame x s
    rw [axleRecord_lockedRule]
    exact axleRecord_of_axles (by rw [h])
  · split
    · obtain ⟨_, _, _, _, h⟩ := enterSlipping_frame x s
      obtain ⟨_, _, h2⟩ := slippingRule_frame x (enterSlipping x s)
      exact axleRecord_of_axles (by rw [h2, h])
    · exact axleRecord_ownRule x s

@[simp] theorem axleRecord_machineSample (x : Axle) (s : Station) : axleRecord (machineSample x s) = axleRecord s := by
  have tests : axleRecord (runTests x (advanceLock x s)) = axleRecord s := axleRecord_runTests x (advanceLock x s)
  unfold machineSample
  simp only
  split
  · split <;> exact tests
  · rfl

@[simp] theorem axleRecord_runMachines (b : Bool) (s : Station) : axleRecord (runMachines b s) = axleRecord s := by
  have rest (x : Axle) (t : Station) : (restSample x t).axles = t.axles := by
    obtain ⟨_, h⟩ := restSample_frame x t; rw [h]
  have grow (x : Axle) (t : Station) : (growStateTime x t).axles = t.axles := by
    obtain ⟨_, h⟩ := growStateTime_frame x t; rw [h]
  have turn (x : Axle) (t : Station) : (redirect x t).axles = t.axles := by
    obtain ⟨_, h⟩ := redirect_frame x t; rw [h]
  have moving : axleRecord (machineSample .b (machineSample .a (if b then redirect .b (redirect .a
      (growStateTime .b (growStateTime .a s))) else growStateTime .b (growStateTime .a s)))) = axleRecord s := by
    rw [axleRecord_machineSample, axleRecord_machineSample]
    apply axleRecord_of_axles
    split
    · rw [turn, turn, grow, grow]
    · rw [grow, grow]
  unfold runMachines
  split
  · exact axleRecord_of_axles (by rw [rest, rest])
  all_goals exact moving

/-- What the creep controller does after its state machines leaves the axle units. -/
theorem creepSample_tail_axles (changed : Bool) (force : Nat) (s : Station) :
    (formOrder .b (formOrder .a (sampleCell changed force (turnCell (followPartners s))))).axles = s.axles := by
  have follow (t : Station) : (followPartners t).axles = t.axles := by
    obtain ⟨_, h⟩ := followPartners_frame t; rw [h]
  have turn (t : Station) : (turnCell t).axles = t.axles := by
    obtain ⟨_, _, _, h⟩ := turnCell_frame t; rw [h]
  have cell (t : Station) : (sampleCell changed force t).axles = t.axles := by
    obtain ⟨_, h⟩ := sampleCell_frame changed force t; rw [h]
  have order (x : Axle) (t : Station) : (formOrder x t).axles = t.axles := by
    obtain ⟨_, h⟩ := formOrder_frame x t; rw [h]
  rw [order, order, cell, turn, follow]

/-- What the creep controller does before its state machines leaves the axle units. -/
theorem creepSample_head_axles (seeded : Bool) (s : Station) :
    (queryAhead (if seeded then emptyHistories (pruneReslips .b (pruneReslips .a (reslipExpiry .b (reslipExpiry .a s))))
      else pruneReslips .b (pruneReslips .a (reslipExpiry .b (reslipExpiry .a s))))).axles = s.axles := by
  have expiry (x : Axle) (t : Station) : (reslipExpiry x t).axles = t.axles := by
    obtain ⟨_, h⟩ := reslipExpiry_frame x t; rw [h]
  have query (t : Station) : (queryAhead t).axles = t.axles := by
    obtain ⟨_, h⟩ := queryAhead_frame t; rw [h]
  have prune (x : Axle) (t : Station) : (pruneReslips x t).axles = t.axles := rfl
  have empty (t : Station) : (emptyHistories t).axles = t.axles := rfl
  rw [query]
  split
  · rw [empty, prune, prune, expiry, expiry]
  · rw [prune, prune, expiry, expiry]

@[simp] theorem axleRecord_creepSample (seeded : Bool) (s : Station) : axleRecord (creepSample seeded s) = axleRecord s := by
  unfold creepSample
  simp only
  rw [axleRecord_of_axles (creepSample_tail_axles _ _ _), axleRecord_runMachines,
    axleRecord_of_axles (creepSample_head_axles _ _)]
  rfl

@[simp] theorem axleRecord_command (seeded : Bool) (s : Station) : axleRecord (command seeded s) = axleRecord s := by
  have flags (t : Station) : axleRecord (sendOrders (flagCandidates t)) = axleRecord t := by
    funext x; cases x <;> rfl
  exact (flags _).trans (axleRecord_creepSample seeded s)

/-- R5: after its step 5 a sample writes nothing into an axle unit but its flags. -/
theorem axleRecord_speedSample (s : Station) :
    axleRecord (speedSample s) =
      axleRecord (learnSample .b (learnSample .a (moveReference (measure { s with lastSample := s.time })))) := by
  obtain ⟨_, h⟩ := announced_frame sampleSteps s
  calc axleRecord (speedSample s)
      = axleRecord (sampleSteps s) := axleRecord_of_axles (by unfold speedSample; rw [h])
    _ = _ := by
      unfold sampleSteps judge
      simp only [axleRecord_command, axleRecord_holdSample, axleRecord_positionSample]

/-! ## Axle speeds (R2 to R4) -/

/-- R14, R15: a learning sample writes the trim and its timer alone. -/
theorem learnSample_axle (x y : Axle) (s : Station) :
    ∃ trim time sense, pick (learnSample x s).axles y =
      { pick s.axles y with trim := trim, learnTime := time, learnSense := sense } := by
  have keep (d : Option Deviation) (a : AxleUnit) : ∃ time sense, advanceLearning d a =
      { a with learnTime := time, learnSense := sense } := by
    unfold advanceLearning
    split
    · exact ⟨_, _, rfl⟩
    · split <;> exact ⟨_, _, rfl⟩
  obtain ⟨time, sense, advanced⟩ := keep (learningSense s x) (pick s.axles x)
  unfold learnSample trimExpiry
  rw [advanced]
  simp only
  split
  · split <;> cases x <;> cases y <;> exact ⟨_, _, _, rfl⟩
  · cases x <;> cases y <;> exact ⟨_, _, _, rfl⟩

/-- The learning samples of both axles leave the speeds. -/
theorem learnSample_speed (x : Axle) (s : Station) :
    (pick (learnSample .b (learnSample .a s)).axles x).speed = (pick s.axles x).speed ∧
      (pick (learnSample .b (learnSample .a s)).axles x).forward = (pick s.axles x).forward ∧
      (pick (learnSample .b (learnSample .a s)).axles x).lowSpeed = (pick s.axles x).lowSpeed := by
  obtain ⟨_, _, _, learnB⟩ := learnSample_axle .b x (learnSample .a s)
  obtain ⟨_, _, _, learnA⟩ := learnSample_axle .a x s
  rw [learnB, learnA]
  exact ⟨rfl, rfl, rfl⟩

/-- The axle unit of an axle with the speed, the forward speed and the LOW_SPEED flag of a sample. -/
def sampledAxle (s : Station) (x : Axle) : AxleUnit :=
  let a := pick s.axles x
  let r := speedOfRun (pulseDistance (pick s.figs.diameter x) a.trim s.figs.teeth) (usableRun s.timeUs a.edges)
  { a with speed := r.1, forward := forwardOf s.pos.leadingEnd r.1, lowSpeed := r.2 }

/-- R5, steps 1 to 3: measuring gives each axle the speeds of its own edges. -/
theorem axleRecord_measure (s : Station) (x : Axle) : axleRecord (measure s) x = withoutFlags (sampledAxle s x) := by
  obtain ⟨r, h⟩ := negateReference_frame s
  unfold measure
  rw [axleRecord_sensorSilence, axleRecord_sensorSilence, h]
  cases x <;> rfl

/-- The speeds that a whole sample leaves are those that its measuring formed. -/
theorem speedSample_speed (s : Station) (x : Axle) :
    (pick (speedSample s).axles x).speed = (sampledAxle s x).speed ∧
      (pick (speedSample s).axles x).forward = (sampledAxle s x).forward ∧
      (pick (speedSample s).axles x).lowSpeed = (sampledAxle s x).lowSpeed := by
  have measured : axleRecord (moveReference (measure { s with lastSample := s.time })) x = withoutFlags (sampledAxle s x) :=
    (congrFun (axleRecord_moveReference _) x).trans (axleRecord_measure { s with lastSample := s.time } x)
  obtain ⟨speed, forward, low⟩ := speed_of_withoutFlags (congrFun (axleRecord_speedSample s) x)
  obtain ⟨speed', forward', low'⟩ := learnSample_speed x (moveReference (measure { s with lastSample := s.time }))
  obtain ⟨speed'', forward'', low''⟩ := speed_of_withoutFlags measured
  exact ⟨speed.trans (speed'.trans speed''), forward.trans (forward'.trans forward''), low.trans (low'.trans low'')⟩

/-! ### The usable run (R3) -/

theorem continues_eq_takeWhile (now : Micros) (dir : Bool) (l : List Edge) :
    continues now dir l = l.takeWhile fun e => decide (e.toEnd1 = dir ∧ age now e.stamp ≤ 100000) := by
  induction l with
  | nil => rfl
  | cons e l ih => simp only [continues, List.takeWhile_cons, ih, decide_eq_true_eq]

/-- A run that each edge of it continues, and the edge after it does not, is all that continues. -/
theorem continues_append (now : Micros) (dir : Bool) (run rest : List Edge)
    (hrun : ∀ e ∈ run, e.toEnd1 = dir ∧ age now e.stamp ≤ 100000)
    (hrest : ∀ e, rest.head? = some e → ¬(e.toEnd1 = dir ∧ age now e.stamp ≤ 100000)) :
    continues now dir (run ++ rest) = run := by
  rw [continues_eq_takeWhile, List.takeWhile_append_of_pos (by simpa using hrun)]
  cases rest with
  | nil => simp
  | cons e rest =>
    rw [List.takeWhile_cons_of_neg (by simpa only [decide_eq_true_eq] using hrest e rfl), List.append_nil]

/-- R3: the usable run is the longest run from the newest edge of one direction and no more than 100,000 µs old. -/
theorem usableRun_append (now : Micros) (run rest : List Edge)
    (hrun : ∀ e ∈ run, age now e.stamp ≤ 100000 ∧ run.head?.map (·.toEnd1) = some e.toEnd1)
    (hrest : ∀ e, rest.head? = some e → age now e.stamp ≤ 100000 → run ≠ [] ∧ run.head?.map (·.toEnd1) ≠ some e.toEnd1) :
    usableRun now (run ++ rest) = run := by
  cases run with
  | nil =>
    cases rest with
    | nil => rfl
    | cons e rest =>
      have old : ¬ age now e.stamp ≤ 100000 := fun h => (hrest e rfl h).1 rfl
      rw [List.nil_append, usableRun, if_neg old]
  | cons n run =>
    have young : age now n.stamp ≤ 100000 := (hrun n List.mem_cons_self).1
    have tail : continues now n.toEnd1 (run ++ rest) = run := by
      refine continues_append now n.toEnd1 run rest (fun e he => ?_) (fun e he => ?_)
      · obtain ⟨hage, hdir⟩ := hrun e (List.mem_cons_of_mem n he)
        exact ⟨(Option.some.inj hdir).symm, hage⟩
      · rintro ⟨hdir, hage⟩
        exact (hrest e he hage).2 (congrArg some hdir.symm)
    rw [List.cons_append, usableRun, if_pos young, tail]

/-- R3: a usable run of fewer than two edges gives 0 with LOW_SPEED. -/
theorem speedOfRun_short (pulse : Int) (run : List Edge) (h : run.length < 2) : speedOfRun pulse run = (0, true) := by
  match run, h with
  | [], _ => rfl
  | [_], _ => rfl

/-- R3: a usable run of two edges or more gives its intervals × pulse distance × 1,000 / time, at most 25,000. -/
theorem speedOfRun_long (pulse : Int) (run : List Edge) (newest oldest : Edge) (h : 2 ≤ run.length)
    (hn : run.head? = some newest) (ho : run.getLast? = some oldest) :
    speedOfRun pulse run =
      ((if newest.toEnd1 then 1 else -1) * min 25000 ((((run.length - 1 : Nat) : Int) * pulse * 1000).tdiv
        (max 1 (age newest.stamp oldest.stamp))), false) := by
  match run, h with
  | e :: f :: l, _ =>
    obtain rfl : e = newest := Option.some.inj hn
    simp only [speedOfRun, ho]
    cases e.toEnd1 <;> simp

theorem forwardOf_eq (e : CabEnd) (v : Int) : forwardOf e v = if e = .end1 then v else -v := by cases e <;> rfl

end Sys2Proof.Machine

open Sys2Proof Sys2Proof.Machine

/-- Settles O7: no operation of the sample after the measuring writes the speeds, and the measuring forms them from the
usable run, which the premises on `run` and `rest` determine. -/
theorem sampleAxleSpeeds : Obligations.SampleAxleSpeeds := by
  intro q z hz
  refine ⟨speedSample z, actRunning_running speedSample ⟨q, z⟩ hz, fun x run rest hedges hrun hrest => ?_⟩
  obtain ⟨hspeed, hforward, hlow⟩ := speedSample_speed z x
  have usable : usableRun z.timeUs (pick z.axles x).edges = run := hedges ▸ usableRun_append z.timeUs run rest hrun hrest
  simp only [sampledAxle, usable] at hspeed hforward hlow
  rw [hforward, hspeed, hlow]
  refine ⟨fun hshort => ?_, fun newest oldest hlong hn ho => ?_, forwardOf_eq z.pos.leadingEnd _⟩
  · simp [speedOfRun_short _ run hshort]
  · rw [speedOfRun_long _ run newest oldest hlong hn ho]
    exact ⟨rfl, rfl⟩

end

section
/-! SUPPORT. Candidates and selection (R6 to R8): the candidate set read off the axles and the peer table, and the selected
candidate as a place in the ascending list. -/

namespace Sys2Proof.Machine

/-! ## The candidate set (R6, R7) -/

theorem ownCandidate_eq (s : Station) (x : Axle) :
    ownCandidate s x = decide ((pick s.axles x).sensor = .ok ∧
      ((pick s.creep x).state = .adhering ∨ (pick s.creep x).state = .regulating)) := by
  unfold ownCandidate
  rw [Bool.eq_iff_iff]
  simp

theorem ownCandidates_eq (s : Station) :
    ownCandidates s = ([Axle.a, .b].filter (ownCandidate s)).map fun x => (pick s.axles x).forward := by
  unfold ownCandidates
  cases ha : ownCandidate s .a <;> cases hb : ownCandidate s .b <;> simp [ha, hb, pick]

/-- R7: the candidates of all peers, slot by slot of the peer table. -/
theorem peerCandidates_eq (s : Station) :
    peerCandidates s = (List.range 8).flatMap fun n => ((freshContent (peerAt s n)).map candidatesOf).getD [] := by
  unfold peerCandidates freshPeers
  rw [List.filterMap_eq_flatMap_toList, List.flatMap_assoc]
  congr 1
  funext n
  cases freshContent (peerAt s n) <;> simp

/-! ## The ascending list -/

theorem insertAscending_eq (v : Int) (l : List Int) : insertAscending v l = l.orderedInsert (· ≤ ·) v := by
  induction l with
  | nil => rfl
  | cons x l ih => rw [insertAscending, ih, List.orderedInsert_cons]

theorem ascending_eq (l : List Int) : ascending l = l.insertionSort (· ≤ ·) := by
  induction l with
  | nil => rfl
  | cons x l ih => rw [ascending, ih, insertAscending_eq, List.insertionSort_cons]

theorem ascending_perm (l : List Int) : (ascending l).Perm l := ascending_eq l ▸ List.perm_insertionSort _ l

theorem ascending_pairwise (l : List Int) : (ascending l).Pairwise (· ≤ ·) :=
  ascending_eq l ▸ List.pairwise_insertionSort _ l

theorem ascending_length (l : List Int) : (ascending l).length = l.length := (ascending_perm l).length_eq

theorem ascending_ne_nil {l : List Int} (h : l ≠ []) : ascending l ≠ [] := fun e =>
  h (List.eq_nil_of_length_eq_zero (by rw [← ascending_length, e, List.length_nil]))

/-! ## Smallest and largest -/

theorem smallest_mem {l : List Int} (h : l ≠ []) : smallest l ∈ l := by
  unfold smallest
  rw [← (ascending_perm l).mem_iff, List.headD_eq_head?_getD, List.head?_eq_some_head (ascending_ne_nil h)]
  exact List.head_mem _

theorem smallest_le {l : List Int} {v : Int} (h : v ∈ l) : smallest l ≤ v := by
  have hv : v ∈ ascending l := (ascending_perm l).mem_iff.mpr h
  unfold smallest
  rw [List.headD_eq_head?_getD, List.head?_eq_some_head (List.ne_nil_of_mem hv)]
  exact (ascending_pairwise l).rel_head hv

theorem largest_mem {l : List Int} (h : l ≠ []) : largest l ∈ l := by
  unfold largest
  rw [← (ascending_perm l).mem_iff, List.getLastD_eq_getLast?, List.getLast?_eq_some_getLast (ascending_ne_nil h)]
  exact List.getLast_mem _

theorem le_largest {l : List Int} {v : Int} (h : v ∈ l) : v ≤ largest l := by
  have hv : v ∈ ascending l := (ascending_perm l).mem_iff.mpr h
  unfold largest
  rw [List.getLastD_eq_getLast?, List.getLast?_eq_some_getLast (List.ne_nil_of_mem hv)]
  exact (ascending_pairwise l).rel_getLast hv

/-! ## The lower median -/

/-- In an ascending list at most `k` members lie below the member at place `k`. -/
theorem length_filter_lt_getElem_le {l : List Int} (h : l.Pairwise (· ≤ ·)) (k : Nat) (hk : k < l.length) :
    (l.filter (· < l[k])).length ≤ k := by
  have above : (l.drop k).filter (· < l[k]) = [] := by
    rw [List.filter_eq_nil_iff]
    intro v hv
    obtain ⟨i, hi, rfl⟩ := List.mem_iff_getElem.mp hv
    have order := h.rel_get_of_le (a := ⟨k, hk⟩) (b := ⟨k + i, by grind⟩) (by simp)
    simpa using order
  calc (l.filter (· < l[k])).length
      = ((l.take k ++ l.drop k).filter (· < l[k])).length := by rw [List.take_append_drop]
    _ = ((l.take k).filter (· < l[k])).length := by rw [List.filter_append, above, List.append_nil]
    _ ≤ (l.take k).length := List.length_filter_le _ _
    _ ≤ k := List.length_take_le _ _

/-- In an ascending list more than `k` members lie at or below the member at place `k`. -/
theorem lt_length_filter_le_getElem {l : List Int} (h : l.Pairwise (· ≤ ·)) (k : Nat) (hk : k < l.length) :
    k < (l.filter (· ≤ l[k])).length := by
  have below : (l.take (k + 1)).filter (· ≤ l[k]) = l.take (k + 1) := by
    rw [List.filter_eq_self]
    intro v hv
    obtain ⟨i, hi, rfl⟩ := List.mem_iff_getElem.mp hv
    have order := h.rel_get_of_le (a := ⟨i, by grind⟩) (b := ⟨k, hk⟩) (by simp; grind)
    simpa using order
  calc k < (l.take (k + 1)).length := by simp; omega
    _ = ((l.take (k + 1)).filter (· ≤ l[k])).length := by rw [below]
    _ ≤ (l.filter (· ≤ l[k])).length := ((List.take_sublist (k + 1) l).filter _).length_le

/-- R8: the lower median is the member of the ascending list at place (n + 1) / 2 counting from 1. -/
theorem lowerMedian_eq_getElem {l : List Int} (h : l ≠ []) :
    ∃ hk : (l.length + 1) / 2 - 1 < (ascending l).length, lowerMedian l = (ascending l)[(l.length + 1) / 2 - 1] := by
  have pos : 0 < l.length := List.length_pos_iff.mpr h
  have hk : (l.length + 1) / 2 - 1 < (ascending l).length := by rw [ascending_length]; omega
  exact ⟨hk, List.getD_eq_getElem _ _ hk⟩

theorem lowerMedian_mem {l : List Int} (h : l ≠ []) : lowerMedian l ∈ l := by
  obtain ⟨hk, e⟩ := lowerMedian_eq_getElem h
  rw [e, ← (ascending_perm l).mem_iff]
  exact List.getElem_mem hk

/-- R8: fewer than (n + 1) / 2 members lie below the lower median, and no fewer lie at or below it. -/
theorem lowerMedian_rank {l : List Int} (h : l ≠ []) :
    (l.filter (· < lowerMedian l)).length < (l.length + 1) / 2 ∧
      (l.length + 1) / 2 ≤ (l.filter (· ≤ lowerMedian l)).length := by
  have pos : 0 < l.length := List.length_pos_iff.mpr h
  obtain ⟨hk, e⟩ := lowerMedian_eq_getElem h
  have below := length_filter_lt_getElem_le (ascending_pairwise l) _ hk
  have upTo := lt_length_filter_le_getElem (ascending_pairwise l) _ hk
  rw [← e, ((ascending_perm l).filter _).length_eq] at below upTo
  omega

/-! ## The rows of R8 -/

theorem selectCandidate_smallest {hold : HoldState} {served : ServedMode}
    (h : hold = .rollback ∨ hold = .hillStart ∨ served = .drive) (l : List Int) :
    selectCandidate hold served l = smallest l := by
  rcases h with rfl | rfl | rfl
  · rfl
  · rfl
  · cases hold <;> rfl

theorem selectCandidate_largest {hold : HoldState} {served : ServedMode} (hr : hold ≠ .rollback) (hh : hold ≠ .hillStart)
    (h : served = .brake ∨ served = .lineLoss ∨ served = .emergency) (l : List Int) :
    selectCandidate hold served l = largest l := by
  cases hold with
  | rollback => exact absurd rfl hr
  | hillStart => exact absurd rfl hh
  | free | holding => rcases h with rfl | rfl | rfl <;> rfl

theorem selectCandidate_lowerMedian {hold : HoldState} {served : ServedMode} (hr : hold ≠ .rollback) (hh : hold ≠ .hillStart)
    (h : served = .coast ∨ served = .hold) (l : List Int) : selectCandidate hold served l = lowerMedian l := by
  cases hold with
  | rollback => exact absurd rfl hr
  | hillStart => exact absurd rfl hh
  | free | holding => rcases h with rfl | rfl <;> rfl

/-- R8: whichever row governs, a member of the set is selected. -/
theorem selectCandidate_mem (hold : HoldState) (served : ServedMode) {l : List Int} (h : l ≠ []) :
    selectCandidate hold served l ∈ l := by
  unfold selectCandidate
  split
  · exact smallest_mem h
  · exact smallest_mem h
  all_goals
    split
    · exact smallest_mem h
    · exact largest_mem h
    · exact largest_mem h
    · exact largest_mem h
    · exact lowerMedian_mem h
    · exact lowerMedian_mem h

end Sys2Proof.Machine

open Sys2Proof Sys2Proof.Machine

/-- Settles O8: the set from the axles and the peer table slot by slot, the selection from the three rows of R8. -/
theorem candidateSelection : Obligations.CandidateSelection := by
  refine ⟨fun z => ?_, fun hold served l hl =>
    ⟨selectCandidate_mem hold served hl, fun h v hv => ?_, fun hr hh h v hv => ?_, fun hr hh h => ?_⟩⟩
  · unfold candidateSet
    rw [ownCandidates_eq, peerCandidates_eq]
    congr 1
    · rw [funext (ownCandidate_eq z)]
    · congr 1
      funext n
      rw [peerAt, List.getD_eq_getElem?_getD]
      cases z.port.peers[n]? with
      | none => rfl
      | some p =>
        obtain ⟨state, latest⟩ := p
        cases state with
        | fresh => cases latest <;> rfl
        | absent | silent | parked | lost => rfl
  · rw [selectCandidate_smallest h]
    exact smallest_le hv
  · rw [selectCandidate_largest hr hh h]
    exact le_largest hv
  · rw [selectCandidate_lowerMedian hr hh h]
    exact lowerMedian_rank hl

end

section
/-! SUPPORT. The sweep of the rail condition map (R71): when it is due, and which entries it leaves. -/

namespace Sys2Proof.Machine

/-! ## When the sweep is due -/

@[simp] theorem mem_dueIf (b : Bool) (i j : Instr) : j ∈ dueIf b i ↔ b = true ∧ j = i := by
  cases b <;> simp [dueIf]

/-- No timer expiry is a sweep. -/
theorem sweep_notMem_dueExpiries (s : Station) : Instr.sweep ∉ dueExpiries s := by
  simp [dueExpiries]

theorem sweep_mem_duePeriods (s : Station) : Instr.sweep ∈ duePeriods s ↔ 1000 ≤ age s.time s.map.lastSweep := by
  simp [duePeriods]

theorem sweep_mem_dueEvents (s : Station) : Instr.sweep ∈ dueEvents s ↔ 1000 ≤ age s.time s.map.lastSweep := by
  rw [dueEvents, List.mem_append, or_iff_right (sweep_notMem_dueExpiries s), sweep_mem_duePeriods]

/-! ## One entry -/

theorem hasPart_iff (e : MapEntry) :
    hasPart e = true ↔ e.peak.isSome = true ∨ e.atLeast.isSome = true ∨ e.sanded.isSome = true := by
  simp [hasPart, or_assoc]

@[simp] theorem sweepEntry_cell (now : Millis) (e : MapEntry) : (sweepEntry now e).cell = e.cell := rfl

theorem sweepEntry_peak (now : Millis) (e : MapEntry) (p : TimedMu) :
    (sweepEntry now e).peak = some p ↔ e.peak = some p ∧ age now p.time ≤ 300000 := by
  simp [sweepEntry, Option.filter_eq_some_iff]

theorem sweepEntry_atLeast (now : Millis) (e : MapEntry) (p : TimedMu) :
    (sweepEntry now e).atLeast = some p ↔ e.atLeast = some p ∧ age now p.time ≤ 300000 := by
  simp [sweepEntry, Option.filter_eq_some_iff]

theorem sweepEntry_sanded (now : Millis) (e : MapEntry) (m : Millis) :
    (sweepEntry now e).sanded = some m ↔ e.sanded = some m ∧ age now m ≤ 90000 := by
  simp [sweepEntry, Option.filter_eq_some_iff]

/-- The sweep of an entry writes its three parts alone. -/
theorem sweepEntry_frame (now : Millis) (e : MapEntry) :
    sweepEntry now e = { e with
      peak := (sweepEntry now e).peak, atLeast := (sweepEntry now e).atLeast, sanded := (sweepEntry now e).sanded } := rfl

/-- A swept entry is the entry apart from its parts, with exactly the parts within their lives. -/
theorem eq_sweepEntry_iff (now : Millis) (e o : MapEntry) :
    e = sweepEntry now o ↔
      e = { o with peak := e.peak, atLeast := e.atLeast, sanded := e.sanded } ∧
      (∀ p, e.peak = some p ↔ o.peak = some p ∧ age now p.time ≤ 300000) ∧
      (∀ p, e.atLeast = some p ↔ o.atLeast = some p ∧ age now p.time ≤ 300000) ∧
      (∀ m, e.sanded = some m ↔ o.sanded = some m ∧ age now m ≤ 90000) := by
  constructor
  · rintro rfl
    exact ⟨sweepEntry_frame now o, sweepEntry_peak now o, sweepEntry_atLeast now o, sweepEntry_sanded now o⟩
  · rintro ⟨frame, hpeak, hatLeast, hsanded⟩
    have peak : e.peak = (sweepEntry now o).peak := Option.ext fun p => by rw [hpeak, sweepEntry_peak]
    have atLeast : e.atLeast = (sweepEntry now o).atLeast := Option.ext fun p => by rw [hatLeast, sweepEntry_atLeast]
    have sanded : e.sanded = (sweepEntry now o).sanded := Option.ext fun m => by rw [hsanded, sweepEntry_sanded]
    rw [frame, peak, atLeast, sanded, ← sweepEntry_frame]

/-! ## The list of entries -/

/-- The sweep leaves the swept entries that still hold a part. -/
theorem mem_sweepEntries (now : Millis) (e : MapEntry) (es : List MapEntry) :
    e ∈ sweepEntries now es ↔ hasPart e = true ∧ ∃ o ∈ es, e = sweepEntry now o := by
  rw [sweepEntries, List.mem_filter, List.mem_map, and_comm]
  simp only [@eq_comm _ (sweepEntry now _) e]

/-- The cells left are cells that were there, in their order. -/
theorem sweepEntries_cells_sublist (now : Millis) (es : List MapEntry) :
    ((sweepEntries now es).map (·.cell)).Sublist (es.map (·.cell)) := by
  have cells : (es.map (sweepEntry now)).map (·.cell) = es.map (·.cell) := by
    rw [List.map_map]; exact List.map_congr_left fun e _ => sweepEntry_cell now e
  rw [← cells]
  exact List.filter_sublist.map _

end Sys2Proof.Machine

open Sys2Proof Sys2Proof.Machine

/-- Settles O18: the sweep is due by its own period alone, and it maps each entry to its parts within their lives and then
keeps those entries that hold one. -/
theorem sweep : Obligations.Sweep := by
  intro q z hz
  refine ⟨sweep_mem_dueEvents z, sweepEntries z.time z.map.entries, actRunning_running sweepMap ⟨q, z⟩ hz,
    sweepEntries_cells_sublist z.time z.map.entries, fun e => ?_⟩
  simp only [mem_sweepEntries, hasPart_iff, eq_sweepEntry_iff]

end

section
/-! SUPPORT. An evaluation of the effective mode (R106 to R110): what each published figure is, what the track brake and the
hold unit answer, and what an evaluation leaves as it was. -/

namespace Sys2Proof.Machine

/-! ## The effective mode and traction re-arm (R106, R107, R109) -/

theorem loopIsOpen_iff (s : Station) : loopIsOpen s = true ↔ s.link.loop.delivered = some .loopOpen := by
  simp [loopIsOpen]

theorem governingDrive_iff (b : Blend) : governingDrive b = true ↔ ∃ g, b.governing = some g ∧ g.mode = .drive := by
  unfold governingDrive
  cases b.governing <;> simp

theorem lossMode_iff (m : EffMode) : lossMode m = true ↔ m = .lineLoss ∨ m = .emergency := by cases m <;> simp [lossMode]

theorem requestedMode_none {b : Blend} (h : b.governing = none) : requestedMode b = .lineLoss := by simp [requestedMode, h]

theorem requestedMode_some {b : Blend} {g : Governing} (h : b.governing = some g) : requestedMode b = effOf g.mode := by
  simp [requestedMode, h]

/-- R106, R107: an OPEN loop, or a latch that has not ended, gives EMERGENCY. -/
theorem nextEffMode_emergency {s : Station} (h : loopIsOpen s = true ∨
    (s.blend.effMode = .emergency ∧ (s.hold.standstill = false ∨ governingDrive s.blend = true))) :
    nextEffMode s = .emergency := by
  unfold nextEffMode
  rcases h with h | h
  · rw [if_pos h]
  · rw [if_pos h, ite_self]

/-- R106, R107: with the loop not OPEN and no latch in force the governing request gives the mode. -/
theorem nextEffMode_requested {s : Station} (hloop : loopIsOpen s = false)
    (hlatch : s.blend.effMode ≠ .emergency ∨ (s.hold.standstill = true ∧ governingDrive s.blend = false)) :
    nextEffMode s = requestedMode s.blend := by
  have ended : ¬(s.blend.effMode = .emergency ∧ (s.hold.standstill = false ∨ governingDrive s.blend = true)) := by
    rintro ⟨he, hs | hg⟩ <;> simp_all
  unfold nextEffMode
  rw [if_neg (by simp [hloop]), if_neg ended]
  rfl

/-- R109: entering LINE_LOSS or EMERGENCY from another mode sets re-arm to NEEDED. -/
theorem nextRearm_entry (arrival : Bool) {b : Blend} {m : EffMode} (hm : lossMode m = true) (hne : m ≠ b.effMode) :
    nextRearm arrival b m = true := by simp [nextRearm, hm, hne]

/-- R109: a DEMAND arrival that gives another mode, with a request other than DRIVE, clears re-arm. -/
theorem nextRearm_cleared {b : Blend} {m : EffMode} (hm : lossMode m = false) (hg : governingDrive b = false) :
    nextRearm true b m = false := by simp [nextRearm, hm, hg]

/-- R109: outside LINE_LOSS and EMERGENCY an event that is no DEMAND arrival, and a request for DRIVE, leave re-arm. -/
theorem nextRearm_kept {arrival : Bool} {b : Blend} {m : EffMode} (hm : lossMode m = false)
    (h : arrival = false ∨ governingDrive b = true) : nextRearm arrival b m = b.rearm := by
  rcases h with rfl | hg
  · simp [nextRearm, hm]
  · simp [nextRearm, hm, hg]

/-! ## The steps of an evaluation -/

/-- R120, R121: the track brake writes its own figures alone. -/
theorem mtbRespond_frame_mtb (m : EffMode) (s : Station) : ∃ u c e r l, mtbRespond m s =
    { s with blend := { s.blend with mtb := u, contactorClosed := c, escalation := e, release := r, loweringSince := l } } := by
  unfold mtbRespond
  simp only
  repeat' split
  all_goals exact ⟨_, _, _, _, _, rfl⟩

@[simp] theorem effortSense_mtbRespond (m : EffMode) (s : Station) : effortSense (mtbRespond m s) = effortSense s := by
  obtain ⟨_, _, _, _, _, h⟩ := mtbRespond_frame_mtb m s
  rw [h]; rfl

@[simp] theorem effortSense_senseRespond (e : EffortSense) (s : Station) : effortSense (senseRespond e s) = effortSense s := by
  unfold senseRespond; split <;> rfl

/-- R110, R136: what a change of effort sense writes. -/
theorem senseRespond_frame_demands (e : EffortSense) (s : Station) : ∃ p k, senseRespond e s =
    { s with blend := { s.blend with axles := p }, makeUp := { s.makeUp with takes := k } } := by
  unfold senseRespond; split <;> exact ⟨_, _, rfl⟩

/-- The evaluation up to the hold unit's answer. -/
def evaluated (arrival : Bool) (s : Station) : Station :=
  mtbRespond s.blend.effMode (senseRespond (effortSense s) (publishModes arrival s))

theorem evaluate_eq (arrival : Bool) (s : Station) : evaluate arrival s = holdRespond (evaluated arrival s) := rfl

/-- Before the hold unit answers, an evaluation has written the modes, the axle demands, the track brake and the takes. -/
theorem evaluated_frame (arrival : Bool) (s : Station) : ∃ p u c e r l k, evaluated arrival s =
    { s with
      blend := { (publishModes arrival s).blend with
        axles := p, mtb := u, contactorClosed := c, escalation := e, release := r, loweringSince := l }
      makeUp := { s.makeUp with takes := k } } := by
  obtain ⟨p, k, hsense⟩ := senseRespond_frame_demands (effortSense s) (publishModes arrival s)
  obtain ⟨u, c, e, r, l, hmtb⟩ := mtbRespond_frame_mtb s.blend.effMode (senseRespond (effortSense s) (publishModes arrival s))
  refine ⟨p, u, c, e, r, l, k, ?_⟩
  rw [evaluated, hmtb, hsense]
  rfl

@[simp] theorem holdRespond_blend (s : Station) : (holdRespond s).blend = s.blend := by
  obtain ⟨_, _, h⟩ := holdRespond_frame s; rw [h]

@[simp] theorem holdRespond_makeUp (s : Station) : (holdRespond s).makeUp = s.makeUp := by
  obtain ⟨_, _, h⟩ := holdRespond_frame s; rw [h]

@[simp] theorem evaluate_blend (arrival : Bool) (s : Station) : (evaluate arrival s).blend = (evaluated arrival s).blend :=
  holdRespond_blend _

@[simp] theorem evaluate_makeUp (arrival : Bool) (s : Station) : (evaluate arrival s).makeUp = (evaluated arrival s).makeUp :=
  holdRespond_makeUp _

theorem effortSense_evaluate (arrival : Bool) (s : Station) :
    effortSense (evaluate arrival s) = effortSense (publishModes arrival s) := by
  have kept : effortSense (evaluate arrival s) = effortSense (evaluated arrival s) := by
    unfold effortSense; rw [evaluate_blend]
  rw [kept, evaluated, effortSense_mtbRespond, effortSense_senseRespond]

theorem driveRequest_evaluate (arrival : Bool) (s : Station) :
    driveRequest (evaluate arrival s) = driveRequest (evaluated arrival s) := by
  unfold driveRequest; rw [evaluate_blend]

/-! ## The modes published (R106 to R110) -/

theorem evaluate_effMode (arrival : Bool) (s : Station) : (evaluate arrival s).blend.effMode = nextEffMode s := by
  obtain ⟨_, _, _, _, _, _, _, h⟩ := evaluated_frame arrival s
  rw [evaluate_blend, h]; rfl

theorem evaluate_rearm (arrival : Bool) (s : Station) :
    (evaluate arrival s).blend.rearm = nextRearm arrival s.blend (evaluate arrival s).blend.effMode := by
  obtain ⟨_, _, _, _, _, _, _, h⟩ := evaluated_frame arrival s
  rw [evaluate_blend, h]; rfl

theorem evaluate_served (arrival : Bool) (s : Station) : (evaluate arrival s).blend.served =
    servedFor (evaluate arrival s).blend.effMode (evaluate arrival s).blend.rearm s.hold.standstill := by
  obtain ⟨_, _, _, _, _, _, _, h⟩ := evaluated_frame arrival s
  rw [evaluate_blend, h]; rfl

theorem evaluate_accel (arrival : Bool) (s : Station) : (evaluate arrival s).blend.accel =
    accelFor (evaluate arrival s).blend.effMode (evaluate arrival s).blend.rearm s.hold.standstill s.blend.governing := by
  obtain ⟨_, _, _, _, _, _, _, h⟩ := evaluated_frame arrival s
  rw [evaluate_blend, h]; rfl

/-- R110: DRIVE is served only in the effective mode DRIVE with re-arm CLEAR. -/
theorem servedFor_eq_drive {m : EffMode} {rearm still : Bool} (h : servedFor m rearm still = .drive) :
    m = .drive ∧ rearm = false := by
  cases m with
  | drive => exact ⟨rfl, by simpa [servedFor] using h⟩
  | hold | park => cases still <;> simp [servedFor] at h
  | coast | brake | lineLoss | emergency => simp [servedFor] at h

/-- R110: HOLD and PARK hold at standstill, and until then brake at 1,200 mm/s². -/
theorem servedFor_holding {m : EffMode} (h : m = .hold ∨ m = .park) (rearm still : Bool) :
    servedFor m rearm still = if still then .hold else .brake := by rcases h with rfl | rfl <;> rfl

theorem accelFor_holding {m : EffMode} (h : m = .hold ∨ m = .park) (rearm still : Bool) (g : Option Governing) :
    accelFor m rearm still g = if still then none else some (-1200) := by rcases h with rfl | rfl <;> rfl

theorem senseOf_eq_traction_iff (m : ServedMode) : senseOf m = .traction ↔ m = .drive := by cases m <;> simp [senseOf]

theorem senseOf_eq_none_iff (m : ServedMode) : senseOf m = .none ↔ m = .coast ∨ m = .hold := by cases m <;> simp [senseOf]

theorem senseOf_eq_braking_iff (m : ServedMode) :
    senseOf m = .braking ↔ m = .brake ∨ m = .lineLoss ∨ m = .emergency := by cases m <;> simp [senseOf]

theorem driveRequest_iff (s : Station) :
    driveRequest s = true ↔ s.blend.served = .drive ∧ ∃ a, s.blend.accel = some a ∧ 0 < a := by
  unfold driveRequest
  cases s.blend.accel <;> simp

/-! ## A change of effort sense (R110, R136) -/

/-- The axle demands and the takes after an evaluation are those that the change of effort sense leaves. -/
theorem evaluate_demands (arrival : Bool) (s : Station) :
    (evaluate arrival s).blend.axles = (senseRespond (effortSense s) (publishModes arrival s)).blend.axles ∧
    (evaluate arrival s).makeUp = (senseRespond (effortSense s) (publishModes arrival s)).makeUp := by
  obtain ⟨_, _, _, _, _, h⟩ := mtbRespond_frame_mtb s.blend.effMode (senseRespond (effortSense s) (publishModes arrival s))
  rw [evaluate_blend, evaluate_makeUp, evaluated, h]
  exact ⟨rfl, rfl⟩

theorem applied_of_mem_lapseAll {s : Station} {k : Take} (h : k ∈ (lapseAll s).makeUp.takes) : k.applied = false := by
  obtain ⟨t, -, rfl⟩ := List.mem_map.mp h
  rfl

theorem zeroDemands_axle (s : Station) (x : Axle) :
    (pick (zeroDemands s).blend.axles x).electric = 0 ∧ (pick (zeroDemands s).blend.axles x).friction = 0 := by
  cases x <;> exact ⟨rfl, rfl⟩

theorem evaluate_changed_sense {arrival : Bool} {s : Station} (h : effortSense (evaluate arrival s) ≠ effortSense s) :
    (∀ x, (pick (evaluate arrival s).blend.axles x).electric = 0 ∧
      (pick (evaluate arrival s).blend.axles x).friction = 0) ∧
    ∀ k ∈ (evaluate arrival s).makeUp.takes, k.applied = false := by
  obtain ⟨haxles, hmake⟩ := evaluate_demands arrival s
  rw [effortSense_evaluate] at h
  rw [haxles, hmake, senseRespond, if_neg h]
  exact ⟨zeroDemands_axle (publishModes arrival s), fun k => applied_of_mem_lapseAll⟩

theorem evaluate_same_sense {arrival : Bool} {s : Station} (h : effortSense (evaluate arrival s) = effortSense s) :
    (evaluate arrival s).blend.axles = s.blend.axles ∧ (evaluate arrival s).makeUp = s.makeUp := by
  obtain ⟨haxles, hmake⟩ := evaluate_demands arrival s
  rw [effortSense_evaluate] at h
  rw [haxles, hmake, senseRespond, if_pos h]
  exact ⟨rfl, rfl⟩

/-! ## The track brake's answer (R120, R121) -/

theorem mtbMode_iff (m : EffMode) : mtbMode m = true ↔ m = .brake ∨ m = .lineLoss ∨ m = .emergency := by
  cases m <;> simp [mtbMode]

/-- R120: a change to a mode in which the track brake may not stay down commands it up. -/
theorem mtbRespond_up {former : EffMode} {s : Station} (hne : s.blend.effMode ≠ former) (hm : mtbMode s.blend.effMode = false) :
    mtbRespond former s = commandUp s := by
  rw [mtbRespond, if_neg hne, if_pos hm]

/-- R121: entering EMERGENCY above 300 mm/s commands a fitted track brake that is UP down. -/
theorem mtbRespond_down {former : EffMode} {s : Station} (hne : s.blend.effMode ≠ former) (hm : s.blend.effMode = .emergency)
    (hdown : emergencyDown s = true) : mtbRespond former s = commandDown s := by
  have allowed : ¬ mtbMode s.blend.effMode = false := by simp [hm, mtbMode]
  rw [mtbRespond, if_neg hne, if_neg allowed, if_pos hm]
  exact if_pos hdown

theorem emergencyDown_iff (s : Station) :
    emergencyDown s = true ↔ s.plug.trackBrake = true ∧ s.blend.mtb = .up ∧ 300 < s.ref.speed := by
  simp [emergencyDown, and_assoc]

theorem evaluate_mtb_up {arrival : Bool} {s : Station} (hne : (evaluate arrival s).blend.effMode ≠ s.blend.effMode)
    (hm : mtbMode (evaluate arrival s).blend.effMode = false) :
    (evaluate arrival s).blend.mtb = .up ∧ (evaluate arrival s).blend.contactorClosed = false := by
  obtain ⟨_, _, hsense⟩ := senseRespond_frame_demands (effortSense s) (publishModes arrival s)
  rw [evaluate_effMode] at hne hm
  have up := mtbRespond_up (former := s.blend.effMode) (s := senseRespond (effortSense s) (publishModes arrival s))
    (by rw [hsense]; exact hne) (by rw [hsense]; exact hm)
  rw [evaluate_blend, evaluated, up]
  exact ⟨rfl, rfl⟩

theorem evaluate_mtb_down {arrival : Bool} {s : Station} (hm : (evaluate arrival s).blend.effMode = .emergency)
    (hne : s.blend.effMode ≠ .emergency) (hdown : emergencyDown s = true) :
    (evaluate arrival s).blend.mtb = .lowering ∧ (evaluate arrival s).blend.contactorClosed = true ∧
      (evaluate arrival s).blend.loweringSince = some s.time := by
  obtain ⟨_, _, hsense⟩ := senseRespond_frame_demands (effortSense s) (publishModes arrival s)
  rw [evaluate_effMode] at hm
  have entry : nextEffMode s ≠ s.blend.effMode := fun h => hne (h.symm.trans hm)
  have down := mtbRespond_down (former := s.blend.effMode) (s := senseRespond (effortSense s) (publishModes arrival s))
    (by rw [hsense]; exact entry) (by rw [hsense]; exact hm) (by rw [hsense]; exact hdown)
  rw [evaluate_blend, evaluated, down, hsense]
  exact ⟨rfl, rfl, rfl⟩

/-! ## The hold unit's answer (R143 to R150) -/

theorem holdNoDrive_armed (s : Station) : (holdNoDrive s).hold.armed = true ∧ (holdNoDrive s).hold.levelPending = false := by
  unfold holdNoDrive
  simp only
  repeat' split
  all_goals exact ⟨rfl, rfl⟩

theorem holdNoDrive_free_still {s : Station} (h : s.hold.state = .free) (hs : s.hold.standstill = true) :
    (holdNoDrive s).hold.state = .holding ∧ (holdNoDrive s).hold.friction = s.hold.holdForce := by
  simp [holdNoDrive, h, hs, enterHolding]

theorem holdNoDrive_free_moving {s : Station} (h : s.hold.state = .free) (hs : s.hold.standstill = false) :
    (holdNoDrive s).hold.state = .free := by
  simp [holdNoDrive, h, hs]

theorem holdNoDrive_hillStart {s : Station} (h : s.hold.state = .hillStart) :
    (holdNoDrive s).hold.state = .holding ∧ (holdNoDrive s).hold.friction = s.hold.holdForce ∧
      (holdNoDrive s).hold.hillSince = none := by
  simp [holdNoDrive, h, enterHolding]

theorem holdNoDrive_held {s : Station} (h : s.hold.state = .holding ∨ s.hold.state = .rollback) :
    (holdNoDrive s).hold.state = s.hold.state := by
  rcases h with h | h <;> simp [holdNoDrive, h]

theorem holdDrive_idle {s : Station} (h : s.hold.state ≠ .holding ∨ s.hold.armed = false) : holdDrive s = s := by
  refine if_neg fun ⟨hstate, harmed⟩ => ?_
  rcases h with h | h
  · exact h hstate
  · simp [h] at harmed

theorem holdDrive_hill {s : Station} (h : s.hold.state = .holding) (ha : s.hold.armed = true) (hr : 40 < riseHere s) :
    holdDrive s = enterHillStart s := by
  rw [holdDrive, if_pos ⟨h, ha⟩, if_pos hr]

theorem holdDrive_level {s : Station} (h : s.hold.state = .holding) (ha : s.hold.armed = true) (hr : riseHere s ≤ 40) :
    holdDrive s = { s with hold := { s.hold with armed := false, levelPending := true } } := by
  rw [holdDrive, if_pos ⟨h, ha⟩, if_neg (by omega)]

theorem evaluate_noDrive {arrival : Bool} {s : Station} (h : driveRequest (evaluate arrival s) = false) :
    evaluate arrival s = holdNoDrive (evaluated arrival s) := by
  rw [driveRequest_evaluate] at h
  rw [evaluate_eq, holdRespond, h]
  rfl

theorem evaluate_drive {arrival : Bool} {s : Station} (h : driveRequest (evaluate arrival s) = true) :
    evaluate arrival s = holdDrive (evaluated arrival s) := by
  rw [driveRequest_evaluate] at h
  rw [evaluate_eq, holdRespond, h]
  rfl

/-- What the hold unit reads is as the evaluation found it. -/
theorem evaluated_unread (arrival : Bool) (s : Station) :
    (evaluated arrival s).hold = s.hold ∧ (evaluated arrival s).sanding = s.sanding ∧
      riseHere (evaluated arrival s) = s.pos.attrStation.rise ∧ (evaluated arrival s).time = s.time := by
  obtain ⟨_, _, _, _, _, _, _, h⟩ := evaluated_frame arrival s
  rw [h]
  exact ⟨rfl, rfl, rfl, rfl⟩

/-- The hold unit writes its own figures and the hill-start expiry of the sander control. -/
theorem holdRespond_frame_hill (s : Station) :
    ∃ h e, holdRespond s = { s with hold := h, sanding := { s.sanding with hillExpiry := e } } := by
  unfold holdRespond holdDrive holdNoDrive
  simp only
  repeat' split
  all_goals exact ⟨_, _, rfl⟩

/-- R106: an evaluation writes the blend unit, the takes, the hold unit and the hill-start expiry. -/
theorem evaluate_frame_fields (arrival : Bool) (s : Station) : evaluate arrival s = { s with
    blend := (evaluate arrival s).blend
    makeUp := { s.makeUp with takes := (evaluate arrival s).makeUp.takes }
    hold := (evaluate arrival s).hold
    sanding := { s.sanding with hillExpiry := (evaluate arrival s).sanding.hillExpiry } } := by
  obtain ⟨_, _, hhold⟩ := holdRespond_frame_hill (evaluated arrival s)
  obtain ⟨_, _, _, _, _, _, _, h⟩ := evaluated_frame arrival s
  rw [evaluate_eq, hhold, h]

end Sys2Proof.Machine

open Sys2Proof Sys2Proof.Machine

/-- Settles O38: the modes by the rows of R106, R109 and R110, then the answers of R110 and R136, of the track brake and of
the hold unit, each from the lemma on its step. -/
theorem evaluation : Obligations.Evaluation := by
  intro arrival z t isOpen asksDrive m ht hopen hasks hnone hsome
  rw [← loopIsOpen_iff] at hopen
  rw [← governingDrive_iff] at hasks
  have requested : m = requestedMode z.blend := by
    cases hg : z.blend.governing with
    | none => rw [hnone hg, requestedMode_none hg]
    | some g => rw [hsome g hg, requestedMode_some hg]; cases g.mode <;> rfl
  have effMode : t.blend.effMode = nextEffMode z := ht ▸ evaluate_effMode arrival z
  have rearm : t.blend.rearm = nextRearm arrival z.blend t.blend.effMode := ht ▸ evaluate_rearm arrival z
  have served : t.blend.served = servedFor t.blend.effMode t.blend.rearm z.hold.standstill := ht ▸ evaluate_served arrival z
  have accel : t.blend.accel = accelFor t.blend.effMode t.blend.rearm z.hold.standstill z.blend.governing :=
    ht ▸ evaluate_accel arrival z
  have noLoss (hl : t.blend.effMode ≠ .lineLoss) (he : t.blend.effMode ≠ .emergency) : lossMode t.blend.effMode = false := by
    rw [← Bool.not_eq_true, lossMode_iff]; exact not_or.mpr ⟨hl, he⟩
  obtain ⟨hold, sanding, rise, time⟩ := evaluated_unread arrival z
  refine ⟨fun h => ?_, fun hloop h => ?_, fun h hne => ?_, fun ha hl he hg => ?_, fun hl he h => ?_, fun h => ?_,
    fun h hr => ?_, fun h => ?_, fun h => ?_, fun h => ?_, fun h => ?_, fun h => ?_, fun g hg h => ?_,
    senseOf_eq_traction_iff _, senseOf_eq_none_iff _, fun h => ?_, fun h => ?_, fun hne hb hl he => ?_,
    fun he hne hp hu hs => ?_, driveRequest_iff t, fun h => ?_, fun h hn => ?_, fun h hh ha => ?_, ?_⟩
  · rw [effMode]
    exact nextEffMode_emergency (by rwa [← hopen, ← hasks])
  · rw [effMode, requested]
    exact nextEffMode_requested (by simpa [hopen] using hloop) (by simpa [hasks] using h)
  · rw [rearm]
    exact nextRearm_entry arrival ((lossMode_iff _).mpr h) hne
  · rw [rearm, ha]
    exact nextRearm_cleared (noLoss hl he) (by simpa [hasks] using hg)
  · rw [rearm]
    exact nextRearm_kept (noLoss hl he) (by rwa [← hasks])
  · rw [served, h]; rfl
  · rw [accel, h, hr]; rfl
  · rw [served, accel, h]; exact ⟨rfl, rfl⟩
  · rw [served, h]; rfl
  · rw [served, accel, servedFor_holding h, accelFor_holding h]
    exact ⟨fun still => by simp [still], fun moving => by simp [moving]⟩
  · rw [served, accel, h]; exact ⟨rfl, rfl⟩
  · rw [served, accel, h]; exact ⟨rfl, rfl⟩
  · rw [accel, hg]
    rcases h with h | h
    · obtain ⟨hm, hr⟩ := servedFor_eq_drive (served.symm.trans h)
      rw [hm, hr]; rfl
    · rw [h]; rfl
  · subst ht; exact evaluate_changed_sense h
  · subst ht; exact evaluate_same_sense h
  · have disallowed : mtbMode t.blend.effMode = false := by
      rw [← Bool.not_eq_true, mtbMode_iff]; simp [hb, hl, he]
    subst ht; exact evaluate_mtb_up hne disallowed
  · subst ht; exact evaluate_mtb_down he hne ((emergencyDown_iff z).mpr ⟨hp, hu, hs⟩)
  · subst ht
    rw [evaluate_noDrive h, ← hold]
    exact ⟨(holdNoDrive_armed _).1, (holdNoDrive_armed _).2, holdNoDrive_free_still, holdNoDrive_free_moving,
      holdNoDrive_hillStart, holdNoDrive_held⟩
  · subst ht
    rw [evaluate_drive h, holdDrive_idle (by rwa [hold])]
    exact ⟨hold, sanding⟩
  · subst ht
    rw [← hold] at hh ha
    rw [evaluate_drive h, ← hold, ← sanding, ← rise, ← time]
    rcases Int.lt_or_le 40 (riseHere (evaluated arrival z)) with hr | hr
    · rw [holdDrive_hill hh ha hr]
      exact ⟨rfl, fun _ => ⟨rfl, rfl, rfl, rfl, rfl⟩, fun hle => absurd hr (by omega)⟩
    · rw [holdDrive_level hh ha hr]
      exact ⟨rfl, fun hlt => absurd hr (by omega), fun _ => ⟨hh, rfl, rfl⟩⟩
  · subst ht; exact evaluate_frame_fields arrival z

end

section
/-! SUPPORT. The blend event (R111 to R117): the figures it leaves are those that the model's own formulas give in the station
it leaves, what it keeps of the station it found, the plant figures that count, and the shares of R116. -/

namespace Sys2Proof.Machine

/-! ## What the blend event keeps -/

/-- R118, R120, R121: step 1 writes the track brake's own figures alone. -/
theorem trackBrakeStep_frame_mtb (s : Station) : ∃ u c e r l, trackBrakeStep s =
    { s with blend := { s.blend with mtb := u, contactorClosed := c, escalation := e, release := r, loweringSince := l } } := by
  unfold trackBrakeStep escalationTest escalationExpiry releaseTest mtbReleaseExpiry emergencyTest
  repeat' split
  all_goals exact ⟨_, _, _, _, _, rfl⟩

/-- R111: the blend event from step 1's track brake and step 4's make-up figures on. -/
theorem blendEvent_steps (s : Station) : ∃ u c e r l m, blendEvent s = splitStep (demandStep
    { forceStep (massStep { s with blend := { s.blend with
        mtb := u, contactorClosed := c, escalation := e, release := r, loweringSince := l, lastBlend := s.time } }) with
      makeUp := m }) := by
  obtain ⟨u, c, e, r, l, htrack⟩ := trackBrakeStep_frame_mtb { s with blend := { s.blend with lastBlend := s.time } }
  obtain ⟨m, hmake⟩ := makeUpStep_frame (forceStep (massStep { s with blend := { s.blend with
    mtb := u, contactorClosed := c, escalation := e, release := r, loweringSince := l, lastBlend := s.time } }))
  refine ⟨u, c, e, r, l, m, ?_⟩
  unfold blendEvent
  simp only
  rw [htrack, hmake]

/-- R111: the blend event keeps the request, the modes and the acceleration served, and notes its own moment. -/
theorem blendEvent_keeps (s : Station) : (blendEvent s).blend = { (blendEvent s).blend with
    governing := s.blend.governing, conflict := s.blend.conflict, effMode := s.blend.effMode, rearm := s.blend.rearm
    served := s.blend.served, accel := s.blend.accel, lastBlend := s.time } := by
  obtain ⟨_, _, _, _, _, _, h⟩ := blendEvent_steps s
  rw [h]; rfl

@[simp] theorem blendEvent_served (s : Station) : (blendEvent s).blend.served = s.blend.served := by
  rw [blendEvent_keeps]

@[simp] theorem effortSense_blendEvent (s : Station) : effortSense (blendEvent s) = effortSense s :=
  congrArg senseOf (blendEvent_served s)

@[simp] theorem matchingPeers_blendEvent (s : Station) : matchingPeers (blendEvent s) = matchingPeers s := by
  obtain ⟨_, _, h⟩ := blendEvent_frame s
  unfold matchingPeers
  rw [effortSense_blendEvent, h]
  rfl

@[simp] theorem leadingAxle_blendEvent (s : Station) : leadingAxle (blendEvent s) = leadingAxle s := by
  obtain ⟨_, _, h⟩ := blendEvent_frame s
  rw [h]; rfl

@[simp] theorem electricBrake_blendEvent (s : Station) (x : Axle) : electricBrake (blendEvent s) x = electricBrake s x := by
  obtain ⟨_, _, h⟩ := blendEvent_frame s
  rw [h]; rfl

/-! ## The figures it leaves

Each formula is read in the station after the event: no later step writes what the formula reads. -/

/-- R112: the mass. -/
theorem blendEvent_mass (s : Station) : (blendEvent s).blend.mass = s.link.loads.a + s.link.loads.b := by
  obtain ⟨_, _, _, _, _, _, h⟩ := blendEvent_steps s
  rw [h]; rfl

/-- R113: the nominal force, of the mass just formed. -/
theorem blendEvent_nominal (s : Station) : (blendEvent s).blend.nominal =
    min (clampedForce s.blend.served (forceOf (blendEvent s).blend.mass (s.blend.accel.getD 0) s.pos.attrStation.rise))
      (2 * s.figs.axleMax) := by
  obtain ⟨_, _, _, _, _, _, h⟩ := blendEvent_steps s
  rw [h]; rfl

/-- R114: the axle capabilities. -/
theorem blendEvent_axleCapability (s : Station) (x : Axle) :
    (pick (blendEvent s).blend.axles x).capability = axleCapability s x := by
  obtain ⟨_, _, _, _, _, _, h⟩ := blendEvent_steps s
  rw [h]; cases x <;> rfl

/-- R114: the capability without track brake. -/
theorem blendEvent_capNoMtb (s : Station) : (blendEvent s).blend.capNoMtb =
    (blendEvent s).blend.axles.a.capability + (blendEvent s).blend.axles.b.capability := by
  obtain ⟨_, _, _, _, _, _, h⟩ := blendEvent_steps s
  rw [h]; rfl

/-- R114: the capability, with a track brake that is DOWN. -/
theorem blendEvent_capability (s : Station) :
    (blendEvent s).blend.capability = (blendEvent s).blend.capNoMtb + mtbCounted (blendEvent s) := by
  obtain ⟨_, _, _, _, _, _, h⟩ := blendEvent_steps s
  rw [h]; rfl

/-- R115: the station demand. -/
theorem blendEvent_demand (s : Station) : (blendEvent s).blend.demand = stationDemand (blendEvent s) := by
  obtain ⟨_, _, _, _, _, _, h⟩ := blendEvent_steps s
  rw [h]; rfl

/-- R118: the nominal view. -/
theorem blendEvent_nominalView (s : Station) : (blendEvent s).blend.nominalView =
    (blendEvent s).blend.nominal + ((matchingPeers (blendEvent s)).map fun p => p.2.nominal).sum := by
  obtain ⟨_, _, _, _, _, _, h⟩ := blendEvent_steps s
  rw [h]; rfl

/-- R118: the residual view. -/
theorem blendEvent_residualView (s : Station) : (blendEvent s).blend.residualView =
    ownEscalation (blendEvent s) + ((matchingPeers (blendEvent s)).map fun p => residualOf p.2).sum := by
  obtain ⟨_, _, _, _, _, _, h⟩ := blendEvent_steps s
  rw [h]; rfl

/-- R116: the shares. -/
theorem blendEvent_share (s : Station) (x : Axle) :
    (pick (blendEvent s).blend.axles x).share = axleShare (blendEvent s) x := by
  obtain ⟨_, _, _, _, _, _, h⟩ := blendEvent_steps s
  rw [h]; cases x <;> rfl

/-- R117: the electric parts. -/
theorem blendEvent_electric (s : Station) (x : Axle) : (pick (blendEvent s).blend.axles x).electric =
    electricPart (blendEvent s) x (pick (blendEvent s).blend.axles x).share := by
  obtain ⟨_, _, _, _, _, _, h⟩ := blendEvent_steps s
  rw [h]; cases x <;> rfl

/-- R117: the friction parts. -/
theorem blendEvent_friction (s : Station) (x : Axle) : (pick (blendEvent s).blend.axles x).friction =
    frictionPart (blendEvent s) x (pick (blendEvent s).blend.axles x).share := by
  obtain ⟨_, _, _, _, _, _, h⟩ := blendEvent_steps s
  rw [h]; cases x <;> rfl

/-! ## The plant figures that count (R114) -/

/-- The inverter record as the blend unit reads it: on a MOTOR station while PRESENT, and only a healthy report. -/
theorem inverterUsable_eq (s : Station) : inverterUsable s =
    if s.plug.kind = .motor ∧ s.link.inverter.state = .present then s.link.inverter.report.filter (·.healthy) else none := by
  unfold inverterUsable inverterUsed
  cases s.plug.kind with
  | trailer => rfl
  | motor =>
    cases s.link.inverter.state with
    | lost => rfl
    | present => cases s.link.inverter.report <;> rfl

theorem inverterUsable_eq_some_iff (s : Station) (r : InverterReport) : inverterUsable s = some r ↔
    s.plug.kind = .motor ∧ s.link.inverter.state = .present ∧ s.link.inverter.report = some r ∧ r.healthy = true := by
  rw [inverterUsable_eq, Option.ite_none_right_eq_some, Option.filter_eq_some_iff, and_assoc]

theorem inverterUsable_eq_none_iff (s : Station) : inverterUsable s = none ↔
    s.plug.kind = .trailer ∨ s.link.inverter.state = .lost ∨ ∀ r, s.link.inverter.report = some r → r.healthy = false := by
  rw [inverterUsable_eq]
  cases s.plug.kind with
  | trailer => simp
  | motor => cases s.link.inverter.state <;> simp [Option.filter_eq_none_iff]

theorem electric_of_usable {s : Station} {r : InverterReport} (h : inverterUsable s = some r) (x : Axle) :
    electricTraction s x = pick r.tractionCap x ∧ electricBrake s x = pick r.brakeCap x := by
  simp [electricTraction, electricBrake, h]

theorem electric_of_unusable {s : Station} (h : inverterUsable s = none) (x : Axle) :
    electricTraction s x = 0 ∧ electricBrake s x = 0 := by
  simp [electricTraction, electricBrake, h]

/-- The brake unit counts while it is PRESENT with a healthy report. -/
theorem brakeUsable_eq (s : Station) :
    brakeUsable s = (decide (s.link.brake.state = .present) && s.link.brake.report.any (·.healthy)) := by
  unfold brakeUsable brakeUsed
  cases s.link.brake.state with
  | lost => rfl
  | present => cases s.link.brake.report <;> rfl

theorem brakeUsable_eq_true_iff (s : Station) : brakeUsable s = true ↔
    s.link.brake.state = .present ∧ ∃ r, s.link.brake.report = some r ∧ r.healthy = true := by
  simp [brakeUsable_eq, Option.any_eq_true]

theorem brakeUsable_eq_false_iff (s : Station) : brakeUsable s = false ↔
    s.link.brake.state = .lost ∨ ∀ r, s.link.brake.report = some r → r.healthy = false := by
  rw [brakeUsable_eq]
  cases s.link.brake.state <;> simp [Option.any_eq_false]

theorem frictionCounted_of_usable {s : Station} (h : brakeUsable s = true) : frictionCounted s = s.figs.frictionMax :=
  if_pos h

theorem frictionCounted_of_unusable {s : Station} (h : brakeUsable s = false) : frictionCounted s = 0 := by
  simp [frictionCounted, h]

theorem frictionCounted_le (s : Station) : frictionCounted s ≤ s.figs.frictionMax := by
  unfold frictionCounted; split <;> omega

/-- Figures that are a usable inverter's, and 0 without one, are the figures the blend unit counts. -/
theorem electric_unique {s : Station} {et eb : Axle → Nat}
    (husable : ∀ r, s.plug.kind = .motor → s.link.inverter.state = .present → s.link.inverter.report = some r →
      r.healthy = true → ∀ x, et x = pick r.tractionCap x ∧ eb x = pick r.brakeCap x)
    (hunusable : s.plug.kind = .trailer ∨ s.link.inverter.state = .lost ∨
      (∀ r, s.link.inverter.report = some r → r.healthy = false) → ∀ x, et x = 0 ∧ eb x = 0) (x : Axle) :
    et x = electricTraction s x ∧ eb x = electricBrake s x := by
  cases hu : inverterUsable s with
  | some r =>
    obtain ⟨hkind, hstate, hreport, hhealthy⟩ := (inverterUsable_eq_some_iff s r).mp hu
    obtain ⟨htraction, hbrake⟩ := electric_of_usable hu x
    rw [htraction, hbrake]
    exact husable r hkind hstate hreport hhealthy x
  | none =>
    obtain ⟨htraction, hbrake⟩ := electric_of_unusable hu x
    rw [htraction, hbrake]
    exact hunusable ((inverterUsable_eq_none_iff s).mp hu) x

/-- A friction figure that is the maximum with a usable brake unit, and 0 without one, is the figure counted. -/
theorem friction_unique {s : Station} {fr : Nat}
    (husable : ∀ r, s.link.brake.state = .present → s.link.brake.report = some r → r.healthy = true →
      fr = s.figs.frictionMax)
    (hunusable : s.link.brake.state = .lost ∨ (∀ r, s.link.brake.report = some r → r.healthy = false) → fr = 0) :
    fr = frictionCounted s := by
  cases hu : brakeUsable s with
  | true =>
    obtain ⟨hstate, r, hreport, hhealthy⟩ := (brakeUsable_eq_true_iff s).mp hu
    rw [frictionCounted_of_usable hu]
    exact husable r hstate hreport hhealthy
  | false =>
    rw [frictionCounted_of_unusable hu]
    exact hunusable ((brakeUsable_eq_false_iff s).mp hu)

/-! ## Nominal force and capability by the effort sense (R113, R114) -/

theorem effortSense_drive {s : Station} (h : s.blend.served = .drive) : effortSense s = .traction :=
  (senseOf_eq_traction_iff _).mpr h

theorem effortSense_braking {s : Station} (h : s.blend.served = .brake ∨ s.blend.served = .lineLoss ∨
    s.blend.served = .emergency) : effortSense s = .braking := (senseOf_eq_braking_iff _).mpr h

theorem effortSense_none {s : Station} (h : s.blend.served = .coast ∨ s.blend.served = .hold) : effortSense s = .none :=
  (senseOf_eq_none_iff _).mpr h

theorem clampedForce_drive (f : Int) : clampedForce .drive f = (max 0 f).toNat := by
  change f.toNat = _; omega

theorem clampedForce_braking {m : ServedMode} (h : m = .brake ∨ m = .lineLoss ∨ m = .emergency) (f : Int) :
    clampedForce m f = (max 0 (-f)).toNat := by
  have clamp : (-f).toNat = (max 0 (-f)).toNat := by omega
  rcases h with rfl | rfl | rfl <;> exact clamp

theorem clampedForce_idle {m : ServedMode} (h : m = .coast ∨ m = .hold) (f : Int) : clampedForce m f = 0 := by
  rcases h with rfl | rfl <;> rfl

theorem axleCapability_traction {s : Station} (h : effortSense s = .traction) (x : Axle) :
    axleCapability s x = min (pick s.creep x).limit (electricTraction s x) := by rw [axleCapability, h]

theorem axleCapability_braking {s : Station} (h : effortSense s = .braking) (x : Axle) :
    axleCapability s x = min (pick s.creep x).limit (electricBrake s x + frictionCounted s) := by rw [axleCapability, h]

theorem axleCapability_none {s : Station} (h : effortSense s = .none) (x : Axle) : axleCapability s x = 0 := by
  rw [axleCapability, h]

theorem mtbCounted_eq (s : Station) : mtbCounted s = if effortSense s = .braking ∧ s.blend.mtb = .down then 50000 else 0 := rfl

theorem mtbCounted_braking {s : Station} (h : effortSense s = .braking) :
    mtbCounted s = if s.blend.mtb = .down then 50000 else 0 := by simp [mtbCounted_eq, h]

theorem mtbCounted_not_braking {s : Station} (h : effortSense s ≠ .braking) : mtbCounted s = 0 := by
  simp [mtbCounted_eq, h]

end Sys2Proof.Machine

open Sys2Proof Sys2Proof.Machine

/-- Settles O33: the figures of steps 2 and 3 by the rows of R113 and R114 for the served mode, with the plant figures that
the premises on `et`, `eb` and `fr` determine. -/
theorem blendForces : Obligations.BlendForces := by
  intro q z hz
  obtain ⟨b, m, frame⟩ := blendEvent_frame z
  have nominal := blendEvent_nominal z
  have capability := blendEvent_capability z
  have capNoMtb := blendEvent_capNoMtb z
  have axles := blendEvent_axleCapability z
  refine ⟨blendEvent z, actRunning_running blendEvent ⟨q, z⟩ hz, by rw [frame], blendEvent_keeps z, blendEvent_mass z,
    fun slope force a hslope ha hforce => ?_, fun hidle => ?_, fun et eb fr husable hunusable hbrake hnoBrake => ?_⟩
  · have formed : forceOf (blendEvent z).blend.mass (z.blend.accel.getD 0) z.pos.attrStation.rise = force := by
      rw [ha, hforce, hslope]; rfl
    rw [nominal, formed]
    exact ⟨fun h => by rw [h, clampedForce_drive], fun h => by rw [clampedForce_braking h]⟩
  · have sense : effortSense z = .none := effortSense_none hidle
    have noAxle (x : Axle) : (pick (blendEvent z).blend.axles x).capability = 0 := by
      rw [axles, axleCapability_none sense]
    have noTrackBrake : mtbCounted (blendEvent z) = 0 := mtbCounted_not_braking (by simp [sense])
    refine ⟨by rw [nominal, clampedForce_idle hidle, Nat.zero_min], ?_, noAxle⟩
    have ha := noAxle .a
    have hb := noAxle .b
    simp only [pick] at ha hb
    omega
  · have electric := electric_unique husable hunusable
    have friction := friction_unique hbrake hnoBrake
    refine ⟨fun h => ⟨fun x => ?_, ?_⟩, fun h => ⟨fun x => ?_, ?_⟩, capNoMtb⟩
    · rw [axles, axleCapability_traction (effortSense_drive h), (electric x).1]
    · rw [capability, mtbCounted_not_braking (by simp [effortSense_drive h]), Nat.add_zero]
    · rw [axles, axleCapability_braking (effortSense_braking h), (electric x).2, friction]
    · rw [capability, mtbCounted_braking (by simp [effortSense_braking h])]

end

section
/-! SUPPORT. The split of the station demand (R115 to R117): the demand lies within the capability, the axle total within the
axle capabilities, and the shares place the whole of it. -/

namespace Sys2Proof.Machine

/-! ## Station demand and own escalation (R115, R118) -/

theorem stationDemand_none {s : Station} (h : effortSense s = .none) : stationDemand s = 0 := by rw [stationDemand, h]

theorem stationDemand_sense {s : Station} (h : effortSense s ≠ .none) : stationDemand s =
    min (min s.blend.nominal s.blend.capability + appliedSum s.makeUp.takes) s.blend.capability := by
  unfold stationDemand
  cases hs : effortSense s with
  | traction | braking => rfl
  | none => exact absurd hs h

/-- R115: the station demand is capped at the capability. -/
theorem stationDemand_le (s : Station) : stationDemand s ≤ s.blend.capability := by
  rcases eq_or_ne (effortSense s) .none with h | h
  · rw [stationDemand_none h]
    exact Nat.zero_le _
  · rw [stationDemand_sense h]
    exact min_le_right _ _

theorem ownEscalation_eq (s : Station) : ownEscalation s = if s.blend.mtb = .down
    then s.blend.nominal - s.blend.capNoMtb - s.makeUp.covered else s.makeUp.escResidual := by
  unfold ownEscalation
  cases s.blend.mtb <;> rfl

/-! ## Shares (R116) -/

theorem shareOf_eq (h c h' c' : Nat) : shareOf h c h' c' = min h c + min (h' - c') (c - min h c) := rfl

/-- Two halves within the capabilities together are placed whole. -/
theorem shareOf_add {h c h' c' : Nat} (hle : h + h' ≤ c + c') : shareOf h c h' c' + shareOf h' c' h c = h + h' := by
  rw [shareOf_eq, shareOf_eq]; omega

theorem shareOf_le (h c h' c' : Nat) : shareOf h c h' c' ≤ c := by rw [shareOf_eq]; omega

/-- Where both halves fit, an axle's share is its half. -/
theorem shareOf_fits {h c h' c' : Nat} (hc : h ≤ c) (hc' : h' ≤ c') : shareOf h c h' c' = h := by rw [shareOf_eq]; omega

/-- A half beyond the capability leaves the axle at its capability. -/
theorem shareOf_full {h c : Nat} (hc : c < h) (h' c' : Nat) : shareOf h c h' c' = c := by rw [shareOf_eq]; omega

theorem halfOf_leading (s : Station) : halfOf s (leadingAxle s) = axleTotal s - axleTotal s / 2 := by
  have leading : halfOf s (leadingAxle s) = (axleTotal s + 1) / 2 := if_pos (beq_self_eq_true _)
  omega

theorem halfOf_trailing (s : Station) : halfOf s (otherAxle (leadingAxle s)) = axleTotal s / 2 := by
  have other : leads s (otherAxle (leadingAxle s)) = false := by
    unfold leads; cases leadingAxle s <;> rfl
  simp [halfOf, other]

theorem axleShare_leading (s : Station) : axleShare s (leadingAxle s) =
    shareOf (axleTotal s - axleTotal s / 2) (pick s.blend.axles (leadingAxle s)).capability
      (axleTotal s / 2) (pick s.blend.axles (otherAxle (leadingAxle s))).capability := by
  rw [axleShare, halfOf_leading, halfOf_trailing]

theorem axleShare_trailing (s : Station) : axleShare s (otherAxle (leadingAxle s)) =
    shareOf (axleTotal s / 2) (pick s.blend.axles (otherAxle (leadingAxle s))).capability
      (axleTotal s - axleTotal s / 2) (pick s.blend.axles (leadingAxle s)).capability := by
  rw [axleShare, otherAxle_otherAxle, halfOf_leading, halfOf_trailing]

/-- R116: what the track brake leaves of the station demand is within the axle capabilities. -/
theorem axleTotal_blendEvent_le (s : Station) (x : Axle) : axleTotal (blendEvent s) ≤
    (pick (blendEvent s).blend.axles x).capability + (pick (blendEvent s).blend.axles (otherAxle x)).capability := by
  have demand := stationDemand_le (blendEvent s)
  rw [← blendEvent_demand, blendEvent_capability, blendEvent_capNoMtb] at demand
  unfold axleTotal
  cases x <;> simp only [pick, otherAxle] <;> omega

theorem blendEvent_share_le (s : Station) (x : Axle) :
    (pick (blendEvent s).blend.axles x).share ≤ (pick (blendEvent s).blend.axles x).capability := by
  rw [blendEvent_share]
  exact shareOf_le _ _ _ _

/-! ## Electric and friction parts (R117) -/

theorem electricPart_braking {s : Station} (h : effortSense s = .braking) (x : Axle) (n : Nat) :
    electricPart s x n = min n (electricBrake s x) := by rw [electricPart, h]

theorem frictionPart_braking {s : Station} (h : effortSense s = .braking) (x : Axle) (n : Nat) :
    frictionPart s x n = n - electricPart s x n := by rw [frictionPart, h]

theorem parts_traction {s : Station} (h : effortSense s = .traction) (x : Axle) (n : Nat) :
    electricPart s x n = n ∧ frictionPart s x n = 0 := by
  rw [electricPart, frictionPart, h]
  exact ⟨rfl, rfl⟩

theorem parts_none {s : Station} (h : effortSense s = .none) (x : Axle) (n : Nat) :
    electricPart s x n = 0 ∧ frictionPart s x n = 0 := by
  rw [electricPart, frictionPart, h]
  exact ⟨rfl, rfl⟩

/-- R117: with effort sense BRAKING the electric part is the share as far as the electric brake reaches. -/
theorem blendEvent_electric_braking {s : Station} (h : effortSense s = .braking) (x : Axle) :
    (pick (blendEvent s).blend.axles x).electric =
      min (pick (blendEvent s).blend.axles x).share (electricBrake s x) := by
  rw [blendEvent_electric, electricPart_braking (by rwa [effortSense_blendEvent]), electricBrake_blendEvent]

/-- R117: with effort sense BRAKING the friction part is the rest of the share. -/
theorem blendEvent_friction_braking {s : Station} (h : effortSense s = .braking) (x : Axle) :
    (pick (blendEvent s).blend.axles x).friction =
      (pick (blendEvent s).blend.axles x).share - (pick (blendEvent s).blend.axles x).electric := by
  rw [blendEvent_friction, frictionPart_braking (by rwa [effortSense_blendEvent]), ← blendEvent_electric]

/-- R117: the friction part is within the friction maximum, as the share is within the capability of R114. -/
theorem blendEvent_friction_le {s : Station} (h : effortSense s = .braking) (x : Axle) :
    (pick (blendEvent s).blend.axles x).friction ≤ s.figs.frictionMax := by
  have share := blendEvent_share_le s x
  rw [blendEvent_axleCapability, axleCapability_braking h] at share
  have counted := frictionCounted_le s
  rw [blendEvent_friction_braking h, blendEvent_electric_braking h]
  omega

end Sys2Proof.Machine

open Sys2Proof Sys2Proof.Machine

/-- Settles O34: the demand within the capability, the views over the matching peers, the shares by the lemmas on `shareOf`
at the two halves, and the parts by the effort sense. -/
theorem blendSplit : Obligations.BlendSplit := by
  intro q z hz
  have demand := blendEvent_demand z
  have sense := effortSense_blendEvent z
  refine ⟨blendEvent z, actRunning_running blendEvent ⟨q, z⟩ hz, fun h => ?_, fun h => ?_, ?_, fun own hown => ?_,
    fun x y total half hx hy htotal hhalf => ?_⟩
  · rw [demand, stationDemand_none (sense.trans h)]
  · rw [demand, stationDemand_sense (sense.trans_ne h)]
    rfl
  · rw [blendEvent_nominalView, matchingPeers_blendEvent]
  · rw [blendEvent_residualView, matchingPeers_blendEvent, ownEscalation_eq, ← hown]
    rfl
  · have placed : total = axleTotal (blendEvent z) := by
      rw [htotal, axleTotal, mtbCounted_eq, sense]
    have within := axleTotal_blendEvent_le z x
    have leading := axleShare_leading (blendEvent z)
    have trailing := axleShare_trailing (blendEvent z)
    rw [leadingAxle_blendEvent, ← hx, ← hy, ← placed, ← hhalf, ← blendEvent_share] at leading trailing
    rw [← hy, ← placed] at within
    rw [leading, trailing]
    refine ⟨?_, blendEvent_share_le z, fun hxle hyle => ⟨shareOf_fits hxle hyle, shareOf_fits hyle hxle⟩,
      fun h => shareOf_full h _ _, fun h => shareOf_full h _ _, fun w => ⟨fun h => ?_, fun h => ?_, fun h => ?_⟩⟩
    · rw [shareOf_add (by omega)]
      omega
    · rw [blendEvent_electric, blendEvent_friction]
      exact parts_none (sense.trans h) w _
    · rw [blendEvent_electric, blendEvent_friction]
      exact parts_traction (sense.trans h) w _
    · refine ⟨fun r hkind hstate hreport hhealthy => ?_, fun hnone => ?_, ?_, blendEvent_friction_le h w⟩
      · have usable := (inverterUsable_eq_some_iff z r).mpr ⟨hkind, hstate, hreport, hhealthy⟩
        rw [blendEvent_electric_braking h, (electric_of_usable usable w).2]
      · have unusable := (inverterUsable_eq_none_iff z).mpr hnone
        rw [blendEvent_electric_braking h, (electric_of_unusable unusable w).2, Nat.min_zero]
      · have electric := blendEvent_electric_braking h w
        rw [blendEvent_friction_braking h]
        omega

end

section
/-! SUPPORT. The make-up step of the blend event (R123 to R132, R137 to R139): the standing, what a settled generation is,
the figures that step 4 leaves in terms of the force figures of the same event, and the law of R130 on the sum of the takes. -/

namespace Sys2Proof.Machine

/-! ## Standing (R123) -/

/-- R123: the served mode and the hold state in which a unit that has not withdrawn is ACTIVE. -/
def TakesPart (s : Station) : Prop :=
  (s.blend.served = .drive ∨ s.blend.served = .brake ∨ s.blend.served = .lineLoss) ∧
    (s.hold.state = .free ∨ s.hold.state = .hillStart)

theorem takesPart_iff (m : ServedMode) : takesPart m = true ↔ m = .drive ∨ m = .brake ∨ m = .lineLoss := by
  cases m <;> simp [takesPart]

theorem standingOf_withdrawn {s : Station} (h : s.makeUp.withdrawn = true) : standingOf s = .withdrawn := if_pos h

theorem standingOf_active {s : Station} (hw : s.makeUp.withdrawn = false) (hp : TakesPart s) : standingOf s = .active := by
  obtain ⟨hserved, hhold⟩ := hp
  simp [standingOf, hw, (takesPart_iff _).mpr hserved, hhold]

theorem standingOf_stoodDown {s : Station} (hw : s.makeUp.withdrawn = false) (hp : ¬TakesPart s) :
    standingOf s = .stoodDown := by
  have idle : ¬(takesPart s.blend.served = true ∧ (s.hold.state = .free ∨ s.hold.state = .hillStart)) := by
    rwa [takesPart_iff]
  simp [standingOf, hw, idle]

/-! ## Generation (R125) -/

theorem movesOn_iff (n g : Nat) :
    movesOn n g = true ↔ 500 < n - g ∨ 500 < g - n ∨ (n = 0 ∧ g ≠ 0) ∨ (n ≠ 0 ∧ g = 0) := by
  simp only [movesOn, Bool.or_eq_true, decide_eq_true_eq, bne_iff_ne, ne_eq, Bool.beq_eq_decide_eq, decide_eq_decide]
  omega

/-- R125: a settled generation writes the generation and its shortfall alone, and reads no more of the unit than these. -/
theorem settleGeneration_eq (n : Nat) (m : MakeUp) : settleGeneration n m = { m with
    generation := if movesOn n m.genShortfall = true then (m.generation + 1) % 256 else m.generation
    genShortfall := if movesOn n m.genShortfall = true then n else m.genShortfall } := by
  unfold settleGeneration
  split <;> rfl

theorem settleGeneration_moved {n : Nat} {m : MakeUp} (h : movesOn n m.genShortfall = true) :
    settleGeneration n m = { m with generation := (m.generation + 1) % 256, genShortfall := n } := if_pos h

theorem settleGeneration_kept {n : Nat} {m : MakeUp} (h : ¬movesOn n m.genShortfall = true) : settleGeneration n m = m :=
  if_neg h

/-! ## Takes (R129 to R132) -/

theorem takeAmount_eq (spare q t : Nat) (c : StatusContent) : takeAmount spare q t c =
    if shortfallOf c < c.covered then shortfallOf c * spare / max q t * shortfallOf c / c.covered
    else shortfallOf c * spare / max q t := rfl

/-- R131: the scaling under over-cover lowers a take. -/
theorem takeAmount_le (spare q t : Nat) (c : StatusContent) :
    takeAmount spare q t c ≤ shortfallOf c * spare / max q t := by
  rw [takeAmount_eq]
  split
  next hover => exact Nat.div_le_of_le_mul (by rw [Nat.mul_comm]; exact Nat.mul_le_mul_right _ hover.le)
  next => exact le_rfl

/-- Truncated parts together are within the truncated whole. -/
theorem sum_map_div_le (l : List Nat) (m : Nat) : (l.map (· / m)).sum ≤ l.sum / m := by
  induction l with
  | nil => exact Nat.zero_le _
  | cons n l ih =>
    rw [List.map_cons, List.sum_cons, List.sum_cons]
    exact (Nat.add_le_add_left ih _).trans Nat.div_add_div_le_add_div

theorem mem_formTakes (spare : Nat) (peers : List (Nat × StatusContent)) (e : Take) : e ∈ formTakes spare peers ↔
    e.applied = true ∧ e.amount ≠ 0 ∧ ∃ c, (e.peer, c) ∈ peers ∧ e.generation = c.generation ∧
      e.amount = takeAmount spare (totalSpare spare peers) (totalShort peers) c := by
  simp only [formTakes, List.mem_filterMap, Option.ite_none_left_eq_some, Option.some.injEq]
  constructor
  · rintro ⟨⟨n, c⟩, hmem, hamount, rfl⟩
    exact ⟨rfl, hamount, c, hmem, rfl, rfl⟩
  · rintro ⟨happlied, hamount, c, hmem, hgen, htake⟩
    refine ⟨(e.peer, c), hmem, htake ▸ hamount, ?_⟩
    rw [← htake, ← hgen, ← happlied]

/-- R132: leaving out the takes of 0 does not change what they come to. -/
theorem sum_formTakes (spare : Nat) (peers : List (Nat × StatusContent)) : ((formTakes spare peers).map (·.amount)).sum =
    (peers.map fun p => takeAmount spare (totalSpare spare peers) (totalShort peers) p.2).sum := by
  unfold formTakes
  generalize totalSpare spare peers = q, totalShort peers = t
  induction peers with
  | nil => rfl
  | cons p peers ih =>
    by_cases hzero : takeAmount spare q t p.2 = 0 <;> simp [hzero, ← ih]

/-- R130, the law of the device: the takes together are within the spare from which they were computed. -/
theorem sum_formTakes_le (spare : Nat) (peers : List (Nat × StatusContent)) :
    ((formTakes spare peers).map (·.amount)).sum ≤ spare := by
  have shares : ((peers.map fun p => shortfallOf p.2 * spare).map
      (· / max (totalSpare spare peers) (totalShort peers))).sum ≤ _ := sum_map_div_le _ _
  rw [List.map_map, List.sum_map_mul_right] at shares
  calc ((formTakes spare peers).map (·.amount)).sum
      _ = (peers.map fun p => takeAmount spare (totalSpare spare peers) (totalShort peers) p.2).sum := sum_formTakes spare peers
      _ ≤ (peers.map fun p => shortfallOf p.2 * spare / max (totalSpare spare peers) (totalShort peers)).sum :=
        List.sum_le_sum fun p _ => takeAmount_le spare _ _ p.2
      _ ≤ totalShort peers * spare / max (totalSpare spare peers) (totalShort peers) := shares
      _ ≤ spare := Nat.div_le_of_le_mul (Nat.mul_le_mul_right spare (le_max_right _ _))

theorem freshPeers_ascending (s : Station) : (freshPeers s).Pairwise fun p r => p.1 < r.1 := by
  refine List.Pairwise.filterMap _ ?_ List.pairwise_lt_range
  intro n k hlt p hp r hr
  obtain ⟨_, -, rfl⟩ := Option.map_eq_some_iff.mp hp
  obtain ⟨_, -, rfl⟩ := Option.map_eq_some_iff.mp hr
  exact hlt

theorem matchingPeers_ascending (s : Station) : (matchingPeers s).Pairwise fun p r => p.1 < r.1 :=
  (freshPeers_ascending s).filter _

/-- R132: the takes keep the ascending order of the peers. -/
theorem formTakes_ascending (spare : Nat) {peers : List (Nat × StatusContent)}
    (h : peers.Pairwise fun p r => p.1 < r.1) : ((formTakes spare peers).map (·.peer)).Pairwise (· < ·) := by
  refine List.pairwise_map.mpr (List.Pairwise.filterMap _ ?_ h)
  intro p r hlt e he k hk
  simp only [Option.ite_none_left_eq_some, Option.some.injEq] at he hk
  obtain ⟨-, rfl⟩ := he
  obtain ⟨-, rfl⟩ := hk
  exact hlt

/-! ## Step 4 -/

/-- R127: what the matching peers' takes linked to a generation come to. -/
def coveredAt (s : Station) (generation : Nat) : Nat :=
  ((matchingPeers s).map fun p => takeOn s.plug.number.val generation p.2).sum

theorem coveredNow_eq (s : Station) : coveredNow s = coveredAt s s.makeUp.generation := rfl

/-- R124 to R132, R139: what step 4 leaves in an ACTIVE unit whose generation settles as `g`. -/
theorem activeStep_makeUp {s : Station} {g : MakeUp}
    (h : g = settleGeneration (s.blend.nominal - s.blend.capability) s.makeUp) : (activeStep s).makeUp = { s.makeUp with
      standing := .active
      shortfall := s.blend.nominal - s.blend.capability
      spare := s.blend.capability - s.blend.nominal
      generation := g.generation
      genShortfall := g.genShortfall
      covered := coveredAt s g.generation
      residual := s.blend.nominal - s.blend.capability - coveredAt s g.generation
      escResidual := s.blend.nominal - s.blend.capability - coveredAt s g.generation
      takes := formTakes (s.blend.capability - s.blend.nominal) (matchingPeers s) } := by
  subst h
  simp only [activeStep, coveredNow_eq, settleGeneration_eq]
  rfl

/-- R137, R138: what step 4 leaves in a unit that is not ACTIVE. -/
theorem idleStep_makeUp (standing : Standing) (esc : Nat) (s : Station) : (idleStep standing esc s).makeUp = { s.makeUp with
    standing := standing, shortfall := 0, spare := 0, covered := 0, residual := 0, escResidual := esc, takes := []
    generation := (settleGeneration 0 s.makeUp).generation
    genShortfall := (settleGeneration 0 s.makeUp).genShortfall } := by
  unfold idleStep
  rw [settleGeneration_eq]

theorem makeUpStep_active {s : Station} (hw : s.makeUp.withdrawn = false) (hp : TakesPart s) :
    makeUpStep s = activeStep s := by rw [makeUpStep, standingOf_active hw hp]

theorem makeUpStep_stoodDown {s : Station} (hw : s.makeUp.withdrawn = false) (hp : ¬TakesPart s) :
    makeUpStep s = idleStep .stoodDown 0 s := by rw [makeUpStep, standingOf_stoodDown hw hp]

theorem makeUpStep_withdrawn {s : Station} (hw : s.makeUp.withdrawn = true) :
    makeUpStep s = idleStep .withdrawn (s.blend.nominal - s.blend.capability) s := by rw [makeUpStep, standingOf_withdrawn hw]

/-- R123: a unit that is not ACTIVE goes through the idle step. -/
theorem makeUpStep_idle {s : Station} (h : s.makeUp.withdrawn = true ∨ ¬TakesPart s) :
    ∃ standing esc, makeUpStep s = idleStep standing esc s := by
  cases hw : s.makeUp.withdrawn with
  | true => exact ⟨_, _, makeUpStep_withdrawn hw⟩
  | false => exact ⟨_, _, makeUpStep_stoodDown hw (h.resolve_left (by simp [hw]))⟩

/-- R125, R138: in every standing the withdrawal stays, and the generation is settled against the published shortfall. -/
theorem makeUpStep_settles (s : Station) : (makeUpStep s).makeUp.withdrawn = s.makeUp.withdrawn ∧
    (makeUpStep s).makeUp.generation = (settleGeneration (makeUpStep s).makeUp.shortfall s.makeUp).generation ∧
    (makeUpStep s).makeUp.genShortfall = (settleGeneration (makeUpStep s).makeUp.shortfall s.makeUp).genShortfall := by
  rcases em (s.makeUp.withdrawn = true ∨ ¬TakesPart s) with h | h
  · obtain ⟨standing, esc, hidle⟩ := makeUpStep_idle h
    rw [hidle, idleStep_makeUp]
    exact ⟨rfl, rfl, rfl⟩
  · obtain ⟨hw, hp⟩ := not_or.mp h
    rw [makeUpStep_active (Bool.eq_false_of_not_eq_true hw) (not_not.mp hp), activeStep_makeUp rfl]
    exact ⟨rfl, rfl, rfl⟩

/-- R111: the station that step 4 finds has the force figures that the event leaves, and all else that the make-up unit reads
as the event found it. -/
theorem blendEvent_makeUp (s : Station) : ∃ f, (blendEvent s).makeUp = (makeUpStep f).makeUp ∧ f.makeUp = s.makeUp ∧
    f.blend.served = s.blend.served ∧ f.hold = s.hold ∧ f.blend.nominal = (blendEvent s).blend.nominal ∧
    f.blend.capability = (blendEvent s).blend.capability ∧ matchingPeers f = matchingPeers s ∧ f.plug = s.plug := by
  obtain ⟨u, c, e, r, l, htrack⟩ := trackBrakeStep_frame_mtb { s with blend := { s.blend with lastBlend := s.time } }
  unfold blendEvent
  simp only
  rw [htrack]
  obtain ⟨m, hmake⟩ := makeUpStep_frame (forceStep (massStep { s with blend := { s.blend with
    mtb := u, contactorClosed := c, escalation := e, release := r, loweringSince := l, lastBlend := s.time } }))
  refine ⟨_, rfl, rfl, rfl, rfl, ?_, ?_, rfl, rfl⟩ <;> rw [hmake] <;> rfl

end Sys2Proof.Machine

open Sys2Proof Sys2Proof.Machine

/-- Settles O35: each clause is a fact about step 4 (`activeStep_makeUp`, `idleStep_makeUp`, `makeUpStep_settles`) in the
station that it finds; the takes by `mem_formTakes` and the law of R130, `sum_formTakes_le`. -/
theorem blendMakeUp : Obligations.BlendMakeUp := by
  intro q z hz
  obtain ⟨f, formed, found, served, hold, nominal, capability, peers, plug⟩ := blendEvent_makeUp z
  obtain ⟨withdrawn, generation, genShortfall⟩ := makeUpStep_settles f
  refine ⟨blendEvent z, actRunning_running blendEvent ⟨q, z⟩ hz, fun part hpart => ?_⟩
  rw [← served, ← hold] at hpart
  obtain rfl : part = TakesPart f := propext hpart
  rw [formed, ← found, ← nominal, ← capability, ← peers, ← plug]
  refine ⟨withdrawn, fun hw => ?_, fun hw hp => ?_, fun hidle => ?_, ?_, fun hw hp => ?_⟩
  · rw [makeUpStep_withdrawn hw]
    exact ⟨rfl, rfl⟩
  · rw [makeUpStep_stoodDown hw hp]
    exact ⟨rfl, rfl⟩
  · obtain ⟨standing, esc, hstep⟩ := makeUpStep_idle hidle
    rw [hstep]
    exact ⟨rfl, rfl, rfl, rfl, rfl⟩
  · rintro s g rfl rfl
    rw [generation, genShortfall, ← movesOn_iff]
    refine ⟨fun moved => ?_, fun hup hdown hzero => ?_⟩
    · rw [settleGeneration_moved moved]
      exact ⟨rfl, rfl⟩
    · rw [settleGeneration_kept (by rw [movesOn_iff]; omega)]
      exact ⟨rfl, rfl⟩
  · rw [makeUpStep_active hw hp, activeStep_makeUp rfl]
    refine ⟨rfl, rfl, rfl, rfl, rfl, rfl, sum_formTakes_le _ _, formTakes_ascending _ (matchingPeers_ascending f),
      fun T Q hT hQ e => ?_⟩
    have short : totalShort (matchingPeers f) = T := hT.symm
    have spare : totalSpare (f.blend.capability - f.blend.nominal) (matchingPeers f) = Q := hQ.symm
    simp only [mem_formTakes, short, spare, takeAmount_eq, exists_and_left, exists_eq_left]
    rfl

end

section
/-! SUPPORT. A command as an operation of the station, and what reaches the rail condition map, the trainline slots, the peer
table and the fault table: all but a few named commands reach them through an own observation or a fault report alone. -/

namespace Sys2Proof.Machine

/-! ## A command as an operation of the station -/

/-- The station that a command leaves. -/
def stationAfter (c : Instr) (z : Station) : Station :=
  match exec c ⟨[], z⟩ with
  | .next s => s.station
  | .fault _ | .refused _ => z

/-- Every command answers a next state with the queue as it was. -/
theorem exec_eq (c : Instr) (q : List Instr) (z : Station) : exec c ⟨q, z⟩ = .next ⟨q, stationAfter c z⟩ := by
  cases c <;> rfl

theorem whenRunning_keeps {P : Station → Prop} {f : Station → Station} {z : Station} (h : P z) (hf : P z → P (f z)) :
    P (whenRunning f z) := by
  unfold whenRunning
  split
  · exact hf h
  · exact h

/-- R185: a property that does not read the reply is kept by a service command when what it takes keeps it. -/
theorem taken_keeps {P : Station → Prop} {code : Byte} {r : Request} {f : Station → Station} {z : Station}
    (hreply : ∀ s q, P s → P { s with reply := q }) (h : P z) (hf : P z → P (f z)) : P (taken code r f z) := by
  obtain e | ⟨q, e⟩ := taken_cases code r f z
  · rw [e]; exact hf h
  · rw [e]; exact hreply z q h

/-- A property that every command keeps and that does not read the clock is kept by every step. -/
theorem step_keeps {P : Station → Prop} (hclock : ∀ s, P s → P (passMicro s)) (hcommand : ∀ c s, P s → P (stationAfter c s))
    {s t : State} (h : P s.station) (hs : step s = .next t) : P t.station := by
  obtain ⟨pending, z⟩ := s
  cases pending with
  | cons c rest =>
    obtain rfl := (Host.Outcome.next.inj ((exec_eq c rest z).symm.trans hs)).symm
    exact hcommand c z h
  | nil =>
    obtain rfl := (Host.Outcome.next.inj hs).symm
    unfold tick
    split
    · split
      · exact hclock z h
      · exact h
    · exact h

theorem passMicro_frame (s : Station) : ∃ t u m, passMicro s = { s with time := t, timeUs := u, subMs := m } := by
  unfold passMicro; split <;> exact ⟨_, _, _, rfl⟩

/-! ## What leaves a unit: own observations and fault reports -/

/-- What the map, the RAIL REPORT, the peer table and the fault table hold, with the figures they are kept by. -/
def outgoing (s : Station) : RailMap × List Peer × Option RailFrame × Option LineFrame × FaultTable × Commissioning :=
  (s.map, s.port.peers, s.port.railSlot, s.port.onLine, s.faults, s.figs)

/-- A property of `outgoing` that own observations and fault reports keep. -/
structure Emission (P : Station → Prop) : Prop where
  observe : ∀ k c mu s, P s → P (observe k c mu s)
  report : ∀ k x d s, P s → P (report k x d s)
  reads : ∀ {s t}, P s → outgoing t = outgoing s → P t

theorem outgoing_passMicro (s : Station) : outgoing (passMicro s) = outgoing s := by
  obtain ⟨_, _, _, e⟩ := passMicro_frame s; rw [e]; rfl

theorem outgoing_positionSample (s : Station) : outgoing (positionSample s) = outgoing s := by
  obtain ⟨_, _, _, _, e⟩ := positionSample_frame s; rw [e]; rfl

theorem outgoing_learnSample (x : Axle) (s : Station) : outgoing (learnSample x s) = outgoing s := by
  obtain ⟨_, e⟩ := learnSample_frame x s; rw [e]; rfl

theorem outgoing_evaluate (arrival : Bool) (s : Station) : outgoing (evaluate arrival s) = outgoing s := by
  obtain ⟨_, _, _, _, e⟩ := evaluate_frame arrival s; rw [e]; rfl

theorem outgoing_rouse (s : Station) : outgoing (rouse s) = outgoing s := by
  obtain ⟨_, e⟩ := rouse_frame s; rw [e]; rfl

theorem outgoing_announced (f : Station → Station) (s : Station) : outgoing (announced f s) = outgoing (f s) := by
  obtain ⟨-, e⟩ | ⟨-, e⟩ := announced_cases f s <;> rw [e]; rfl

theorem outgoing_wake (s : Station) : outgoing (wake s) = outgoing s := (outgoing_announced rouse s).trans (outgoing_rouse s)

theorem outgoing_stillTest (s : Station) : outgoing (stillTest s) = outgoing s := by
  obtain ⟨_, _, _, _, _, _, _, _, e⟩ := stillTest_frame s; rw [e]; rfl

theorem outgoing_releaseForward (s : Station) : outgoing (releaseForward s) = outgoing s := by
  obtain ⟨_, _, e⟩ := releaseForward_frame s; rw [e]; rfl

theorem outgoing_levelStart (b : Bool) (s : Station) : outgoing (levelStart b s) = outgoing s := by
  obtain ⟨_, e⟩ := levelStart_frame b s; rw [e]; rfl

theorem outgoing_hillSample (s : Station) : outgoing (hillSample s) = outgoing s := by
  obtain ⟨_, e⟩ := hillSample_frame s; rw [e]; rfl

theorem outgoing_parkTest (s : Station) : outgoing (parkTest s) = outgoing s := by
  obtain ⟨_, _, _, _, e⟩ := parkTest_frame s; rw [e]; rfl

theorem outgoing_positionDemand (c : CabEnd) (d : DemandContent) (s : Station) :
    outgoing (positionDemand c d s) = outgoing s := by
  obtain ⟨_, _, _, _, _, e⟩ := positionDemand_frame c d s; rw [e]; rfl

theorem outgoing_demandWake (s : Station) : outgoing (demandWake s) = outgoing s := by
  unfold demandWake
  split
  · split
    · rfl
    · exact outgoing_wake s
  · rfl

theorem outgoing_orders (s : Station) : outgoing (sendOrders (flagCandidates s)) = outgoing s := rfl

theorem outgoing_admitSources (s : Station) : outgoing (admitSources s) = outgoing s := rfl

theorem outgoing_emptyHistories (s : Station) : outgoing (emptyHistories s) = outgoing s := rfl

theorem outgoing_pruneReslips (x : Axle) (s : Station) : outgoing (pruneReslips x s) = outgoing s := rfl

/-- What the creep controller does before and after its state machines and the cell record. -/
theorem outgoing_creep {s : Station} {f : Station → Station} (h : ∃ c, f s = { s with creep := c }) :
    outgoing (f s) = outgoing s := by
  obtain ⟨c, e⟩ := h; rw [e]; rfl

namespace Emission

variable {P : Station → Prop}

theorem via (e : Emission P) {s t : Station} (eq : outgoing t = outgoing s) (h : P s) : P t := e.reads h eq

/-! ### The speed sample -/

theorem failSensor (e : Emission P) (x : Axle) {s : Station} (h : P s) : P (failSensor x s) :=
  e.report _ _ _ _ (e.reads h rfl)

theorem sensorSilence (e : Emission P) (x : Axle) {s : Station} (h : P s) : P (sensorSilence x s) := by
  unfold Machine.sensorSilence
  split
  · exact e.failSensor x h
  · exact h

theorem measure (e : Emission P) {s : Station} (h : P s) : P (measure s) := by
  obtain ⟨r, ref⟩ := negateReference_frame s
  have speeds : P (axleSample .b (axleSample .a (negateReference s))) := by rw [ref]; exact e.reads h rfl
  exact e.sensorSilence .b (e.sensorSilence .a speeds)

theorem budgetSpent (e : Emission P) {s : Station} (h : P s) : P (budgetSpent s) := by
  unfold Machine.budgetSpent
  split
  · exact e.report _ _ _ _ (e.reads h rfl)
  · exact h

theorem moveReference (e : Emission P) {s : Station} (h : P s) : P (moveReference s) := by
  have without : P (moveWithout s) := by
    unfold moveWithout
    split
    · exact h
    · exact h
    · exact e.reads h rfl
    · simp only
      split
      · exact e.reads h rfl
      · exact e.budgetSpent (e.reads h rfl)
  unfold Machine.moveReference
  simp only
  split
  · exact without
  · split <;> exact e.reads h rfl

theorem enterRollback (e : Emission P) (d : FaultDetail) {s : Station} (h : P s) : P (enterRollback d s) := by
  obtain ⟨_, _, _, _, _, ended⟩ := rollbackEnd_frame
    { Machine.report .rollback none (some (if s.life = .parked then .parked else d)) s with
      hold := { s.hold with
        state := .rollback, shown := .rollback, armed := false, levelPending := false, rollbackTime := none,
        hillSince := none, stillTime := none, friction := s.hold.holdForce } }
  have entered : outgoing (Machine.enterRollback d s) =
      outgoing (Machine.report .rollback none (some (if s.life = .parked then .parked else d)) s) :=
    (congrArg outgoing ended :)
  exact e.via entered (e.report _ _ _ _ h)

theorem wheelWake (e : Emission P) {s : Station} (h : P s) : P (wheelWake s) := by
  unfold Machine.wheelWake
  split
  · exact e.enterRollback _ h
  · exact h

theorem rollbackExpiry (e : Emission P) {s : Station} (h : P s) : P (rollbackExpiry s) := by
  unfold Machine.rollbackExpiry
  split
  · exact e.enterRollback _ h
  · exact h

theorem rollbackTest (e : Emission P) {s : Station} (h : P s) : P (rollbackTest s) := by
  have timed (n : Option Nat) : P (Machine.rollbackExpiry { s with hold := { s.hold with rollbackTime := n } }) :=
    e.rollbackExpiry (e.reads h rfl)
  unfold Machine.rollbackTest peerRollback
  simp only
  split
  · split
    · exact e.enterRollback _ (timed _)
    · exact timed _
  · exact timed _

theorem holdSample (e : Emission P) {s : Station} (h : P s) : P (holdSample s) := by
  have tested : P (Machine.rollbackTest (Machine.wheelWake (stillTest s))) :=
    e.rollbackTest (e.wheelWake (e.via (outgoing_stillTest s) h))
  exact e.reads (e.via (outgoing_parkTest _) (e.via (outgoing_hillSample _) (e.via (outgoing_levelStart _ _) (e.via (outgoing_releaseForward _) tested)))) rfl

theorem enterSlipping (e : Emission P) (x : Axle) {s : Station} (h : P s) : P (enterSlipping x s) := by
  have peak : P (peakObservation (peakOf (pick s.creep x)) x (setCreep s x (slippingRecord (pick s.creep x)))) := by
    unfold peakObservation
    split
    · exact e.observe _ _ _ _ (e.reads h rfl)
    · exact e.reads h rfl
  obtain ⟨_, _, join⟩ := joinReslips_frame (peakOf (pick s.creep x)) x (slipRequest
    (peakObservation (peakOf (pick s.creep x)) x (setCreep s x (slippingRecord (pick s.creep x)))))
  unfold Machine.enterSlipping
  simp only
  rw [join]
  exact e.reads peak rfl

theorem slipPersistent (e : Emission P) (x : Axle) {s : Station} (h : P s) : P (slipPersistent x s) := by
  unfold Machine.slipPersistent
  simp only
  split
  · exact e.report _ _ _ _ (e.reads h rfl)
  · exact h

theorem slippingRule (e : Emission P) (x : Axle) {s : Station} (h : P s) : P (slippingRule x s) := by
  unfold Machine.slippingRule
  simp only
  split
  · exact e.reads h rfl
  · exact e.slipPersistent x h

theorem wheelLockExpiry (e : Emission P) (x : Axle) {s : Station} (h : P s) : P (wheelLockExpiry x s) := by
  unfold Machine.wheelLockExpiry
  simp only
  split
  · exact e.report _ _ _ _ (e.reads h rfl)
  · exact h

theorem lockedRule (e : Emission P) (x : Axle) {s : Station} (h : P s) : P (lockedRule x s) := by
  unfold Machine.lockedRule releaseSample releaseExpiry
  simp only
  split
  · exact e.reads h rfl
  · split
    · split
      · exact e.failSensor x (e.reads (e.wheelLockExpiry x h) rfl)
      · exact e.reads (e.wheelLockExpiry x h) rfl
    · exact e.wheelLockExpiry x h

theorem ownRule (e : Emission P) (x : Axle) {s : Station} (h : P s) : P (ownRule x s) := by
  unfold Machine.ownRule
  split
  · exact e.via (outgoing_creep (adheringRule_frame x s)) h
  · exact e.via (outgoing_creep (regulatingRule_frame x s)) h
  · exact e.slippingRule x h
  · unfold recoveringRule
    split
    · exact e.enterSlipping x h
    · exact e.via (outgoing_creep (recoveryHoldExpiry_frame x s)) h
  · exact e.via (outgoing_creep (reapplyingRule_frame x s)) h
  · exact e.lockedRule x h

theorem runTests (e : Emission P) (x : Axle) {s : Station} (h : P s) : P (runTests x s) := by
  unfold Machine.runTests
  simp only
  split
  · exact e.lockedRule x (e.via (outgoing_creep (lockExpiry_frame x s)) h)
  · split
    · exact e.slippingRule x (e.enterSlipping x h)
    · exact e.ownRule x h

theorem machineSample (e : Emission P) (x : Axle) {s : Station} (h : P s) : P (machineSample x s) := by
  have tests : P (Machine.runTests x (advanceLock x s)) := e.runTests x (e.reads h rfl)
  unfold Machine.machineSample
  simp only
  split
  · split
    · exact e.reads tests rfl
    · exact tests
  · exact h

theorem runMachines (e : Emission P) (turn : Bool) {s : Station} (h : P s) : P (runMachines turn s) := by
  have grown : P (growStateTime .b (growStateTime .a s)) :=
    e.via (outgoing_creep (growStateTime_frame .b _)) (e.via (outgoing_creep (growStateTime_frame .a s)) h)
  have moving : P (Machine.machineSample .b (Machine.machineSample .a (if turn then redirect .b (redirect .a
      (growStateTime .b (growStateTime .a s))) else growStateTime .b (growStateTime .a s)))) := by
    refine e.machineSample .b (e.machineSample .a ?_)
    split
    · exact e.via (outgoing_creep (redirect_frame .b _)) (e.via (outgoing_creep (redirect_frame .a _)) grown)
    · exact grown
  unfold Machine.runMachines
  split
  · exact e.via (outgoing_creep (restSample_frame .b _)) (e.via (outgoing_creep (restSample_frame .a s)) h)
  all_goals exact moving

theorem turnCell (e : Emission P) {s : Station} (h : P s) : P (turnCell s) := by
  unfold Machine.turnCell
  simp only
  split
  · exact e.reads h rfl
  · split
    · exact h
    · split
      · refine e.reads (s := closeCell _ s) ?_ rfl
        unfold closeCell
        simp only
        split
        · exact e.observe _ _ _ _ h
        · exact h
      · exact e.reads h rfl

theorem creepSample (e : Emission P) (seeded : Bool) {s : Station} (h : P s) : P (creepSample seeded s) := by
  have cell (b : Bool) (n : Nat) (t : Station) : outgoing (sampleCell b n t) = outgoing t := by
    obtain ⟨_, e⟩ := sampleCell_frame b n t; rw [e]; rfl
  have expired : P (reslipExpiry .b (reslipExpiry .a (recordApplied (dirOf s.hold.state s.blend.served)
      { s with creepDir := dirOf s.hold.state s.blend.served }))) :=
    e.via (outgoing_creep (reslipExpiry_frame .b _)) (e.via (outgoing_creep (reslipExpiry_frame .a _)) (e.reads h rfl))
  unfold Machine.creepSample
  simp only
  refine e.via (outgoing_creep (formOrder_frame .b _)) (e.via (outgoing_creep (formOrder_frame .a _)) (e.via (cell _ _ _) (e.turnCell (e.via (outgoing_creep (followPartners_frame _)) (e.runMachines _
      (e.via (outgoing_creep (queryAhead_frame _)) ?_))))))
  have pruned := e.via (outgoing_pruneReslips .b _) (e.via (outgoing_pruneReslips .a _) expired)
  split
  · exact e.via (outgoing_emptyHistories _) pruned
  · exact pruned

/-- R5: a speed sample reaches the outside by own observations and fault reports. -/
theorem speedSample (e : Emission P) {s : Station} (h : P s) : P (speedSample s) := by
  have measured : P (Machine.measure { s with lastSample := s.time }) := e.measure (e.reads h rfl)
  have judged : P (judge (Machine.measure { s with lastSample := s.time })) :=
    e.holdSample (e.via (outgoing_positionSample _) (e.via (outgoing_learnSample .b _) (e.via (outgoing_learnSample .a _) (e.moveReference measured))))
  refine e.via (outgoing_announced sampleSteps s) ?_
  unfold sampleSteps command
  exact e.via (outgoing_orders _) (e.creepSample _ judged)

/-! ### The sander decision and the sander rows -/

/-- An operation that replaces the sanders alone. -/
theorem sanders (e : Emission P) {f : Station → Station} {s : Station} (hf : ∃ d, f s = { s with sanders := d }) (h : P s) :
    P (f s) := by
  obtain ⟨d, eq⟩ := hf; rw [eq]; exact e.reads h rfl

theorem recordCell (e : Emission P) (x : Axle) {s : Station} (h : P s) : P (recordCell x s) :=
  e.observe _ _ _ _ (e.reads h rfl)

theorem recordNewCell (e : Emission P) (x : Axle) {s : Station} (h : P s) : P (recordNewCell x s) := by
  unfold Machine.recordNewCell
  simp only
  split
  · exact e.recordCell x h
  · exact h

theorem pipeFull (e : Emission P) (x : Axle) {s : Station} (h : P s) : P (pipeFull x s) := by
  unfold Machine.pipeFull
  simp only
  split
  · unfold enterFlowing
    exact e.sanders (beginPeriod_frame _ x _) (e.recordCell x (e.reads h rfl))
  · exact h

theorem noteEmpty (e : Emission P) (x : Axle) {s : Station} (h : P s) : P (noteEmpty x s) := by
  unfold Machine.noteEmpty
  simp only
  split
  · exact e.report _ _ _ _ (e.reads h rfl)
  · exact h

theorem advanceSander (e : Emission P) (x : Axle) {s : Station} (h : P s) : P (advanceSander x s) := by
  obtain ⟨_, time⟩ := openTimeEnd_frame x (setSander s x (advanceTimes s.time (sanderAt s x)))
  unfold Machine.advanceSander
  simp only
  rw [time]
  exact e.noteEmpty x (e.reads h rfl)

theorem runSander (e : Emission P) (x : Axle) {s : Station} (h : P s) : P (runSander x s) := by
  unfold Machine.runSander
  simp only
  split
  · split
    · exact e.reads h rfl
    · exact h
  · split
    · exact e.sanders (tailNow_frame x s) h
    · exact e.pipeFull x h
  · split
    · exact e.sanders (tailNow_frame x s) h
    · exact e.sanders (reopen_frame x _) (e.sanders (dosingPeriodStart_frame x s) h)
  · split
    · exact e.reads h rfl
    · exact e.sanders (tailEmpty_frame x s) h
  · split
    · exact e.reads h rfl
    · exact e.sanders (restExpiry_frame x s) h

/-- R86: a sander decision reaches the outside by own observations and fault reports. -/
theorem sanderDecision (e : Emission P) {s : Station} (h : P s) : P (sanderDecision s) := by
  have aim (t : Station) : outgoing (queryAim (dropPassedAim t)) = outgoing t := by
    obtain ⟨_, query⟩ := queryAim_frame (dropPassedAim t)
    obtain ⟨_, passed⟩ := dropPassedAim_frame t
    rw [query, passed]; rfl
  have advanced : P (Machine.advanceSander .b (Machine.advanceSander .a
      { s with sanding := { s.sanding with lastDecision := s.time } })) :=
    e.advanceSander .b (e.advanceSander .a (e.reads h rfl))
  have recorded := e.recordNewCell .b (e.recordNewCell .a advanced)
  have shown (t : Station) : outgoing (showSanders t) = outgoing t := rfl
  unfold Machine.sanderDecision
  exact e.via (shown _) (e.runSander .b (e.runSander .a (e.via (outgoing_admitSources _) (e.via (aim _) recorded))))

theorem sandEmpty (e : Emission P) (x : Axle) {s : Station} (h : P s) : P (sandEmpty x s) := by
  unfold Machine.sandEmpty
  simp only
  split
  · exact e.sanders (tailNow_frame x _) (e.noteEmpty x (e.reads h rfl))
  · exact h

theorem filled (e : Emission P) (r : Request) {s : Station} (h : P s) : P (filled r s) := by
  have taken (x : Axle) (n : Nat) : P (takeFilled x n s) := by
    unfold takeFilled
    simp only
    split
    · refine e.sanders (tailNow_frame x _) ?_
      split
      · exact e.report _ _ _ _ (e.reads h rfl)
      · exact e.reads h rfl
    · exact e.reads h rfl
  unfold Machine.filled
  split
  · rename_i x _
    obtain ⟨_, save⟩ := requestSave_frame (takeFilled x (bytesAt r.args 1 2) s)
    rw [save]
    exact e.reads (s := takeFilled x (bytesAt r.args 1 2) s) (taken x _) rfl
  · exact e.reads h rfl

/-! ### The other commands -/

theorem loweringExpiry (e : Emission P) {s : Station} (h : P s) : P (loweringExpiry s) := by
  unfold Machine.loweringExpiry
  split
  · split
    · exact e.report _ _ _ _ (e.reads h rfl)
    · exact h
  · exact h

theorem hillStartExpiry (e : Emission P) {s : Station} (h : P s) : P (hillStartExpiry s) := by
  unfold Machine.hillStartExpiry
  split
  · split
    · exact e.reads (s := Machine.report _ _ _ s) (e.report _ _ _ _ h) rfl
    · exact h
  · exact h

theorem shoeDelivery (e : Emission P) {s : Station} (h : P s) : P (shoeDelivery s) := by
  have delivered (l : ShoeLevel) {t : Station} (h : P t) : P (shoeDelivered l t) := by
    unfold shoeDelivered
    split
    · exact e.reads h rfl
    · exact e.reads h rfl
    · exact e.report _ _ _ _ (e.reads h rfl)
    all_goals exact h
  unfold Machine.shoeDelivery
  simp only
  split
  · split
    · exact delivered _ (e.reads h rfl)
    · exact e.reads h rfl
  · exact h

theorem loopDelivery (e : Emission P) {s : Station} (h : P s) : P (loopDelivery s) := by
  unfold Machine.loopDelivery
  split
  · refine e.via (outgoing_wake _) (e.via (outgoing_evaluate _ _) ?_)
    exact e.reads h rfl
  · exact h

theorem plantSilence (e : Emission P) (u : PlantUnit) {s : Station} (h : P s) : P (plantSilence u s) := by
  unfold Machine.plantSilence inverterSilence brakeSilence
  simp only
  split
  all_goals
    split
    · split
      · exact e.report _ _ _ _ (e.reads h rfl)
      · exact e.reads h rfl
    · exact h

theorem inverterReport (e : Emission P) (b : List Byte) {s : Station} (h : P s) : P (inverterReport b s) := by
  unfold Machine.inverterReport
  split
  · exact e.reads h rfl
  · exact h

theorem brakeReport (e : Emission P) (b : List Byte) {s : Station} (h : P s) : P (brakeReport b s) := by
  unfold Machine.brakeReport
  split
  · exact e.reads h rfl
  · exact h

theorem settleGoverning (e : Emission P) (c : CabEnd) {s : Station} (h : P s) : P (settleGoverning c s) := by
  unfold Machine.settleGoverning
  split
  · simp only
    split
    · exact e.reads h rfl
    · exact e.report _ _ _ _ (e.reads h rfl)
  all_goals exact e.reads h rfl

theorem demandArrival (e : Emission P) (f : Frame) {s : Station} (h : P s) : P (demandArrival f s) := by
  unfold Machine.demandArrival
  split
  · split
    · exact h
    · exact e.via (outgoing_demandWake _) (e.via (outgoing_positionDemand _ _ _) (e.via (outgoing_evaluate _ _) (e.settleGoverning _ (e.reads h rfl))))
  · exact h

theorem demandSilence (e : Emission P) {s : Station} (h : P s) : P (demandSilence s) := by
  have reckoned (t : Station) : outgoing (deadReckon t) = outgoing t := by
    obtain ⟨_, _, eq⟩ := deadReckon_frame t; rw [eq]; rfl
  unfold Machine.demandSilence announceSilence
  simp only
  split
  · refine e.via (reckoned _) (e.via (outgoing_evaluate _ _) ?_)
    split
    · exact e.report _ _ _ _ (e.reads h rfl)
    · exact e.reads h rfl
  · exact h

theorem duplicate (e : Emission P) {s : Station} (h : P s) : P (duplicate s) := by
  unfold Machine.duplicate
  split
  · exact h
  · exact e.reads (s := Machine.report _ _ _ _) (e.report _ _ _ _ (e.reads (s := s) h rfl)) rfl

/-! ### The commands -/

theorem blend (e : Emission P) {f : Station → Station} {s : Station} (hf : ∃ b, f s = { s with blend := b }) (h : P s) :
    P (f s) := by
  obtain ⟨b, eq⟩ := hf; rw [eq]; exact e.reads h rfl

theorem creep (e : Emission P) {f : Station → Station} {s : Station} (hf : ∃ c, f s = { s with creep := c }) (h : P s) :
    P (f s) := e.via (outgoing_creep hf) h

theorem failing (e : Emission P) {f : Station → Station} {x : Axle} {s : Station}
    (hf : f s = failAndFollow x s ∨ f s = s) (h : P s) : P (f s) := by
  obtain eq | eq := hf
  · rw [eq, failAndFollow]; exact e.creep (followPartners_frame _) (e.failSensor x h)
  · rw [eq]; exact h

theorem storeWriteEnd (e : Emission P) {s : Station} (h : P s) : P (storeWriteEnd s) := by
  unfold Machine.storeWriteEnd
  split
  · exact h
  · simp only
    split <;> exact e.reads h rfl

theorem writeCommissioning (e : Emission P) (r : Request) {s : Station} (h : P s) : P (writeCommissioning r s) := by
  unfold Machine.writeCommissioning
  simp only
  split <;> exact e.reads h rfl

theorem slotExpiry (e : Emission P) {s : Station} (h : P s) : P (statusSlotExpiry s) := by
  unfold statusSlotExpiry
  split
  · exact e.reads h rfl
  · exact h

theorem raw (e : Emission P) {s : Station} (h : P s) : (∀ l, P (loopRaw l s)) ∧ ∀ l, P (shoeRaw l s) := by
  unfold loopRaw shoeRaw
  constructor
  all_goals
    intro l
    split
    · exact h
    · exact e.reads h rfl

/-- A service command whose operation keeps the property. -/
theorem taken (e : Emission P) {code : Byte} {r : Request} {f : Station → Station} {z : Station} (hf : P z → P (f z))
    (h : P z) : P (taken code r f z) := taken_keeps (fun _ _ hs => e.reads hs rfl) h hf

end Emission

/-- The commands that write to the map, the RAIL REPORT, the peer table or the fault table themselves. -/
def writesOutgoing : Instr → Bool
  | .powerOnStart .. | .restart .. | .sweep | .statusArrival _ | .railReportArrival _ | .mapClearArrival _
  | .peerRecordSilent _ | .peerLost _ | .contentionLost | .frameSent | .lineFreeOffer | .outboxExpiry | .clearFault _
  | .clearAllFaults _ | .clearOverflow _ | .clearMap _ => true
  | _ => false

/-- Every other command reaches them by own observations and fault reports. -/
theorem Emission.after {P : Station → Prop} (e : Emission P) {c : Instr} (hc : writesOutgoing c = false) {z : Station}
    (h : P z) : P (stationAfter c z) := by
  cases c with
  | powerOnStart | restart | sweep | statusArrival | railReportArrival | mapClearArrival | peerRecordSilent | peerLost
  | contentionLost | frameSent | lineFreeOffer | outboxExpiry | clearFault | clearAllFaults | clearOverflow | clearMap =>
    cases hc
  | supplyLoss => exact e.reads h rfl
  | wheelSpeedEdge => exact whenRunning_keeps h fun h => e.reads h rfl
  | speedSample => exact whenRunning_keeps h e.speedSample
  | sanderDecision => exact whenRunning_keeps h e.sanderDecision
  | blendEvent =>
    obtain ⟨_, _, eq⟩ := blendEvent_frame z
    exact whenRunning_keeps h fun h => by rw [eq]; exact e.reads h rfl
  | statusBuild => exact whenRunning_keeps h fun h => e.reads h rfl
  | demandArrival => exact whenRunning_keeps h (e.demandArrival _)
  | demandSilence => exact whenRunning_keeps h e.demandSilence
  | statusSlotExpiry => exact whenRunning_keeps h e.slotExpiry
  | inverterReport => exact whenRunning_keeps h (e.inverterReport _)
  | brakeUnitReport => exact whenRunning_keeps h (e.brakeReport _)
  | plantSilenceExpiry => exact whenRunning_keeps h (e.plantSilence _)
  | emergencyLoopChange l => exact (e.raw h).1 l
  | emergencyLoopDelivery => exact whenRunning_keeps h e.loopDelivery
  | shoeDownSensorChange l => exact (e.raw h).2 l
  | shoeDownDelivery => exact whenRunning_keeps h e.shoeDelivery
  | loweringTimerExpiry => exact whenRunning_keeps h e.loweringExpiry
  | hillStartTimerExpiry => exact whenRunning_keeps h e.hillStartExpiry
  | storeWriteEnd => exact whenRunning_keeps h e.storeWriteEnd
  | readStatus | readFaults | readMap => exact whenRunning_keeps h (e.taken fun h => e.reads h rfl)
  | filled => exact whenRunning_keeps h (e.taken (e.filled _))
  | writeCommissioning => exact whenRunning_keeps h (e.taken (e.writeCommissioning _))
  | badRequest => exact whenRunning_keeps h (e.taken id)
  | extrapolationBudgetSpent => exact whenRunning_keeps h e.budgetSpent
  | sensorSilenceExpiry => exact whenRunning_keeps h (e.failing (ite_eq_or_eq _ _ _))
  | releaseTimerExpiry => exact whenRunning_keeps h (e.failing (ite_eq_or_eq _ _ _))
  | trimStep x =>
    obtain ⟨_, eq⟩ := trimExpiry_frame x z
    exact whenRunning_keeps h fun h => by rw [eq]; exact e.reads h rfl
  | calmTimerExpiry => exact whenRunning_keeps h (e.creep (calmExpiry_frame _ _))
  | slipPersistent => exact whenRunning_keeps h (e.slipPersistent _)
  | recoveryHoldExpiry => exact whenRunning_keeps h (e.creep (recoveryHoldExpiry_frame _ _))
  | lockTimerExpiry => exact whenRunning_keeps h (e.creep (lockExpiry_frame _ _))
  | wheelLock => exact whenRunning_keeps h (e.wheelLockExpiry _)
  | reslipCeilingExpiry => exact whenRunning_keeps h (e.creep (reslipExpiry_frame _ _))
  | deadReckoningLimit =>
    obtain ⟨_, _, _, _, eq⟩ := deadReckoningLimit_frame z
    exact whenRunning_keeps h fun h => by rw [eq]; exact e.reads h rfl
  | pipeFull => exact whenRunning_keeps h (e.pipeFull _)
  | tailEmpty => exact whenRunning_keeps h (e.sanders (tailEmpty_frame _ _))
  | dutyLimit => exact whenRunning_keeps h (e.sanders (dutyLimit_frame _ _))
  | restExpiry => exact whenRunning_keeps h (e.sanders (restExpiry_frame _ _))
  | dosingPeriodStart => exact whenRunning_keeps h (e.sanders (dosingPeriodStart_frame _ _))
  | openTimeEnd => exact whenRunning_keeps h (e.sanders (openTimeEnd_frame _ _))
  | slipHoldExpiry | hillStartSandingExpiry => exact whenRunning_keeps h fun h => e.reads h rfl
  | sandEmpty => exact whenRunning_keeps h (e.sandEmpty _)
  | escalationTimerExpiry => exact whenRunning_keeps h (e.blend (escalationExpiry_frame _))
  | trackBrakeReleaseExpiry => exact whenRunning_keeps h (e.blend (mtbReleaseExpiry_frame _))
  | standstill =>
    obtain ⟨_, _, _, _, _, _, _, _, eq⟩ := standstillExpiry_frame z
    exact whenRunning_keeps h fun h => by rw [eq]; exact e.reads h rfl
  | rollbackTimerExpiry => exact whenRunning_keeps h fun h => e.via (outgoing_announced _ _) (e.rollbackExpiry h)
  | parkTimerExpiry =>
    obtain ⟨_, _, _, _, eq⟩ := parkExpiry_frame z
    exact whenRunning_keeps h fun h => e.via (outgoing_announced _ _) (by rw [eq]; exact e.reads h rfl)
  | wheelMovementWake => exact whenRunning_keeps h fun h => e.via (outgoing_announced _ _) (e.wheelWake h)

end Sys2Proof.Machine
end

section
/-! SUPPORT. The fault record table (R180, R181): what an occurrence does to it, and what every command keeps of it. -/

namespace Sys2Proof.Machine

/-! ## The first record that fits -/

theorem replaceFirst_append {α : Type} {p : α → Bool} (f : α → α) {a : List α} {x : α} (b : List α)
    (ha : ∀ y ∈ a, p y = false) (hx : p x = true) : replaceFirst p f (a ++ x :: b) = a ++ f x :: b := by
  induction a with
  | nil => simp [replaceFirst, hx]
  | cons y a ih =>
    have hy : p y = false := ha y List.mem_cons_self
    simp [replaceFirst, hy, ih fun z hz => ha z (List.mem_cons_of_mem y hz)]

@[simp] theorem length_replaceFirst {α : Type} (p : α → Bool) (f : α → α) (l : List α) :
    (replaceFirst p f l).length = l.length := by
  induction l with
  | nil => rfl
  | cons y l ih => unfold replaceFirst; split <;> simp [ih]

/-- A member that does not fit stays. -/
theorem getElem?_replaceFirst {α : Type} {p : α → Bool} (f : α → α) {x : α} (hx : p x = false) (l : List α) (i : Nat)
    (h : l[i]? = some x) : (replaceFirst p f l)[i]? = some x := by
  induction l generalizing i with
  | nil => simp at h
  | cons y l ih =>
    cases i with
    | zero =>
      obtain rfl : y = x := by simpa using h
      simp [replaceFirst, hx]
    | succ i =>
      unfold replaceFirst
      split
      · exact h
      · exact ih i h

/-! ## An occurrence (R180) -/

theorem sameFault_iff (k : FaultKind) (x : Option Axle) (o : Option FaultRecord) :
    sameFault k x o = true ↔ ∃ r, o = some r ∧ r.kind = k ∧ r.axle = x := by
  cases o <;> simp [sameFault]

theorem any_sameFault_eq_false {k : FaultKind} {x : Option Axle} {l : List (Option FaultRecord)}
    (h : ∀ o, some o ∈ l → ¬(o.kind = k ∧ o.axle = x)) : l.any (sameFault k x) = false := by
  rw [List.any_eq_false]
  intro o ho hsame
  obtain ⟨r, rfl, hr⟩ := (sameFault_iff k x o).mp hsame
  exact h r ho hr

theorem any_isNone_iff (l : List (Option FaultRecord)) : l.any Option.isNone = true ↔ none ∈ l := by
  simp [List.any_eq_true]

/-- First case: a pending record of the kind and axle counts. -/
theorem recordFault_counts {t : FaultTable} {now : Millis} {cell : Option Nat} {k : FaultKind} {x : Option Axle}
    {d : Option FaultDetail} {a b : List (Option FaultRecord)} {r : FaultRecord} (h : t.records = a ++ some r :: b)
    (hk : r.kind = k) (hx : r.axle = x) (ha : ∀ o, some o ∈ a → ¬(o.kind = k ∧ o.axle = x)) :
    recordFault t now cell k x d = ⟨a ++ some ⟨k, x, cell, r.first, now, min 255 (r.count + 1), d⟩ :: b, t.overflow⟩ := by
  have fits : sameFault k x (some r) = true := (sameFault_iff k x _).mpr ⟨r, rfl, hk, hx⟩
  have found : t.records.any (sameFault k x) = true := by rw [h]; simp [fits]
  have others : ∀ o ∈ a, sameFault k x o = false := fun o ho => by
    simpa using (List.any_eq_false.mp (any_sameFault_eq_false ha)) o ho
  rw [recordFault, if_pos found, h, replaceFirst_append _ b others fits, ← hk, ← hx]
  rfl

/-- While the overflow flag is set no other occurrence is kept. -/
theorem recordFault_overflow {t : FaultTable} {k : FaultKind} {x : Option Axle}
    (h : ∀ o, some o ∈ t.records → ¬(o.kind = k ∧ o.axle = x)) (ho : t.overflow = true) (now : Millis) (cell : Option Nat)
    (d : Option FaultDetail) : recordFault t now cell k x d = t := by
  simp [recordFault, any_sameFault_eq_false h, ho]

/-- The lowest-numbered free record is taken. -/
theorem recordFault_free {t : FaultTable} {now : Millis} {cell : Option Nat} {k : FaultKind} {x : Option Axle}
    {d : Option FaultDetail} {a b : List (Option FaultRecord)}
    (h : ∀ o, some o ∈ t.records → ¬(o.kind = k ∧ o.axle = x)) (ho : t.overflow = false) (hr : t.records = a ++ none :: b)
    (ha : none ∉ a) : recordFault t now cell k x d = ⟨a ++ some ⟨k, x, cell, now, now, 1, d⟩ :: b, false⟩ := by
  have free : t.records.any Option.isNone = true := by rw [any_isNone_iff, hr]; simp
  have taken : ∀ o ∈ a, o.isNone = false := fun o hmem => by
    cases o with
    | none => exact absurd hmem ha
    | some _ => rfl
  rw [recordFault, any_sameFault_eq_false h, ho, free, hr, replaceFirst_append _ b taken rfl]
  simp

/-- A full table sets the overflow flag. -/
theorem recordFault_full {t : FaultTable} {k : FaultKind} {x : Option Axle}
    (h : ∀ o, some o ∈ t.records → ¬(o.kind = k ∧ o.axle = x)) (hfull : none ∉ t.records) (now : Millis)
    (cell : Option Nat) (d : Option FaultDetail) : recordFault t now cell k x d = ⟨t.records, true⟩ := by
  have full : t.records.any Option.isNone = false := by rw [Bool.eq_false_iff, ne_eq, any_isNone_iff]; exact hfull
  obtain ⟨records, overflow⟩ := t
  cases overflow <;> simp_all [recordFault, any_sameFault_eq_false h]

/-! ## The overflow law -/

/-- The number of records stays, and while the overflow flag is set it stays so and every free record stays free. -/
def TableKept (f g : FaultTable) : Prop :=
  g.records.length = f.records.length ∧
    (f.overflow = true → g.overflow = true ∧ ∀ i : Nat, f.records[i]? = some none → g.records[i]? = some none)

theorem TableKept.refl (f : FaultTable) : TableKept f f := ⟨rfl, fun ho => ⟨ho, fun _ h => h⟩⟩

theorem TableKept.trans {f g k : FaultTable} (h : TableKept f g) (h' : TableKept g k) : TableKept f k := by
  obtain ⟨len, flag⟩ := h
  obtain ⟨len', flag'⟩ := h'
  refine ⟨len'.trans len, fun ho => ?_⟩
  obtain ⟨set, free⟩ := flag ho
  obtain ⟨set', free'⟩ := flag' set
  exact ⟨set', fun i hi => free' i (free i hi)⟩

theorem tableKept_recordFault (t : FaultTable) (now : Millis) (cell : Option Nat) (k : FaultKind) (x : Option Axle)
    (d : Option FaultDetail) : TableKept t (recordFault t now cell k x d) := by
  unfold recordFault
  split
  · exact ⟨length_replaceFirst _ _ _, fun ho => ⟨ho, fun i h => getElem?_replaceFirst _ rfl _ i h⟩⟩
  · split
    · exact .refl t
    · rename_i ho
      split <;> exact ⟨by simp, fun h => absurd h ho⟩

theorem tableKept_freeRecord (n : Nat) (t : FaultTable) : TableKept t (freeRecord n t) := by
  refine ⟨by simp [freeRecord], fun ho => ⟨ho, fun i h => ?_⟩⟩
  rw [freeRecord, List.getElem?_set]
  split
  · rename_i hi
    obtain ⟨hlt, -⟩ := List.getElem?_eq_some_iff.mp h
    simp [hi, hlt]
  · exact h

theorem tableKept_freeAllRecords (t : FaultTable) : TableKept t (freeAllRecords t) :=
  ⟨by simp [freeAllRecords], fun ho => ⟨ho, fun i h => by
    obtain ⟨hi, -⟩ := List.getElem?_eq_some_iff.mp h
    simp [freeAllRecords, hi]⟩⟩

/-- What is reported keeps the table. -/
theorem emission_tableKept (f : FaultTable) : Emission fun s => TableKept f s.faults where
  observe k c mu s h := by
    obtain ⟨_, _, e⟩ := observe_frame k c mu s; rw [e]; exact h
  report k x d s h := h.trans (tableKept_recordFault _ _ _ _ _ _)
  reads {s t} h e := by
    have faults : t.faults = s.faults := congrArg (fun o => o.2.2.2.2.1) e
    rw [faults]; exact h

/-- R182: a start adds the STORE_ faults to the table that it is handed. -/
theorem tableKept_enterRun (comm run : EccFinding) (i : StartInput) : TableKept i.faults (enterRun comm run i).faults := by
  have store (k : FaultKind) (a b : Bool) (s : Station) (h : TableKept i.faults s.faults) :
      TableKept i.faults (reportStore k a b s).faults := by
    unfold reportStore
    split
    · exact (emission_tableKept _).report _ _ _ _ h
    · exact h
  exact store _ _ _ _ (store _ _ _ _ (.refl _))

/-- Every command but CLEAR OVERFLOW and a power-on start keeps the table. -/
theorem tableKept_after {c : Instr} {z : Station} (hstart : ∀ plug comm run, c ≠ .powerOnStart plug comm run)
    (hclear : ∀ req, c ≠ .clearOverflow req) : TableKept z.faults (stationAfter c z).faults := by
  have e := emission_tableKept z.faults
  have h : TableKept z.faults z.faults := .refl _
  have unread (s : Station) (q : Option Reply) (hs : TableKept z.faults s.faults) : TableKept z.faults s.faults := hs
  have run {f : Station → Station} (hf : TableKept z.faults (f z).faults) : TableKept z.faults (whenRunning f z).faults :=
    whenRunning_keeps (P := fun s => TableKept z.faults s.faults) h fun _ => hf
  by_cases hc : writesOutgoing c = false
  · exact e.after hc h
  cases c with
  | powerOnStart plug comm run => exact absurd rfl (hstart plug comm run)
  | clearOverflow req => exact absurd rfl (hclear req)
  | restart =>
    refine run (taken_keeps unread h fun h => ?_)
    unfold serviceRestart
    split
    · exact h
    · exact tableKept_enterRun _ _ _
  | sweep => exact run h
  | statusArrival f =>
    refine run ?_
    unfold statusArrival
    split
    · split
      · exact e.duplicate h
      · split
        · exact h
        · obtain ⟨_, _, eq⟩ := acceptStatus_frame _ _ f.sequence z; rw [eq]; exact h
    · exact h
  | railReportArrival f =>
    refine run ?_
    unfold railReportArrival
    split
    · split
      · exact h
      · obtain ⟨_, eq⟩ := railReport_frame _ z; rw [eq]; exact h
    · exact h
  | mapClearArrival f =>
    refine run ?_
    unfold mapClearArrival
    split
    · obtain ⟨_, _, _, eq⟩ := takeClear_frame _ _ z; rw [eq]; exact h
    · exact h
  | clearMap r =>
    refine run (taken_keeps unread h fun h => ?_)
    unfold clearMap
    split
    · obtain ⟨_, _, _, eq⟩ := serviceClear_frame _ z; rw [eq]; exact h
    · exact h
  | peerRecordSilent n =>
    obtain ⟨_, _, eq⟩ := peerSilent_frame n z
    exact run (by rw [eq]; exact h)
  | peerLost n =>
    refine run ?_
    unfold peerLost
    split
    · exact e.report _ _ _ _ h
    · exact h
  | contentionLost =>
    obtain ⟨_, _, eq⟩ := contentionLost_frame z
    exact run (by rw [eq]; exact h)
  | frameSent =>
    obtain ⟨_, _, eq⟩ := frameSent_frame z
    exact run (by rw [eq]; exact h)
  | lineFreeOffer =>
    obtain ⟨_, eq⟩ := lineFreeOffer_frame z
    exact run (by rw [eq]; exact h)
  | outboxExpiry =>
    obtain ⟨_, _, eq⟩ := expireOutbox_frame z
    exact run (by rw [eq]; exact h)
  | clearFault r =>
    refine run (taken_keeps unread h fun h => ?_)
    unfold clearFault
    split
    · exact tableKept_freeRecord _ _
    · exact h
  | clearAllFaults r =>
    exact run (taken_keeps unread h fun _ => tableKept_freeAllRecords _)
  | _ => exact absurd rfl hc

end Sys2Proof.Machine

open Sys2Proof Sys2Proof.Machine

/-- Settles O51: the four cases of R180, in their order. -/
theorem faultRecording : Obligations.FaultRecording := by
  rintro t u now cell k x d rfl
  refine ⟨fun a r b h hk hx ha => recordFault_counts h hk hx ha, fun h => ⟨fun ho => ?_, fun a b ho hr ha => ?_, fun hfull => ?_⟩⟩
  · exact recordFault_overflow h ho now cell d
  · exact recordFault_free h ho hr ha
  · exact recordFault_full h hfull now cell d

/-- Settles O52: a power-on start leaves a table of its own, CLEAR OVERFLOW keeps the records, and every other command keeps the
table in the sense of `TableKept`. -/
theorem overflowLaw : Obligations.OverflowLaw := by
  intro c q q' z t hlaw hexec
  rw [exec_eq] at hexec
  obtain rfl : stationAfter c z = t := congrArg State.station (Host.Outcome.next.inj hexec)
  have kept (hstart : ∀ plug comm run, c ≠ .powerOnStart plug comm run) (hclear : ∀ req, c ≠ .clearOverflow req) :
      TableKept z.faults (stationAfter c z).faults := tableKept_after hstart hclear
  refine ⟨?_, fun hstart hclear ho => (kept hstart hclear).2 ho⟩
  cases c with
  | powerOnStart => exact (tableKept_enterRun _ _ _).1
  | clearOverflow =>
    exact whenRunning_keeps hlaw fun h => taken_keeps (P := FaultLaw) (fun _ _ hs => hs) h id
  | _ => exact (kept nofun nofun).1.trans hlaw

end

section
/-! SUPPORT. The rail condition map (R63 to R71): the list in ascending order of cell, one merge into it, and the law that
every command keeps of it. -/

namespace Sys2Proof.Machine

/-! ## The list in order -/

theorem insertSorted_perm (e : MapEntry) (es : List MapEntry) : (insertSorted e es).Perm (e :: es) := by
  induction es with
  | nil => exact .refl _
  | cons x xs ih =>
    unfold insertSorted
    split
    · exact .refl _
    · exact (ih.cons x).trans (.swap e x xs)

theorem mem_insertSorted {x e : MapEntry} {es : List MapEntry} : x ∈ insertSorted e es ↔ x = e ∨ x ∈ es := by
  rw [(insertSorted_perm e es).mem_iff, List.mem_cons]

theorem length_insertSorted (e : MapEntry) (es : List MapEntry) : (insertSorted e es).length = es.length + 1 := by
  rw [(insertSorted_perm e es).length_eq, List.length_cons]

/-- An entry for a cell that has none leaves the list in strictly ascending order. -/
theorem pairwise_insertSorted {e : MapEntry} {es : List MapEntry} (h : es.Pairwise fun a b => a.cell < b.cell)
    (hne : ∀ x ∈ es, x.cell ≠ e.cell) : (insertSorted e es).Pairwise fun a b => a.cell < b.cell := by
  induction es with
  | nil => simp [insertSorted]
  | cons x xs ih =>
    obtain ⟨hx, hxs⟩ := List.pairwise_cons.mp h
    unfold insertSorted
    split
    · rename_i hlt
      refine List.pairwise_cons.mpr ⟨fun y hy => ?_, h⟩
      rcases List.mem_cons.mp hy with rfl | hy
      · exact hlt
      · exact hlt.trans (hx y hy)
    · rename_i hge
      refine List.pairwise_cons.mpr ⟨fun y hy => ?_, ih hxs fun y hy => hne y (List.mem_cons_of_mem x hy)⟩
      have := hne x List.mem_cons_self
      rcases mem_insertSorted.mp hy with rfl | hy
      · omega
      · exact hx y hy

theorem hasCell_iff (cell : Nat) (es : List MapEntry) : hasCell cell es = true ↔ ∃ e ∈ es, e.cell = cell := by
  simp [hasCell]

theorem hasCell_eq_false_iff (cell : Nat) (es : List MapEntry) : hasCell cell es = false ↔ ∀ e ∈ es, e.cell ≠ cell := by
  simp [hasCell]

/-! ## Insertion (R64) -/

theorem insertEntry_room {depth : Nat} {es : List MapEntry} (h : es.length < depth) (sense : Sense) (e : MapEntry) :
    insertEntry depth sense e es = insertSorted e es := if_pos h

theorem insertEntry_up {depth : Nat} {first : MapEntry} {rest : List MapEntry} (h : depth ≤ (first :: rest).length)
    (e : MapEntry) : insertEntry depth .up e (first :: rest) =
      if e.cell < first.cell then first :: rest else insertSorted e rest := by
  rw [insertEntry, if_neg (Nat.not_lt.mpr h)]
  simp [fartherBehind]

theorem insertEntry_down {depth : Nat} {rest : List MapEntry} {last : MapEntry} (h : depth ≤ (rest ++ [last]).length)
    (e : MapEntry) : insertEntry depth .down e (rest ++ [last]) =
      if last.cell < e.cell then rest ++ [last] else insertSorted e rest := by
  have full : ¬(rest ++ [last]).length < depth := by omega
  rw [insertEntry, if_neg full]
  simp [fartherBehind]

/-- R64: an insertion is refused, or the entry joins a part of the list that has room for it. -/
theorem insertEntry_cases (depth : Nat) (sense : Sense) (e : MapEntry) (es : List MapEntry) :
    insertEntry depth sense e es = es ∨
      ∃ l, l.Sublist es ∧ (l.length < depth ∨ l.length < es.length) ∧ insertEntry depth sense e es = insertSorted e l := by
  by_cases room : es.length < depth
  · exact .inr ⟨es, .refl es, .inl room, insertEntry_room room sense e⟩
  have full : depth ≤ es.length := by omega
  cases sense with
  | up =>
    cases es with
    | nil => exact .inl (if_neg room)
    | cons first rest =>
      rw [insertEntry_up full]
      split
      · exact .inl rfl
      · exact .inr ⟨rest, List.sublist_cons_self first rest, .inr (by simp), rfl⟩
  | down =>
    obtain rfl | ⟨rest, last, rfl⟩ := List.eq_nil_or_concat' es
    · exact .inl (if_neg room)
    · rw [insertEntry_down full]
      split
      · exact .inl rfl
      · exact .inr ⟨rest, List.sublist_append_left rest [last], .inr (by simp), rfl⟩

/-! ## One merge -/

/-- The entry of a cell after a merge into it. -/
def mergedEntry (o : Observation) (e : MapEntry) : MapEntry := bookkeep o (mergeParts o e)

theorem mergeCell_present {cell : Nat} {es : List MapEntry} (h : ∃ e ∈ es, e.cell = cell) (depth : Nat) (sense : Sense)
    (o : Observation) : mergeCell depth sense o cell es = es.map fun e => if e.cell = cell then mergedEntry o e else e := by
  rw [mergeCell, if_pos ((hasCell_iff cell es).mpr h)]; rfl

theorem mergeCell_absent {cell : Nat} {es : List MapEntry} (h : ∀ e ∈ es, e.cell ≠ cell) (depth : Nat) (sense : Sense)
    (o : Observation) : mergeCell depth sense o cell es = insertEntry depth sense (newEntry o cell) es := by
  rw [mergeCell, (hasCell_eq_false_iff cell es).mpr h]; rfl

@[simp] theorem mergeParts_cell (o : Observation) (e : MapEntry) : (mergeParts o e).cell = e.cell := by
  unfold mergeParts; simp only; split <;> rfl

@[simp] theorem mergeParts_count (o : Observation) (e : MapEntry) : (mergeParts o e).count = e.count := by
  unfold mergeParts; simp only; split <;> rfl

@[simp] theorem mergedEntry_cell (o : Observation) (e : MapEntry) : (mergedEntry o e).cell = e.cell := mergeParts_cell o e

/-- R67: a PEAK merge. -/
theorem mergedEntry_peak {o : Observation} (h : o.kind = .peak) (e : MapEntry) : mergedEntry o e =
    { e with peak := some (mergedPeak ⟨o.mu, o.time⟩ e.peak)
             atLeast := dropAbove (mergedPeak ⟨o.mu, o.time⟩ e.peak).mu e.atLeast
             count := min 15 (e.count + 1), observer := o.observer, direction := o.direction } := by
  simp [mergedEntry, bookkeep, mergeParts, h]

/-- R68: an AT_LEAST merge. -/
theorem mergedEntry_atLeast {o : Observation} (h : o.kind = .atLeast) (e : MapEntry) : mergedEntry o e =
    { e with atLeast := some (mergedAtLeast ⟨o.mu, o.time⟩ e.atLeast), peak := dropBelow o.mu e.peak
             count := min 15 (e.count + 1), observer := o.observer, direction := o.direction } := by
  simp [mergedEntry, bookkeep, mergeParts, h]

/-- R69: a SANDED merge. -/
theorem mergedEntry_sanded {o : Observation} (h : o.kind = .sanded) (e : MapEntry) : mergedEntry o e =
    { e with sanded := some o.time, count := min 15 (e.count + 1), observer := o.observer, direction := o.direction } := by
  simp [mergedEntry, bookkeep, mergeParts, h]

theorem dropAbove_eq_some {bound : Nat} {q : Option TimedMu} {a : TimedMu} :
    dropAbove bound q = some a ↔ q = some a ∧ a.mu ≤ bound := by
  cases q with
  | none => simp [dropAbove]
  | some b =>
    simp only [dropAbove, ite_eq_iff, reduceCtorEq, and_false, false_or, Option.some.injEq, not_lt]
    constructor
    · rintro ⟨h, rfl⟩; exact ⟨rfl, h⟩
    · rintro ⟨rfl, h⟩; exact ⟨h, rfl⟩

theorem dropBelow_eq_some {bound : Nat} {q : Option TimedMu} {p : TimedMu} :
    dropBelow bound q = some p ↔ q = some p ∧ bound ≤ p.mu := by
  cases q with
  | none => simp [dropBelow]
  | some b =>
    simp only [dropBelow, ite_eq_iff, reduceCtorEq, and_false, false_or, Option.some.injEq, not_lt]
    constructor
    · rintro ⟨h, rfl⟩; exact ⟨rfl, h⟩
    · rintro ⟨rfl, h⟩; exact ⟨h, rfl⟩

/-- R67: the older PEAK stands while it is younger than 10 s and lower. -/
theorem mergedPeak_kept {o p : TimedMu} (ht : age o.time p.time < 10000) (hm : p.mu < o.mu) : mergedPeak o (some p) = p :=
  (if_pos ht).trans (if_pos hm)

theorem mergedPeak_new {o : TimedMu} {q : Option TimedMu} (h : ∀ p, q = some p → 10000 ≤ age o.time p.time ∨ o.mu ≤ p.mu) :
    mergedPeak o q = o := by
  cases q with
  | none => rfl
  | some p =>
    unfold mergedPeak
    simp only
    split
    · exact if_neg (by have := h p rfl; omega)
    · rfl

theorem mergedAtLeast_kept {o a : TimedMu} (h : o.mu < a.mu) : mergedAtLeast o (some a) = a := if_pos h

theorem mergedAtLeast_new {o : TimedMu} {q : Option TimedMu} (h : ∀ a, q = some a → a.mu ≤ o.mu) : mergedAtLeast o q = o := by
  cases q with
  | none => rfl
  | some a => exact if_neg (by have := h a rfl; omega)

/-- R70: the entry that an observation creates. -/
theorem newEntry_eq (o : Observation) (cell : Nat) : newEntry o cell =
    ⟨cell, if o.kind = .peak then some ⟨o.mu, o.time⟩ else none, if o.kind = .atLeast then some ⟨o.mu, o.time⟩ else none,
      if o.kind = .sanded then some o.time else none, o.observer, o.direction, 1⟩ := by
  change mergedEntry o _ = _
  cases hk : o.kind with
  | peak => rw [mergedEntry_peak hk]; simp [mergedPeak, dropAbove]
  | atLeast => rw [mergedEntry_atLeast hk]; simp [mergedAtLeast, dropBelow]
  | sanded => rw [mergedEntry_sanded hk]; simp

@[simp] theorem newEntry_cell (o : Observation) (cell : Nat) : (newEntry o cell).cell = cell := by rw [newEntry_eq]

/-! ## The law of the entries -/

/-- The law of `MapLaw` for a list of entries under a depth. -/
def EntriesLaw (depth : Nat) (es : List MapEntry) : Prop :=
  es.Pairwise (fun a b => a.cell < b.cell) ∧ es.length ≤ depth ∧ ∀ e ∈ es, EntryLaw e

theorem mapLaw_iff (s : Station) : MapLaw s ↔ EntriesLaw s.figs.mapDepth s.map.entries := Iff.rfl

theorem EntriesLaw.sublist {depth : Nat} {es l : List MapEntry} (h : EntriesLaw depth es) (hl : l.Sublist es) :
    EntriesLaw depth l := by
  obtain ⟨order, room, law⟩ := h
  exact ⟨order.sublist hl, hl.length_le.trans room, fun e he => law e (hl.subset he)⟩

/-- A merge keeps the parts' law: an AT_LEAST above the new PEAK goes, and so does a PEAK below the new AT_LEAST. -/
theorem entryLaw_mergedEntry (o : Observation) {e : MapEntry}
    (h : ∀ p a, e.peak = some p → e.atLeast = some a → a.mu ≤ p.mu) : EntryLaw (mergedEntry o e) := by
  cases hk : o.kind with
  | peak =>
    rw [mergedEntry_peak hk]
    refine ⟨by simp [hasPart], by simp, by simp, fun p a hp ha => ?_⟩
    obtain rfl := Option.some.inj hp
    exact (dropAbove_eq_some.mp ha).2
  | atLeast =>
    rw [mergedEntry_atLeast hk]
    refine ⟨by simp [hasPart], by simp, by simp, fun p a hp ha => ?_⟩
    obtain ⟨hp, hmu⟩ := dropBelow_eq_some.mp hp
    obtain rfl := Option.some.inj ha
    cases hq : e.atLeast with
    | none => exact hmu
    | some b =>
      have hb := h p b hp hq
      unfold mergedAtLeast
      simp only
      split
      · exact hb
      · exact hmu
  | sanded =>
    rw [mergedEntry_sanded hk]
    exact ⟨by simp [hasPart], by simp, by simp, h⟩

theorem entryLaw_newEntry (o : Observation) (cell : Nat) : EntryLaw (newEntry o cell) := by
  refine entryLaw_mergedEntry o (e := ⟨cell, none, none, none, o.observer, o.direction, 0⟩) fun p a hp => ?_
  cases hp

theorem entriesLaw_insertEntry {depth : Nat} {es : List MapEntry} {e : MapEntry} (h : EntriesLaw depth es) (he : EntryLaw e)
    (hne : ∀ x ∈ es, x.cell ≠ e.cell) (sense : Sense) : EntriesLaw depth (insertEntry depth sense e es) := by
  obtain eq | ⟨l, sub, room, eq⟩ := insertEntry_cases depth sense e es
  · rw [eq]; exact h
  · obtain ⟨order, len, law⟩ := h.sublist sub
    have total : es.length ≤ depth := h.2.1
    rw [eq]
    refine ⟨pairwise_insertSorted order fun x hx => hne x (sub.subset hx), by rw [length_insertSorted]; omega, fun x hx => ?_⟩
    rcases mem_insertSorted.mp hx with rfl | hx
    · exact he
    · exact law x hx

theorem entriesLaw_mergeCell {depth : Nat} {es : List MapEntry} (h : EntriesLaw depth es) (sense : Sense) (o : Observation)
    (cell : Nat) : EntriesLaw depth (mergeCell depth sense o cell es) := by
  by_cases present : ∃ e ∈ es, e.cell = cell
  · obtain ⟨order, len, law⟩ := h
    rw [mergeCell_present present]
    have cells (e : MapEntry) : (if e.cell = cell then mergedEntry o e else e).cell = e.cell := by
      split <;> simp
    refine ⟨List.pairwise_map.mpr (by simpa only [cells] using order), by simpa using len, fun x hx => ?_⟩
    obtain ⟨e, he, rfl⟩ := List.mem_map.mp hx
    obtain ⟨part, low, high, parts⟩ := law e he
    split
    · exact entryLaw_mergedEntry o parts
    · exact ⟨part, low, high, parts⟩
  · have absent : ∀ e ∈ es, e.cell ≠ cell := fun e he hc => present ⟨e, he, hc⟩
    rw [mergeCell_absent absent]
    exact entriesLaw_insertEntry h (entryLaw_newEntry o cell) (by simpa using absent) sense

theorem entriesLaw_mergeObs {depth : Nat} {es : List MapEntry} (h : EntriesLaw depth es) (sense : Sense) (o : Observation) :
    EntriesLaw depth (mergeObs depth sense o es) := by
  unfold mergeObs
  induction obsCells sense o generalizing es with
  | nil => exact h
  | cons c cs ih => exact ih (entriesLaw_mergeCell h sense o c)

theorem entryLaw_sweepEntry {now : Millis} {e : MapEntry} (h : EntryLaw e) (hp : hasPart (sweepEntry now e) = true) :
    EntryLaw (sweepEntry now e) := by
  obtain ⟨-, low, high, parts⟩ := h
  exact ⟨hp, low, high, fun p a hpeak hleast =>
    parts p a ((sweepEntry_peak now e p).mp hpeak).1 ((sweepEntry_atLeast now e a).mp hleast).1⟩

theorem entriesLaw_sweepEntries {depth : Nat} {es : List MapEntry} (h : EntriesLaw depth es) (now : Millis) :
    EntriesLaw depth (sweepEntries now es) := by
  obtain ⟨order, len, law⟩ := h
  refine ⟨?_, ?_, fun e he => ?_⟩
  · have cells : ((es.map (·.cell)).Pairwise (· < ·)) := List.pairwise_map.mpr order
    exact List.pairwise_map.mp (cells.sublist (sweepEntries_cells_sublist now es))
  · have := (sweepEntries_cells_sublist now es).length_le
    simp only [List.length_map] at this
    omega
  · obtain ⟨part, o, ho, rfl⟩ := (mem_sweepEntries now e es).mp he
    exact entryLaw_sweepEntry (law o ho) part

/-! ## The law through the commands -/

theorem emission_mapLaw : Emission MapLaw where
  observe k c mu s h := by
    cases c with
    | none => exact h
    | some c =>
      obtain ⟨_, _, e⟩ := observe_frame k (some c) mu s
      have figs : (observe k (some c) mu s).figs = s.figs := by rw [e]
      rw [mapLaw_iff, figs, observe_entries]
      exact entriesLaw_mergeObs h _ _
  report _ _ _ _ h := h
  reads {s t} h e := by
    have map : t.map = s.map := congrArg (·.1) e
    have figs : t.figs = s.figs := congrArg (·.2.2.2.2.2) e
    rw [mapLaw_iff, map, figs]; exact h

theorem mapLaw_enterRun (comm run : EccFinding) (i : StartInput) : MapLaw (enterRun comm run i) := by
  have store (k : FaultKind) (a b : Bool) (s : Station) (h : MapLaw s) : MapLaw (reportStore k a b s) := by
    unfold reportStore; split <;> exact h
  exact store _ _ _ _ (store _ _ _ _ ⟨.nil, Nat.zero_le _, fun e he => by cases he⟩)

theorem mapLaw_railReport {s : Station} (h : MapLaw s) (l : List Observation) : MapLaw (l.foldl mergePeerObs s) := by
  induction l generalizing s with
  | nil => exact h
  | cons o l ih =>
    refine ih ?_
    unfold mergePeerObs
    split
    · exact h
    · exact entriesLaw_mergeObs h _ _

theorem mapLaw_takeClear {s : Station} (h : MapLaw s) (id : BitVec 8) (g : Granularity) : MapLaw (takeClear id g s) := by
  obtain ⟨_, _, _, e⟩ := takeClear_frame id g s
  have figs : (takeClear id g s).figs = s.figs := by rw [e]
  rw [mapLaw_iff, figs, takeClear_entries]
  exact EntriesLaw.sublist h List.filter_sublist

theorem mapLaw_after {c : Instr} {z : Station} (h : MapLaw z) : MapLaw (stationAfter c z) := by
  have unread (s : Station) (q : Option Reply) (hs : MapLaw s) : MapLaw { s with reply := q } := hs
  by_cases hc : writesOutgoing c = false
  · exact emission_mapLaw.after hc h
  cases c with
  | powerOnStart => exact mapLaw_enterRun _ _ _
  | restart =>
    refine whenRunning_keeps h fun h => taken_keeps unread h fun h => ?_
    unfold serviceRestart
    split
    · exact h
    · exact mapLaw_enterRun _ _ _
  | sweep => exact whenRunning_keeps h fun h => entriesLaw_sweepEntries h _
  | statusArrival f =>
    refine whenRunning_keeps h fun h => ?_
    unfold statusArrival
    split
    · split
      · exact emission_mapLaw.duplicate h
      · split
        · exact h
        · obtain ⟨_, _, eq⟩ := acceptStatus_frame _ _ f.sequence z; rw [eq]; exact h
    · exact h
  | railReportArrival f =>
    refine whenRunning_keeps h fun h => ?_
    unfold railReportArrival
    split
    · split
      · exact h
      · exact mapLaw_railReport h _
    · exact h
  | mapClearArrival f =>
    refine whenRunning_keeps h fun h => ?_
    unfold mapClearArrival
    split
    · exact mapLaw_takeClear h _ _
    · exact h
  | clearMap r =>
    refine whenRunning_keeps h fun h => taken_keeps unread h fun h => ?_
    unfold clearMap
    split
    · exact mapLaw_takeClear h _ _
    · exact h
  | peerRecordSilent n =>
    obtain ⟨_, _, eq⟩ := peerSilent_frame n z
    exact whenRunning_keeps h fun h => by rw [eq]; exact h
  | peerLost n =>
    obtain ⟨_, _, eq⟩ := peerLost_frame n z
    exact whenRunning_keeps h fun h => by rw [eq]; exact h
  | contentionLost =>
    obtain ⟨_, _, eq⟩ := contentionLost_frame z
    exact whenRunning_keeps h fun h => by rw [eq]; exact h
  | frameSent =>
    obtain ⟨_, _, eq⟩ := frameSent_frame z
    exact whenRunning_keeps h fun h => by rw [eq]; exact h
  | lineFreeOffer =>
    obtain ⟨_, eq⟩ := lineFreeOffer_frame z
    exact whenRunning_keeps h fun h => by rw [eq]; exact h
  | outboxExpiry =>
    obtain ⟨_, _, eq⟩ := expireOutbox_frame z
    exact whenRunning_keeps h fun h => by rw [eq]; exact h
  | clearFault r =>
    refine whenRunning_keeps h fun h => taken_keeps unread h fun h => ?_
    unfold clearFault
    split <;> exact h
  | clearAllFaults r | clearOverflow r => exact whenRunning_keeps h fun h => taken_keeps unread h fun h => h
  | _ => exact absurd rfl hc

end Sys2Proof.Machine

open Sys2Proof Sys2Proof.Machine

/-- Settles O55: own observations and peers' merge by `entriesLaw_mergeObs`, the sweep and the clears take entries or parts
away, and a start leaves an empty map. -/
theorem mapLawKept : Obligations.MapLawKept := fun _ _ h hs =>
  step_keeps (P := MapLaw) (fun s hs => emission_mapLaw.via (outgoing_passMicro s) hs) (fun _ _ h => mapLaw_after h) h hs

/-- Settles O23: the entry of the cell becomes its merged entry, and no other entry changes. -/
theorem mergeIntoEntry : Obligations.MergeIntoEntry := by
  intro depth sense o es e order he
  have cells : (es.map (·.cell)).Nodup := (List.pairwise_map.mpr order).imp fun h => h.ne
  have unique : ∀ x ∈ es, x.cell = e.cell → x = e := fun x hx hc => List.inj_on_of_nodup_map cells hx he hc
  have merged : ∀ x, x ∈ mergeCell depth sense o e.cell es ↔
      ∃ y ∈ es, (if y.cell = e.cell then mergedEntry o y else y) = x := by
    rw [mergeCell_present ⟨e, he, rfl⟩]; simp only [List.mem_map, implies_true]
  refine ⟨mergedEntry o e, (merged _).mpr ⟨e, he, if_pos rfl⟩, mergedEntry_cell o e, fun x hx => ?_,
    fun x hx hne => (merged x).mpr ⟨x, hx, if_neg hne⟩, by simp [mergedEntry, bookkeep], rfl, rfl, fun hk => ?_,
    fun hk => ?_, fun hk => ?_⟩
  · obtain ⟨y, hy, rfl⟩ := (merged x).mp hx
    split
    · rename_i hc
      exact .inl (by rw [unique y hy hc])
    · rename_i hc
      exact .inr ⟨hy, hc⟩
  · rw [mergedEntry_peak hk]
    refine ⟨fun p hp ht hm => ?_, fun h => ?_, fun p a hp ha => ?_, fun ha => ?_, rfl⟩
    · simp only [hp]
      rw [mergedPeak_kept (o := ⟨o.mu, o.time⟩) ht hm]
    · exact congrArg some (mergedPeak_new (o := ⟨o.mu, o.time⟩) h)
    · simp only [Option.some.injEq] at hp
      simp only [ha, hp]
      rfl
    · simp only [ha]
      rfl
  · rw [mergedEntry_atLeast hk]
    refine ⟨fun a ha hm => ?_, fun h => ?_, fun p hp => ?_, fun hp => ?_, rfl⟩
    · simp only [ha]
      rw [mergedAtLeast_kept (o := ⟨o.mu, o.time⟩) hm]
    · exact congrArg some (mergedAtLeast_new (o := ⟨o.mu, o.time⟩) h)
    · simp only [hp]
      rfl
    · simp only [hp]
      rfl
  · rw [mergedEntry_sanded hk]
    exact ⟨rfl, rfl, rfl⟩

/-- Settles O24. -/
theorem mergeNewEntry : Obligations.MergeNewEntry := by
  rintro depth cell o es order hne n hn
  obtain rfl : n = newEntry o cell := hn.trans (newEntry_eq o cell).symm
  have absent (sense : Sense) : mergeCell depth sense o cell es = insertEntry depth sense (newEntry o cell) es :=
    mergeCell_absent hne depth sense o
  refine ⟨fun sense room x => ?_, ?_, ?_, fun sense => ?_⟩
  · rw [absent, insertEntry_room room, mem_insertSorted]
  · rintro first rest rfl full
    rw [absent, insertEntry_up full, newEntry_cell]
    refine ⟨fun hlt => if_pos hlt, fun hlt x => ?_⟩
    rw [if_neg (by omega), mem_insertSorted]
  · rintro rest last rfl full
    rw [absent, insertEntry_down full, newEntry_cell]
    refine ⟨fun hlt => if_pos hlt, fun hlt x => ?_⟩
    rw [if_neg (by omega), mem_insertSorted]
  · rw [absent]
    obtain eq | ⟨l, sub, -, eq⟩ := insertEntry_cases depth sense (newEntry o cell) es
    · rw [eq]; exact order
    · rw [eq]
      exact pairwise_insertSorted (order.sublist sub) fun x hx => by simpa using hne x (sub.subset hx)

end

section
/-! SUPPORT. The observation outbox and the RAIL REPORT slot (R78, R80 to R83, R167): what an offer, a build, a drop and the
trainline leave of them, and the law that they keep. -/

namespace Sys2Proof.Machine

/-! ## A command on a running station -/

/-- A command that acts on a running station, by what its operation leaves. -/
theorem actRunning_eq {f : Station → Station} {z t : Station} (hz : running z = true) (h : f z = t) (q : List Instr) :
    actRunning f ⟨q, z⟩ = .next ⟨q, t⟩ := by rw [actRunning_running f ⟨q, z⟩ hz, h]

/-- A service command whose request passes the checks of R185. -/
theorem actRunning_taken {code : Byte} {r : Request} {f : Station → Station} {z t : Station} (hz : running z = true)
    (hs : sumOk code r = true) (hl : argLength code.toNat = some r.args.length) (h : f z = t) (q : List Instr) :
    actRunning (taken code r f) ⟨q, z⟩ = .next ⟨q, t⟩ := actRunning_eq hz ((taken_good code r f z hs hl).trans h) q

/-! ## IN FRAME and WAITING -/

@[simp] theorem inFrameObs_nil : inFrameObs [] = [] := rfl

@[simp] theorem inFrameObs_append (a b : List OutboxItem) : inFrameObs (a ++ b) = inFrameObs a ++ inFrameObs b := by
  simp [inFrameObs]

theorem inFrameObs_cons (i : OutboxItem) (l : List OutboxItem) :
    inFrameObs (i :: l) = if i.inFrame then i.obs :: inFrameObs l else inFrameObs l := by
  unfold inFrameObs
  by_cases h : i.inFrame = true
  · simp [h]
  · simp [h]

/-- Removing a WAITING observation leaves those IN FRAME. -/
theorem inFrameObs_eraseP {p : OutboxItem → Bool} (hp : ∀ i, p i = true → i.inFrame = false) (box : List OutboxItem) :
    inFrameObs (box.eraseP p) = inFrameObs box := by
  induction box with
  | nil => rfl
  | cons i l ih =>
    by_cases h : p i = true
    · rw [List.eraseP_cons_of_pos h, inFrameObs_cons, hp i h]; rfl
    · rw [List.eraseP_cons_of_neg h, inFrameObs_cons, inFrameObs_cons, ih]

/-- Dropping observations none of which is IN FRAME leaves those IN FRAME. -/
theorem inFrameObs_filter {keep : Observation → Bool} {box : List OutboxItem}
    (h : ∀ i ∈ box, i.inFrame = true → keep i.obs = true) : inFrameObs (box.filter fun i => keep i.obs) = inFrameObs box := by
  induction box with
  | nil => rfl
  | cons i l ih =>
    have rest := ih fun j hj => h j (List.mem_cons_of_mem i hj)
    by_cases hf : i.inFrame = true
    · simp [h i List.mem_cons_self hf, inFrameObs_cons, rest]
    · by_cases hk : keep i.obs = true <;> simp [hk, hf, inFrameObs_cons, rest]

theorem inFrameObs_eq_nil {box : List OutboxItem} (h : ∀ i ∈ box, i.inFrame = false) : inFrameObs box = [] := by
  rw [inFrameObs, List.map_eq_nil_iff, List.filter_eq_nil_iff]
  intro i hi
  simp [h i hi]

theorem waiting_eq_map {box : List OutboxItem} (h : ∀ i ∈ box, i.inFrame = false) : waiting box = box.map (·.obs) := by
  rw [waiting, List.filter_eq_self.mpr]
  intro i hi
  simp [h i hi]

/-- With fewer IN FRAME than there are observations, one is WAITING. -/
theorem exists_waiting {box : List OutboxItem} (h : (inFrameObs box).length < box.length) : ∃ i ∈ box, i.inFrame = false := by
  by_contra none
  have all : box.filter (·.inFrame) = box := List.filter_eq_self.mpr fun i hi => by
    by_contra hw
    exact none ⟨i, hi, by simpa using hw⟩
  simp [inFrameObs, all] at h

/-! ## Marking the oldest IN FRAME -/

@[simp] theorem markOldest_obs (n : Nat) (box : List OutboxItem) : (markOldest n box).map (·.obs) = box.map (·.obs) := by
  induction n, box using markOldest.induct with
  | case1 => simp [markOldest]
  | case2 => simp [markOldest]
  | case3 n i l h ih => simp [markOldest, h, ih]
  | case4 n i l h ih => simp [markOldest, h, ih]

theorem inFrameObs_markOldest (n : Nat) {box : List OutboxItem} (h : ∀ i ∈ box, i.inFrame = false) :
    inFrameObs (markOldest n box) = (box.map (·.obs)).take n := by
  induction n, box using markOldest.induct with
  | case1 => simp [markOldest]
  | case2 l _ => simp [markOldest, inFrameObs_eq_nil h]
  | case3 n i l hi => simp [h i List.mem_cons_self] at hi
  | case4 n i l hi ih =>
    simp [markOldest, hi, inFrameObs_cons, ih fun j hj => h j (List.mem_cons_of_mem i hj)]

/-! ## Building a RAIL REPORT (R167) -/

theorem buildRail_self (s : Station) : buildRail s = { s with
    map := { s.map with outbox := (buildRail s).map.outbox }
    port := { s.port with railSlot := (buildRail s).port.railSlot, seqRail := (buildRail s).port.seqRail } } := by
  unfold buildRail; split <;> rfl

/-- While a RAIL REPORT waits or is on the line, none is built. -/
theorem buildRail_busy {s : Station} (h : s.port.railSlot ≠ none ∨ railOnLine s = true) : buildRail s = s := by
  unfold buildRail
  rw [if_neg]
  obtain h | h := h
  · simp [Option.isNone_iff_eq_none, h]
  · simp [h]

/-- The station `t` after a build from `z`, all of whose observations wait: with none there is no frame, else the oldest six
are in a frame. -/
def RailBuilt (z t : Station) : Prop :=
  t.map.outbox.map (·.obs) = z.map.outbox.map (·.obs) ∧ t.port.onLine = z.port.onLine ∧
  (z.map.outbox = [] → t.map.outbox = [] ∧ t.port.railSlot = none ∧ t.port.seqRail = z.port.seqRail) ∧
  (z.map.outbox ≠ [] → t.port.railSlot = some ⟨(z.map.outbox.map (·.obs)).take 6, z.port.seqRail + 1⟩ ∧
    t.port.seqRail = z.port.seqRail + 1 ∧ inFrameObs t.map.outbox = (z.map.outbox.map (·.obs)).take 6)

theorem railBuilt_buildRail {s : Station} (hslot : s.port.railSlot = none) (hline : railOnLine s = false)
    (hw : ∀ i ∈ s.map.outbox, i.inFrame = false) : RailBuilt s (buildRail s) := by
  unfold buildRail
  rw [waiting_eq_map hw]
  by_cases hbox : s.map.outbox = []
  · simp [RailBuilt, hbox, hslot]
  · simp [RailBuilt, hbox, hslot, hline, inFrameObs_markOldest 6 hw]

theorem withdrawRail_self (s : Station) : withdrawRail s = { s with
    map := { s.map with outbox := (withdrawRail s).map.outbox }
    port := { s.port with railSlot := (withdrawRail s).port.railSlot, seqRail := (withdrawRail s).port.seqRail } } :=
  buildRail_self _

theorem railBuilt_withdrawRail {s : Station} (hline : railOnLine s = false) : RailBuilt s (withdrawRail s) := by
  have built := railBuilt_buildRail (s := { s with
    port := { s.port with railSlot := none }
    map := { s.map with outbox := s.map.outbox.map fun i => { i with inFrame := false } } }) rfl hline
      (by simp)
  have obs : (s.map.outbox.map fun i => { i with inFrame := false }).map (·.obs) = s.map.outbox.map (·.obs) := by
    rw [List.map_map]; rfl
  obtain ⟨kept, line, empty, full⟩ := built
  simp only [obs, List.map_eq_nil_iff, ne_eq] at kept empty full
  exact ⟨kept, line, empty, full⟩

/-! ## The outbox law -/

/-- The law reads the outbox, the slot and the frame on the line. -/
theorem outboxLaw_congr {s t : Station} (hbox : t.map.outbox = s.map.outbox) (hslot : t.port.railSlot = s.port.railSlot)
    (hline : t.port.onLine = s.port.onLine) : OutboxLaw t ↔ OutboxLaw s := by
  unfold OutboxLaw; rw [hbox, hslot, hline]

/-- A RAIL REPORT is on the line. -/
theorem railOnLine_eq_false {s : Station} : railOnLine s = false ↔ ∀ f b, s.port.onLine ≠ some (.rail f b) := by
  unfold railOnLine
  split <;> simp_all

/-- The law with neither a slot in use nor a frame of the station's on the line. -/
theorem outboxLaw_idle {s : Station} (hslot : s.port.railSlot = none) (hline : railOnLine s = false) :
    OutboxLaw s ↔ s.map.outbox = [] := by
  rw [railOnLine_eq_false] at hline
  unfold OutboxLaw
  rw [hslot]
  split
  · rename_i h _; cases h
  · rename_i h _; cases h
  · rename_i f b _ hl; exact absurd hl (hline f b)
  · exact ⟨fun h => h.2.2, fun h => by simp [h]⟩

/-- The law while a RAIL REPORT waits. -/
theorem outboxLaw_slot {s : Station} {f : RailFrame} (hslot : s.port.railSlot = some f) :
    OutboxLaw s ↔ s.map.outbox.length ≤ 12 ∧ (inFrameObs s.map.outbox).length ≤ 6 ∧ railOnLine s = false ∧ RailFrameLaw f ∧
      f.observations = inFrameObs s.map.outbox := by
  unfold OutboxLaw railOnLine
  rw [hslot]
  split <;> split <;> simp_all

/-- The law while a RAIL REPORT is on the line. -/
theorem outboxLaw_line {s : Station} {f : RailFrame} {spoiled : Bool} (hline : s.port.onLine = some (.rail f spoiled)) :
    OutboxLaw s ↔ s.map.outbox.length ≤ 12 ∧ (inFrameObs s.map.outbox).length ≤ 6 ∧ s.port.railSlot = none ∧ RailFrameLaw f ∧
      (spoiled = false → f.observations = inFrameObs s.map.outbox) := by
  unfold OutboxLaw
  rw [hline]
  split <;> simp_all

/-- The three situations of the RAIL REPORT. -/
theorem rail_cases (s : Station) : (s.port.railSlot = none ∧ railOnLine s = false) ∨ (∃ f, s.port.railSlot = some f) ∨
    ∃ f b, s.port.onLine = some (.rail f b) := by
  cases hslot : s.port.railSlot with
  | some f => exact .inr (.inl ⟨f, rfl⟩)
  | none =>
    by_cases hline : railOnLine s = false
    · exact .inl ⟨rfl, hline⟩
    · rw [railOnLine_eq_false] at hline
      push Not at hline
      exact .inr (.inr hline)

theorem outboxLaw_length {s : Station} (h : OutboxLaw s) : s.map.outbox.length ≤ 12 := h.1

/-- A build from observations that all wait meets the law. -/
theorem outboxLaw_railBuilt {z t : Station} (hlen : z.map.outbox.length ≤ 12) (hline : railOnLine z = false)
    (h : RailBuilt z t) : OutboxLaw t := by
  obtain ⟨obs, line, empty, full⟩ := h
  have len : t.map.outbox.length = z.map.outbox.length := by simpa using congrArg List.length obs
  have line : railOnLine t = false := by rw [railOnLine_eq_false] at hline ⊢; rwa [line]
  by_cases hbox : z.map.outbox = []
  · obtain ⟨none', slot, -⟩ := empty hbox
    exact (outboxLaw_idle slot line).mpr none'
  · obtain ⟨slot, -, frame⟩ := full hbox
    refine (outboxLaw_slot slot).mpr ⟨len ▸ hlen, ?_, line, ⟨?_, ?_⟩, frame.symm⟩
    · rw [frame]; simp
    · have := List.length_pos_iff.mpr hbox
      simp only [List.length_take, List.length_map]
      omega
    · simp

/-! ## An offer to the outbox (R80, R81) -/

theorem inFrameObs_waitingItem (o : Observation) : inFrameObs [⟨o, false⟩] = [] := rfl

theorem makeRoom_eraseP (box : List OutboxItem) :
    ∃ p : OutboxItem → Bool, makeRoom box = box.eraseP p ∧ (∀ i, p i = true → i.inFrame = false) ∧
      ((∃ i ∈ box, i.inFrame = false) → ∃ i ∈ box, p i = true) := by
  unfold makeRoom
  split
  · rename_i h
    exact ⟨_, rfl, fun i hi => by simp at hi; exact hi.1, fun _ => by simpa using h⟩
  · exact ⟨_, rfl, by simp, by simp⟩

theorem extendsItem_waiting {o : Observation} {i : OutboxItem} (h : extendsItem o i = true) : i.inFrame = false := by
  simp only [extendsItem, Bool.and_eq_true, Bool.not_eq_true'] at h
  exact h.1.1.1.1.2

/-- The newest observation that an offer extends. -/
theorem offerOutbox_extends {o : Observation} {i : OutboxItem} (h : extendsItem o i = true) (rest : List OutboxItem) :
    offerOutbox o (rest ++ [i]) = rest ++ [extendItem o i] := by
  simp [offerOutbox, h]

theorem offerOutbox_joins {o : Observation} {box : List OutboxItem}
    (h : ∀ r j, box = r ++ [j] → extendsItem o j = false) : offerOutbox o box = offerOutbox.joinOutbox o box := by
  unfold offerOutbox
  split
  · rename_i i hi
    obtain ⟨r, hr⟩ := List.getLast?_eq_some_iff.mp hi
    simp [h r i hr]
  · rfl

/-- An offer extends the newest observation or joins. -/
theorem offerOutbox_cases (o : Observation) (box : List OutboxItem) :
    (∃ rest i, box = rest ++ [i] ∧ extendsItem o i = true ∧ offerOutbox o box = rest ++ [extendItem o i]) ∨
      offerOutbox o box = offerOutbox.joinOutbox o box := by
  by_cases h : ∃ rest i, box = rest ++ [i] ∧ extendsItem o i = true
  · obtain ⟨rest, i, rfl, hi⟩ := h
    exact .inl ⟨rest, i, rfl, hi, offerOutbox_extends hi rest⟩
  · push Not at h
    exact .inr (offerOutbox_joins fun r j hb => by simpa using h r j hb)

theorem joinOutbox_room {o : Observation} {box : List OutboxItem} (h : box.length < 12) :
    offerOutbox.joinOutbox o box = box ++ [⟨o, false⟩] := if_pos h

theorem joinOutbox_dropped {o : Observation} {box : List OutboxItem} (h : 12 ≤ box.length) (hk : o.kind = .atLeast) :
    offerOutbox.joinOutbox o box = box := by
  rw [offerOutbox.joinOutbox, if_neg (by omega), hk]

theorem joinOutbox_replaces {o : Observation} {box : List OutboxItem} (h : 12 ≤ box.length) (hk : o.kind ≠ .atLeast) :
    offerOutbox.joinOutbox o box = makeRoom box ++ [⟨o, false⟩] := by
  rw [offerOutbox.joinOutbox, if_neg (by omega)]
  cases o with
  | mk kind =>
    cases kind with
    | peak | sanded => rfl
    | atLeast => exact absurd rfl hk

/-- An offer leaves the observations IN FRAME. -/
theorem inFrameObs_offerOutbox (o : Observation) (box : List OutboxItem) :
    inFrameObs (offerOutbox o box) = inFrameObs box := by
  obtain ⟨rest, i, rfl, hi, e⟩ | e := offerOutbox_cases o box
  · have waits : i.inFrame = false := extendsItem_waiting hi
    have extended : (extendItem o i).inFrame = false := waits
    rw [e]
    simp [inFrameObs_cons, waits, extended]
  · rw [e]
    by_cases room : box.length < 12
    · rw [joinOutbox_room room, inFrameObs_append, inFrameObs_waitingItem, List.append_nil]
    · by_cases hk : o.kind = .atLeast
      · rw [joinOutbox_dropped (by omega) hk]
      · obtain ⟨p, made, waits, -⟩ := makeRoom_eraseP box
        rw [joinOutbox_replaces (by omega) hk, made, inFrameObs_append, inFrameObs_waitingItem, List.append_nil,
          inFrameObs_eraseP waits]

/-- An offer keeps within 12 observations, of which at most 6 are IN FRAME. -/
theorem length_offerOutbox (o : Observation) {box : List OutboxItem} (h : box.length ≤ 12)
    (hf : (inFrameObs box).length ≤ 6) : (offerOutbox o box).length ≤ 12 := by
  obtain ⟨rest, i, rfl, hi, e⟩ | e := offerOutbox_cases o box
  · rw [e]; simpa using h
  · rw [e]
    by_cases room : box.length < 12
    · rw [joinOutbox_room room]
      simp only [List.length_append, List.length_singleton]
      omega
    · by_cases hk : o.kind = .atLeast
      · rw [joinOutbox_dropped (by omega) hk]; exact h
      · obtain ⟨p, made, -, found⟩ := makeRoom_eraseP box
        obtain ⟨i, hi, fits⟩ := found (exists_waiting (by omega))
        have erased := List.length_eraseP_of_mem hi fits
        rw [joinOutbox_replaces (by omega) hk, made]
        simp only [List.length_append, List.length_singleton]
        omega

/-! ## Observations that leave the outbox (R78, R83) -/

/-- A drop that takes no observation IN FRAME. -/
theorem dropFromOutbox_missed {keep : Observation → Bool} {s : Station}
    (h : ∀ i ∈ s.map.outbox, i.inFrame = true → keep i.obs = true) :
    dropFromOutbox keep s = { s with map := { s.map with outbox := s.map.outbox.filter fun i => keep i.obs } } := by
  have missed : (s.map.outbox.any fun i => i.inFrame && !keep i.obs) = false := by
    rw [List.any_eq_false]
    intro i hi
    by_cases hf : i.inFrame = true
    · simp [h i hi hf]
    · simp [hf]
  unfold dropFromOutbox
  simp [missed]

/-- A drop that takes an observation of a waiting RAIL REPORT withdraws it. -/
theorem dropFromOutbox_withdraws {keep : Observation → Bool} {s : Station} {f : RailFrame}
    (h : ∃ i ∈ s.map.outbox, i.inFrame = true ∧ keep i.obs = false) (hslot : s.port.railSlot = some f) :
    dropFromOutbox keep s =
      withdrawRail { s with map := { s.map with outbox := s.map.outbox.filter fun i => keep i.obs } } := by
  have hit : (s.map.outbox.any fun i => i.inFrame && !keep i.obs) = true := by simpa [List.any_eq_true] using h
  unfold dropFromOutbox
  simp [hit, hslot]

/-- A drop that takes an observation of the RAIL REPORT on the line spoils it. -/
theorem dropFromOutbox_spoils {keep : Observation → Bool} {s : Station} {f : RailFrame} {b : Bool}
    (h : ∃ i ∈ s.map.outbox, i.inFrame = true ∧ keep i.obs = false) (hslot : s.port.railSlot = none)
    (hline : s.port.onLine = some (.rail f b)) :
    dropFromOutbox keep s = { s with
      map := { s.map with outbox := s.map.outbox.filter fun i => keep i.obs }
      port := { s.port with onLine := some (.rail f true) } } := by
  have hit : (s.map.outbox.any fun i => i.inFrame && !keep i.obs) = true := by simpa [List.any_eq_true] using h
  unfold dropFromOutbox
  simp only [hit, hslot, if_true, Option.isSome_none, Bool.false_eq_true, if_false]
  unfold spoilRail
  simp only [hline, hslot]

theorem hit_or_missed (keep : Observation → Bool) (box : List OutboxItem) :
    (∀ i ∈ box, i.inFrame = true → keep i.obs = true) ∨ ∃ i ∈ box, i.inFrame = true ∧ keep i.obs = false := by
  by_cases h : ∃ i ∈ box, i.inFrame = true ∧ keep i.obs = false
  · exact .inr h
  · push Not at h
    exact .inl fun i hi hf => by simpa using h i hi hf

theorem filter_obs (keep : Observation → Bool) (box : List OutboxItem) :
    (box.filter fun i => keep i.obs).map (·.obs) = (box.map (·.obs)).filter keep := by
  rw [List.filter_map]; rfl

theorem outboxLaw_dropFromOutbox (keep : Observation → Bool) {s : Station} (h : OutboxLaw s) :
    OutboxLaw (dropFromOutbox keep s) := by
  have shorter : (s.map.outbox.filter fun i => keep i.obs).length ≤ 12 :=
    (List.length_filter_le _ _).trans (outboxLaw_length h)
  have fewer : (inFrameObs (s.map.outbox.filter fun i => keep i.obs)).length ≤ 6 := by
    have sub : (inFrameObs (s.map.outbox.filter fun i => keep i.obs)).Sublist (inFrameObs s.map.outbox) :=
      (List.filter_sublist.filter _).map _
    exact sub.length_le.trans h.2.1
  obtain missed | hit := hit_or_missed keep s.map.outbox
  · rw [dropFromOutbox_missed missed]
    obtain ⟨hslot, hline⟩ | ⟨f, hslot⟩ | ⟨f, b, hline⟩ := rail_cases s
    · have empty := (outboxLaw_idle hslot hline).mp h
      refine (outboxLaw_idle (by exact hslot) (by exact hline)).mpr ?_
      simp [empty]
    · obtain ⟨-, -, line, law, frame⟩ := (outboxLaw_slot hslot).mp h
      refine (outboxLaw_slot (by exact hslot)).mpr ⟨shorter, fewer, line, law, ?_⟩
      rw [frame, inFrameObs_filter missed]
    · obtain ⟨-, -, slot, law, frame⟩ := (outboxLaw_line hline).mp h
      refine (outboxLaw_line (by exact hline)).mpr ⟨shorter, fewer, slot, law, fun hb => ?_⟩
      rw [frame hb, inFrameObs_filter missed]
  · obtain ⟨hslot, hline⟩ | ⟨f, hslot⟩ | ⟨f, b, hline⟩ := rail_cases s
    · obtain ⟨i, hi, -⟩ := hit
      rw [(outboxLaw_idle hslot hline).mp h] at hi
      cases hi
    · obtain ⟨-, -, line, -⟩ := (outboxLaw_slot hslot).mp h
      rw [dropFromOutbox_withdraws hit hslot]
      exact outboxLaw_railBuilt (by exact shorter) (by exact line) (railBuilt_withdrawRail (by exact line))
    · obtain ⟨-, -, slot, law, -⟩ := (outboxLaw_line hline).mp h
      rw [dropFromOutbox_spoils hit slot hline]
      exact (outboxLaw_line (f := f) (spoiled := true) (by rfl)).mpr ⟨shorter, fewer, slot, law, nofun⟩

/-- R78, R82, R83: what a drop leaves of the RAIL REPORT. -/
theorem railAfterDrop_dropFromOutbox (keep : Observation → Bool) {s : Station} (h : OutboxLaw s) :
    RailAfterDrop keep s (dropFromOutbox keep s) := by
  refine ⟨fun missed => ?_, fun hit => ⟨fun f hslot => ?_, fun f b hslot hline => ?_⟩⟩
  · rw [dropFromOutbox_missed missed]; exact ⟨rfl, rfl, rfl, rfl⟩
  · obtain ⟨-, -, line, -⟩ := (outboxLaw_slot hslot).mp h
    rw [dropFromOutbox_withdraws hit hslot]
    obtain ⟨obs, onLine, empty, full⟩ := railBuilt_withdrawRail
      (s := { s with map := { s.map with outbox := s.map.outbox.filter fun i => keep i.obs } }) line
    refine ⟨onLine, fun hbox => ?_, fun hbox => ?_⟩
    · rw [hbox] at obs
      exact (empty (List.map_eq_nil_iff.mp obs.symm)).2
    · rw [obs]
      exact full fun none' => hbox (List.map_eq_nil_iff.mp (obs.trans (by rw [none']; rfl)))
  · rw [dropFromOutbox_spoils hit hslot hline]; exact ⟨rfl, hslot, rfl, rfl⟩

/-! ## The law through the commands -/

theorem outboxLaw_observe (k : ObsKind) (c : Option Nat) (mu : Nat) {s : Station} (h : OutboxLaw s) :
    OutboxLaw (observe k c mu s) := by
  cases c with
  | none => exact h
  | some c =>
    unfold observe
    simp only
    generalize ho : (⟨k, c, 1, mu, s.pos.sense, .own, s.time⟩ : Observation) = o
    obtain ⟨hslot, hline⟩ | ⟨f, hslot⟩ | ⟨f, b, hline⟩ := rail_cases s
    · have joined : offerOutbox o s.map.outbox = [⟨o, false⟩] := by
        rw [(outboxLaw_idle hslot hline).mp h]; rfl
      rw [joined]
      exact outboxLaw_railBuilt (by simp) (by exact hline) (railBuilt_buildRail (by exact hslot) (by exact hline) (by simp))
    · obtain ⟨len, frames, line, law, frame⟩ := (outboxLaw_slot hslot).mp h
      rw [buildRail_busy (.inl (by simp [hslot]))]
      refine (outboxLaw_slot (by exact hslot)).mpr ⟨length_offerOutbox o len frames, ?_, line, law, ?_⟩
      · rw [inFrameObs_offerOutbox]; exact frames
      · rw [inFrameObs_offerOutbox]; exact frame
    · obtain ⟨len, frames, slot, law, frame⟩ := (outboxLaw_line hline).mp h
      rw [buildRail_busy (.inr (by simp [railOnLine, hline]))]
      refine (outboxLaw_line (by exact hline)).mpr ⟨length_offerOutbox o len frames, ?_, slot, law, fun hb => ?_⟩
      · rw [inFrameObs_offerOutbox]; exact frames
      · rw [inFrameObs_offerOutbox]; exact frame hb

theorem emission_outboxLaw : Emission OutboxLaw where
  observe k c mu _ h := outboxLaw_observe k c mu h
  report _ _ _ _ h := h
  reads h e := (outboxLaw_congr (congrArg (·.1.outbox) e) (congrArg (·.2.2.1) e) (congrArg (·.2.2.2.1) e)).mpr h

theorem outboxLaw_enterRun (comm run : EccFinding) (i : StartInput) : OutboxLaw (enterRun comm run i) := by
  have store (k : FaultKind) (a b : Bool) (s : Station) (h : OutboxLaw s) : OutboxLaw (reportStore k a b s) := by
    unfold reportStore; split <;> exact h
  exact store _ _ _ _ (store _ _ _ _ ((outboxLaw_idle rfl rfl).mpr rfl))

theorem outboxLaw_takeClear {s : Station} (h : OutboxLaw s) (id : BitVec 8) (g : Granularity) :
    OutboxLaw (takeClear id g s) := by
  have aim (g : Granularity) {t : Station} (h : OutboxLaw t) : OutboxLaw (cancelAimIn g t) := by
    unfold cancelAimIn
    split
    · split <;> exact h
    · exact h
  exact aim _ (outboxLaw_dropFromOutbox (s := { s with map := _ }) _ h)

theorem outboxLaw_contentionLost {s : Station} (h : OutboxLaw s) : OutboxLaw (contentionLost s) := by
  have passed (hline : railOnLine s = false) : OutboxLaw (offLine s) := by
    cases hslot : s.port.railSlot with
    | none => exact (outboxLaw_idle (s := offLine s) hslot rfl).mpr ((outboxLaw_idle hslot hline).mp h)
    | some f =>
      obtain ⟨len, frames, -, law, frame⟩ := (outboxLaw_slot hslot).mp h
      exact (outboxLaw_slot (s := offLine s) hslot).mpr ⟨len, frames, rfl, law, frame⟩
  unfold contentionLost
  split
  · exact h
  · rename_i f hf
    have kept := passed (by simp [railOnLine, hf])
    unfold returnStatus
    split <;> exact kept
  · rename_i f hf
    have kept := passed (by simp [railOnLine, hf])
    unfold returnClear
    split <;> exact kept
  · rename_i f spoiled hf
    obtain ⟨len, frames, -, law, frame⟩ := (outboxLaw_line hf).mp h
    unfold returnRail
    cases spoiled with
    | true =>
      simp only [if_true]
      exact outboxLaw_railBuilt (by exact len) (by rfl) (railBuilt_withdrawRail (by rfl))
    | false =>
      exact (outboxLaw_slot (s := { offLine s with port := { (offLine s).port with railSlot := some f } }) rfl).mpr
        ⟨len, frames, rfl, law, frame rfl⟩

theorem waiting_after_dropSent (s : Station) : ∀ i ∈ (dropSent s).map.outbox, i.inFrame = false := by
  intro i hi
  simpa using (List.mem_filter.mp hi).2

theorem outboxLaw_frameSent {s : Station} (h : OutboxLaw s) : OutboxLaw (frameSent s) := by
  have passed (hline : railOnLine s = false) : OutboxLaw (offLine s) := by
    cases hslot : s.port.railSlot with
    | none => exact (outboxLaw_idle (s := offLine s) hslot rfl).mpr ((outboxLaw_idle hslot hline).mp h)
    | some f =>
      obtain ⟨len, frames, -, law, frame⟩ := (outboxLaw_slot hslot).mp h
      exact (outboxLaw_slot (s := offLine s) hslot).mpr ⟨len, frames, rfl, law, frame⟩
  unfold frameSent
  split
  · exact h
  · rename_i f hf
    exact passed (by simp [railOnLine, hf])
  · rename_i f hf
    exact passed (by simp [railOnLine, hf])
  · rename_i f spoiled hf
    obtain ⟨len, -, slot, -⟩ := (outboxLaw_line hf).mp h
    have len' : (dropSent (offLine s)).map.outbox.length ≤ 12 := (List.length_filter_le _ _).trans len
    exact outboxLaw_railBuilt len' rfl (railBuilt_buildRail (by exact slot) rfl (waiting_after_dropSent _))

theorem outboxLaw_lineFreeOffer {s : Station} (h : OutboxLaw s) : OutboxLaw (lineFreeOffer s) := by
  have offered (l : LineFrame) (hl : s.port.onLine = none) (hrail : ∀ f b, l ≠ .rail f b) (p : Port)
      (hp : p.railSlot = s.port.railSlot) (hp' : p.onLine = some l) : OutboxLaw { s with port := p } := by
    have idle : railOnLine s = false := by simp [railOnLine, hl]
    have line : railOnLine { s with port := p } = false := railOnLine_eq_false.mpr fun f b hfb =>
      hrail f b (Option.some.inj (hp'.symm.trans hfb))
    cases hslot : s.port.railSlot with
    | none =>
      exact (outboxLaw_idle (s := { s with port := p }) (hp.trans hslot) line).mpr ((outboxLaw_idle hslot idle).mp h)
    | some f =>
      obtain ⟨len, frames, -, law, frame⟩ := (outboxLaw_slot hslot).mp h
      exact (outboxLaw_slot (s := { s with port := p }) (hp.trans hslot)).mpr ⟨len, frames, line, law, frame⟩
  unfold lineFreeOffer
  split
  · exact h
  · rename_i f hl _
    exact offered (.status f) hl nofun _ rfl rfl
  · rename_i f hl _ _
    exact offered (.mapClear f) hl nofun _ rfl rfl
  · rename_i f hl _ _ hslot
    obtain ⟨len, frames, -, law, frame⟩ := (outboxLaw_slot hslot).mp h
    exact (outboxLaw_line (s := { s with port := _ }) rfl).mpr ⟨len, frames, rfl, law, fun _ => frame⟩
  · exact h

theorem mergePeers_map (l : List Observation) (s : Station) :
    ∃ es, l.foldl mergePeerObs s = { s with map := { s.map with entries := es } } := by
  induction l generalizing s with
  | nil => exact ⟨_, rfl⟩
  | cons o l ih =>
    have one : ∃ es, mergePeerObs s o = { s with map := { s.map with entries := es } } := by
      unfold mergePeerObs; split <;> exact ⟨_, rfl⟩
    obtain ⟨es, e⟩ := one
    obtain ⟨es', e'⟩ := ih (mergePeerObs s o)
    exact ⟨es', by rw [List.foldl_cons, e', e]⟩

theorem outboxLaw_after {c : Instr} {z : Station} (h : OutboxLaw z) : OutboxLaw (stationAfter c z) := by
  have unread (s : Station) (q : Option Reply) (hs : OutboxLaw s) : OutboxLaw { s with reply := q } := hs
  have peers {f : Station → Station} (hf : ∃ p m, f z = { z with port := { z.port with peers := p }, makeUp := m }) :
      OutboxLaw (f z) := by
    obtain ⟨_, _, e⟩ := hf; rw [e]; exact h
  have lapsed (n : Nat) (s : Station) : ∃ m, lapseOn n s = { s with makeUp := m } := ⟨_, rfl⟩
  by_cases hc : writesOutgoing c = false
  · exact emission_outboxLaw.after hc h
  cases c with
  | powerOnStart => exact outboxLaw_enterRun _ _ _
  | restart =>
    refine whenRunning_keeps h fun h => taken_keeps unread h fun h => ?_
    unfold serviceRestart
    split
    · exact h
    · exact outboxLaw_enterRun _ _ _
  | sweep => exact whenRunning_keeps h fun h => h
  | statusArrival f =>
    refine whenRunning_keeps h fun h => ?_
    unfold statusArrival
    split
    · split
      · exact emission_outboxLaw.duplicate h
      · split
        · exact h
        · refine peers ?_
          unfold acceptStatus lapseOutdated
          simp only
          split <;> exact ⟨_, _, rfl⟩
    · exact h
  | railReportArrival f =>
    refine whenRunning_keeps h fun h => ?_
    unfold railReportArrival
    split
    · split
      · exact h
      · obtain ⟨_, eq⟩ := mergePeers_map _ z; rw [eq]; exact h
    · exact h
  | mapClearArrival f =>
    refine whenRunning_keeps h fun h => ?_
    unfold mapClearArrival
    split
    · exact outboxLaw_takeClear h _ _
    · exact h
  | clearMap r =>
    refine whenRunning_keeps h fun h => taken_keeps unread h fun h => ?_
    unfold clearMap
    split
    · exact outboxLaw_takeClear h _ _
    · exact h
  | peerRecordSilent n =>
    refine whenRunning_keeps h fun _ => peers ?_
    unfold peerSilent
    split <;> exact ⟨_, _, rfl⟩
  | peerLost n =>
    refine whenRunning_keeps h fun h => ?_
    unfold peerLost
    split <;> exact h
  | contentionLost => exact whenRunning_keeps h outboxLaw_contentionLost
  | frameSent => exact whenRunning_keeps h outboxLaw_frameSent
  | lineFreeOffer => exact whenRunning_keeps h outboxLaw_lineFreeOffer
  | outboxExpiry => exact whenRunning_keeps h (outboxLaw_dropFromOutbox _)
  | clearFault r =>
    refine whenRunning_keeps h fun h => taken_keeps unread h fun h => ?_
    unfold clearFault
    split <;> exact h
  | clearAllFaults r | clearOverflow r => exact whenRunning_keeps h fun h => taken_keeps unread h fun h => h
  | _ => exact absurd rfl hc

end Sys2Proof.Machine

open Sys2Proof Sys2Proof.Machine

/-- Settles O56: own observations join by `outboxLaw_observe`, drops and clears take observations away, and the trainline moves
the frame between its slot and the line. -/
theorem outboxLawKept : Obligations.OutboxLawKept := fun _ _ h hs =>
  step_keeps (P := OutboxLaw) (fun s hs => emission_outboxLaw.via (outgoing_passMicro s) hs) (fun _ _ h => outboxLaw_after h) h hs

end

section
/-! SUPPORT. Clears (R75 to R79), the peers' observations (R66) and the transmit slots (R167 to R169). -/

namespace Sys2Proof.Machine

/-! ## The cells that a granularity means (R76, R77) -/

/-- R76: a cell within 0 to 19,999 lies in a window's span, wherever the span ends. -/
theorem inSpan_iff {w : RouteWindow} {c : Nat} (hc : c ≤ 19999) : inSpan w c = true ↔
    (w.startBlock * 2 : Int) + w.mapOffset ≤ (c : Int) ∧ (c : Int) ≤ (w.stopBlock * 2 : Int) + 1 + w.mapOffset := by
  simp only [inSpan, spanExists, Bool.and_eq_true, decide_eq_true_eq]
  simp only [mapSpan, clampInt]
  omega

/-- Two cells in order lie in a span when its ends enclose both. -/
theorem inSpan_both_iff {w : RouteWindow} {first last : Nat} (h : first ≤ last) (hl : last ≤ 19999) :
    (inSpan w first = true ∧ inSpan w last = true) ↔
      (w.startBlock * 2 : Int) + w.mapOffset ≤ (first : Int) ∧ (last : Int) ≤ (w.stopBlock * 2 : Int) + 1 + w.mapOffset := by
  rw [inSpan_iff (h.trans hl), inSpan_iff hl]
  omega

/-- Window `i` of a list is enabled and its span holds two cells. -/
def SpansAt (a b : Nat) (ws : List RouteWindow) (i : Nat) : Prop :=
  ∃ w, ws[i]? = some w ∧ w.enabled = true ∧ inSpan w a = true ∧ inSpan w b = true

theorem spansAt_zero {a b : Nat} {w : RouteWindow} {ws : List RouteWindow} :
    SpansAt a b (w :: ws) 0 ↔ (w.enabled && inSpan w a && inSpan w b) = true := by
  simp [SpansAt, and_assoc]

theorem spansAt_succ {a b i : Nat} {w : RouteWindow} {ws : List RouteWindow} :
    SpansAt a b (w :: ws) (i + 1) ↔ SpansAt a b ws i := by simp [SpansAt]

/-- The lowest-numbered window that spans both cells. -/
theorem spanningWindow_first {a b i : Nat} {ws : List RouteWindow} (h : SpansAt a b ws i)
    (hmin : ∀ j, j < i → ¬SpansAt a b ws j) (n : Nat) : spanningWindow a b n ws = some (n + i) := by
  induction ws generalizing i n with
  | nil => obtain ⟨w, hw, -⟩ := h; cases hw
  | cons w ws ih =>
    cases i with
    | zero => rw [spanningWindow, if_pos (spansAt_zero.mp h), Nat.add_zero]
    | succ i =>
      have here : ¬SpansAt a b (w :: ws) 0 := hmin 0 (Nat.succ_pos i)
      rw [spanningWindow, if_neg (spansAt_zero.not.mp here), ih (spansAt_succ.mp h) fun j hj hs =>
        hmin (j + 1) (Nat.succ_lt_succ hj) (spansAt_succ.mpr hs)]
      congr 1
      omega

theorem spanningWindow_none {a b : Nat} {ws : List RouteWindow} (h : ∀ i, ¬SpansAt a b ws i) (n : Nat) :
    spanningWindow a b n ws = none := by
  induction ws generalizing n with
  | nil => rfl
  | cons w ws ih =>
    rw [spanningWindow, if_neg (spansAt_zero.not.mp (h 0))]
    exact ih (fun i hi => h (i + 1) (spansAt_succ.mpr hi)) (n + 1)

theorem actualGranularity_cells {first last : Nat} (h : first ≤ last) (hl : last ≤ 19999) (figs : Commissioning) :
    actualGranularity figs (.cells first last) = if last - first + 1 ≤ 64 then .cells first last
      else match spanningWindow first last 0 figs.windows with | some m => .window m | none => .all := by
  rw [actualGranularity, if_neg (by omega)] <;> rfl

theorem actualGranularity_beyond {first last : Nat} (h : last < first ∨ 19999 < first ∨ 19999 < last)
    (figs : Commissioning) : actualGranularity figs (.cells first last) = .all := by
  rw [actualGranularity, if_pos (by omega)]

theorem mem_rangeCells {sense : Sense} {first count c : Nat} :
    c ∈ rangeCells sense first count ↔ first ≤ c ∧ c < first + count ∧ c ≤ 19999 := by
  have up : c ∈ ((List.range count).map (first + ·)).filter (· ≤ 19999) ↔ first ≤ c ∧ c < first + count ∧ c ≤ 19999 := by
    simp only [List.mem_filter, List.mem_map, List.mem_range, decide_eq_true_eq]
    constructor
    · rintro ⟨⟨i, hi, rfl⟩, hc⟩; omega
    · rintro ⟨hf, hl, hc⟩; exact ⟨⟨c - first, by omega, by omega⟩, hc⟩
  cases sense with
  | up => exact List.mem_reverse.trans up
  | down => exact up

/-! ## What a clear leaves (R75 to R78) -/

theorem buildRail_obs (s : Station) : (buildRail s).map.outbox.map (·.obs) = s.map.outbox.map (·.obs) := by
  unfold buildRail; split <;> simp

theorem withdrawRail_obs (s : Station) : (withdrawRail s).map.outbox.map (·.obs) = s.map.outbox.map (·.obs) := by
  rw [withdrawRail, buildRail_obs, List.map_map]; rfl

theorem dropFromOutbox_obs (keep : Observation → Bool) (s : Station) :
    (dropFromOutbox keep s).map.outbox.map (·.obs) = (s.map.outbox.map (·.obs)).filter keep := by
  have spoiled (s : Station) : (spoilRail s).map = s.map := by unfold spoilRail; split <;> rfl
  rw [← filter_obs]
  unfold dropFromOutbox
  simp only
  split
  · split
    · exact withdrawRail_obs _
    · rw [spoiled]
  · rfl

/-- The station with other entries in its map. -/
def withEntries (es : List MapEntry) (s : Station) : Station := { s with map := { s.map with entries := es } }

theorem buildRail_withEntries (es : List MapEntry) (s : Station) :
    buildRail (withEntries es s) = withEntries es (buildRail s) := by
  unfold buildRail
  rw [apply_ite (withEntries es)]
  rfl

theorem spoilRail_withEntries (es : List MapEntry) (s : Station) :
    spoilRail (withEntries es s) = withEntries es (spoilRail s) := by
  have line : (withEntries es s).port.onLine = s.port.onLine := rfl
  unfold spoilRail
  rw [line]
  split <;> rfl

/-- The entries take no part in a drop. -/
theorem dropFromOutbox_withEntries (keep : Observation → Bool) (es : List MapEntry) (s : Station) :
    dropFromOutbox keep (withEntries es s) = withEntries es (dropFromOutbox keep s) := by
  unfold dropFromOutbox
  rw [apply_ite (withEntries es), apply_ite (withEntries es)]
  unfold withdrawRail
  rw [← buildRail_withEntries, ← spoilRail_withEntries]
  rfl

/-- A drop moves the outbox, the slot with its sequence number, and the frame on the line. -/
theorem dropFromOutbox_self (keep : Observation → Bool) (s : Station) : dropFromOutbox keep s = { s with
    map := { s.map with outbox := (dropFromOutbox keep s).map.outbox }
    port := { s.port with
      railSlot := (dropFromOutbox keep s).port.railSlot, seqRail := (dropFromOutbox keep s).port.seqRail
      onLine := (dropFromOutbox keep s).port.onLine } } := by
  unfold dropFromOutbox
  simp only
  split
  · split
    · rw [withdrawRail_self]
    · unfold spoilRail
      simp only
      split <;> rfl
  · rfl

theorem cancelAimIn_eq (g : Granularity) (s : Station) : cancelAimIn g s = { s with
    sanding := { s.sanding with aim := s.sanding.aim.filter fun a => !clearsCell s.figs g a.mapCell } } := by
  unfold cancelAimIn
  split
  · rename_i a aim
    rw [aim, Option.filter_some]
    split
    · rename_i h; rw [h]; rfl
    · rename_i h; simp only [h, Bool.not_false, if_true]; rw [← aim]
  · rename_i aim
    rw [aim, Option.filter_none, ← aim]

/-- The drop that a clear of an actual granularity makes. -/
def clearDrop (g : Granularity) (s : Station) : Station := dropFromOutbox (keptByClear s.figs g) s

theorem takeClear_eq (id : BitVec 8) {requested g : Granularity} (s : Station) (hg : actualGranularity s.figs requested = g) :
    takeClear id requested s = { s with
      map := { s.map with
        entries := s.map.entries.filter fun e => !clearsCell s.figs g e.cell
        outbox := (clearDrop g s).map.outbox
        lastClear := some ⟨id, g⟩ }
      sanding := { s.sanding with aim := s.sanding.aim.filter fun a => !clearsCell s.figs g a.mapCell }
      port := { s.port with
        railSlot := (clearDrop g s).port.railSlot, seqRail := (clearDrop g s).port.seqRail
        onLine := (clearDrop g s).port.onLine } } := by
  unfold takeClear
  simp only [hg]
  have drop := dropFromOutbox_withEntries (keptByClear s.figs g) (s.map.entries.filter fun e => !clearsCell s.figs g e.cell) s
  rw [dropFromOutbox_self _ s] at drop
  rw [← withEntries, drop, cancelAimIn_eq]
  rfl

/-- R77, R78: a clear, whatever it makes of the MAP CLEAR slot and of the reply. -/
theorem cleared_takeClear (id : BitVec 8) (requested : Granularity) (s : Station) (slot : Option ClearFrame) (n : BitVec 8) :
    Cleared (actualGranularity s.figs requested) s { takeClear id requested s with
      port := { (takeClear id requested s).port with clearSlot := slot, seqClear := n } } := by
  rw [takeClear_eq id s rfl]
  refine ⟨rfl, rfl, dropFromOutbox_obs _ s, fun a ha => ?_, fun ha => ?_⟩
  · simp only [ha, Option.filter_some]
    cases clearsCell s.figs (actualGranularity s.figs requested) a.mapCell <;> rfl
  · simp only [ha, Option.filter_none]

/-- What follows the drop reads of the RAIL REPORT. -/
theorem railAfterDrop_congr {keep : Observation → Bool} {z t t' : Station} (hbox : t'.map.outbox = t.map.outbox)
    (hslot : t'.port.railSlot = t.port.railSlot) (hseq : t'.port.seqRail = t.port.seqRail)
    (hline : t'.port.onLine = t.port.onLine) (h : RailAfterDrop keep z t) : RailAfterDrop keep z t' := by
  unfold RailAfterDrop; rw [hbox, hslot, hseq, hline]; exact h

theorem railAfterDrop_takeClear (id : BitVec 8) (requested : Granularity) {s : Station} (h : OutboxLaw s) :
    RailAfterDrop (keptByClear s.figs (actualGranularity s.figs requested)) s (takeClear id requested s) := by
  rw [takeClear_eq id s rfl]
  exact railAfterDrop_congr rfl rfl rfl rfl (railAfterDrop_dropFromOutbox _ h)

/-- R79: the next clear number. -/
theorem nextClearId_eq {s : Station} {id : BitVec 8}
    (h : id = (match s.map.lastClear with | some c => c.id + 1 | none => 1)) : id = nextClearId s := by
  rw [h]; unfold nextClearId; cases s.map.lastClear <;> rfl

/-- R185: the granularity that the arguments of CLEAR MAP name. -/
theorem granularityOf_eq {code first last : Nat} {g : Granularity} (hcode : code ≤ 2) (h0 : code = 0 → g = .all)
    (h1 : code = 1 → g = .window first) (h2 : code = 2 → g = .cells first last) :
    granularityOf code first last = some g := by
  match code with
  | 0 => rw [h0 rfl]; rfl
  | 1 => rw [h1 rfl]; rfl
  | 2 => rw [h2 rfl]; rfl

theorem granularityOf_none {code : Nat} (h : 2 < code) (first last : Nat) : granularityOf code first last = none := by
  match code with
  | n + 3 => rfl

/-! ## Observations of a peer (R66) -/

/-- R66: an observation that a RAIL REPORT may merge. -/
def peerObsOk (o : Observation) : Bool := decide (o.cell ≤ 19999 ∧ (o.kind = .sanded → 1 ≤ o.count ∧ o.count ≤ 16))

/-- R66: μ taken as at most 500. -/
def cappedObs (o : Observation) : Observation := if o.kind = .sanded then o else { o with mu := min 500 o.mu }

theorem checkPeerObs_eq (o : Observation) : checkPeerObs o = if peerObsOk o then some (cappedObs o) else none := by
  unfold checkPeerObs peerObsOk cappedObs
  by_cases hcell : 19999 < o.cell
  · simp [hcell]
  · have cell : o.cell ≤ 19999 := by omega
    rw [if_neg hcell]
    cases hk : o.kind with
    | peak | atLeast => simp [cell]
    | sanded =>
      by_cases hcount : o.count = 0 ∨ 16 < o.count
      · have : ¬(1 ≤ o.count ∧ o.count ≤ 16) := by omega
        simp [hcount, this]
      · have : 1 ≤ o.count ∧ o.count ≤ 16 := by omega
        simp only [hcount, cell, this, if_false, and_self, imp_self, decide_true, if_true]

theorem mergePeers_eq (l : List Observation) (s : Station) : l.foldl mergePeerObs s = { s with map := { s.map with
    entries := ((l.filter peerObsOk).map cappedObs).foldl (fun es o => mergeObs s.figs.mapDepth s.pos.sense o es)
      s.map.entries } } := by
  induction l generalizing s with
  | nil => rfl
  | cons o l ih =>
    by_cases ok : peerObsOk o = true
    · rw [List.foldl_cons, ih, mergePeerObs, checkPeerObs_eq, if_pos ok, List.filter_cons_of_pos ok]; rfl
    · rw [List.foldl_cons, ih, mergePeerObs, checkPeerObs_eq, if_neg ok, List.filter_cons_of_neg ok]

/-- R158: the observations that a RAIL REPORT carries are the sender's, at the moment of its arrival. -/
theorem mem_decodeRail {observer k : Nat} {now : Millis} {bits : List Bool} {o : Observation} (h : o ∈ decodeRail observer now k bits) :
    o.observer = .station observer ∧ o.time = now := by
  induction k generalizing bits with
  | zero => cases h
  | succ k ih =>
    unfold decodeRail at h
    split at h
    · rename_i o' ho'
      obtain rfl | h := List.mem_cons.mp h
      · obtain ⟨kind, -, rfl⟩ := Option.map_eq_some_iff.mp ho'
        exact ⟨rfl, rfl⟩
      · exact ih h
    · exact ih h

theorem mem_checkRail {now : Millis} {f : Frame} {n : Nat} {l : List Observation} (h : checkRail now f = some (n, l)) :
    ∀ o ∈ l, o.observer = .station n ∧ o.time = now := by
  unfold checkRail at h
  split at h
  · obtain ⟨rfl, rfl⟩ := Prod.mk.inj (Option.some.inj h)
    exact fun o ho => mem_decodeRail ho
  · cases h

theorem railReportArrival_eq {s : Station} {f : Frame} {n : Nat} {l : List Observation}
    (h : checkRail s.time f = some (n, l)) :
    railReportArrival f s = if n = s.plug.number.val then s else l.foldl mergePeerObs s := by
  unfold railReportArrival; rw [h]

theorem mapClearArrival_eq {s : Station} {f : Frame} {id : BitVec 8} {g : Granularity} (h : checkClear f = some (id, g)) :
    mapClearArrival f s = takeClear id g s := by
  unfold mapClearArrival; rw [h]

/-- A merge of a PEAK or AT_LEAST, and of a SANDED. -/
theorem mergeObs_single {o : Observation} (h : o.kind ≠ .sanded) (depth : Nat) (sense : Sense) (es : List MapEntry) :
    mergeObs depth sense o es = mergeCell depth sense o o.cell es := by
  unfold mergeObs obsCells
  cases hk : o.kind with
  | peak | atLeast => rfl
  | sanded => exact absurd hk h

theorem mergeObs_sanded {o : Observation} (h : o.kind = .sanded) (depth : Nat) (sense : Sense) (es : List MapEntry) :
    mergeObs depth sense o es =
      (rangeCells sense o.cell o.count).foldl (fun es c => mergeCell depth sense o c es) es := by
  unfold mergeObs obsCells; rw [h]

theorem rangeCells_eq (sense : Sense) (first count : Nat) : rangeCells sense first count =
    if sense = .up then ((List.range' first count).filter (· ≤ 19999)).reverse
    else (List.range' first count).filter (· ≤ 19999) := by
  rw [List.range'_eq_map_range]
  cases sense <;> rfl

/-! ## The transmit slots (R167 to R169) -/

theorem frameSent_rail {s : Station} {f : RailFrame} {b : Bool} (h : s.port.onLine = some (.rail f b)) :
    frameSent s = buildRail (dropSent (offLine s)) := by
  unfold frameSent; rw [h]

theorem contentionLost_rail {s : Station} {f : RailFrame} {b : Bool} (h : s.port.onLine = some (.rail f b)) :
    contentionLost s = returnRail f b (offLine s) := by
  unfold contentionLost; rw [h]

theorem statusSlotExpiry_due {s : Station} {f : StatusFrame} (h : s.port.statusSlot = some f) (hage : 20 ≤ age s.time f.built) :
    statusSlotExpiry s = { s with port := { s.port with statusSlot := none } } := by
  rw [statusSlotExpiry, slotExpired, h, if_pos (decide_eq_true hage)]

theorem statusSlotExpiry_early {s : Station} (h : ∀ f, s.port.statusSlot = some f → age s.time f.built < 20) :
    statusSlotExpiry s = s := by
  rw [statusSlotExpiry, slotExpired, if_neg]
  split
  · rename_i f hf
    have := h f hf
    simp only [decide_eq_true_eq]
    omega
  · exact Bool.false_ne_true

theorem returnStatus_eq (f : StatusFrame) (s : Station) : returnStatus f s = { s with port := { s.port with
    statusSlot := if s.port.statusSlot = none ∧ age s.time f.built < 20 then some f else s.port.statusSlot } } := by
  unfold returnStatus
  simp only [Option.isNone_iff_eq_none]
  split <;> rfl

theorem returnClear_eq (f : ClearFrame) (s : Station) : returnClear f s = { s with port := { s.port with
    clearSlot := if s.port.clearSlot = none then some f else s.port.clearSlot } } := by
  unfold returnClear
  simp only [Option.isNone_iff_eq_none]
  split <;> rfl

end Sys2Proof.Machine

open Sys2Proof Sys2Proof.Machine

/-- Settles O20. -/
theorem clearGranularity : Obligations.ClearGranularity := by
  intro figs
  refine ⟨rfl, fun n w hw he => ?_, fun n hoff => ?_, fun first last h hl hn => ?_, fun first last h => ?_,
    fun first last spans h hl hn hspans => ⟨fun m hm hmin => ?_, fun hnone => ?_⟩, fun _ => rfl, fun c first last => ?_,
    fun c n w hc hw => ?_, fun g o hk => ?_, fun g o hk => ?_⟩
  · simp [actualGranularity, windowEnabled, hw, he]
  · have off : windowEnabled figs n = false := by
      unfold windowEnabled
      split
      · rename_i w hw; exact hoff w hw
      · rfl
    simp [actualGranularity, off]
  · rw [actualGranularity_cells h hl, if_pos hn]
  · exact actualGranularity_beyond h figs
  · have first' : ∀ i, spans i ↔ SpansAt first last figs.windows i := fun i => by
      rw [hspans]; simp only [SpansAt, inSpan_both_iff h hl]
    rw [actualGranularity_cells h hl, if_neg (by omega), spanningWindow_first ((first' m).mp hm)
      (fun j hj hs => hmin j hj ((first' j).mpr hs)), Nat.zero_add]
  · have none' : ∀ i, ¬SpansAt first last figs.windows i := fun i hi => hnone i ((hspans i).mpr (by
      simpa only [SpansAt, inSpan_both_iff h hl] using hi))
    rw [actualGranularity_cells h hl, if_neg (by omega), spanningWindow_none none']
  · simp [clearsCell]
  · simp only [clearsCell, hw]
    exact inSpan_iff hc
  · unfold keptByClear
    cases hkind : o.kind with
    | peak | atLeast => simp
    | sanded => exact absurd hkind hk
  · simp only [keptByClear, hk, Bool.not_eq_true', List.any_eq_false, mem_rangeCells, Bool.not_eq_true]
    exact ⟨fun h c h1 h2 h3 => h c ⟨h1, h2, h3⟩, fun h c ⟨h1, h2, h3⟩ => h c h1 h2 h3⟩

/-- Settles O21, by the equation of `takeClear` and what its drop leaves of the RAIL REPORT. -/
theorem mapClear : Obligations.MapClear := by
  intro q z hz
  refine ⟨fun f id g hf => ⟨takeClear id g z, actRunning_eq hz (mapClearArrival_eq hf) q, ?_, ?_, ?_, ?_,
    railAfterDrop_takeClear id g⟩, fun req id g hs hl hid h0 h1 h2 => ⟨fun hcode => ?_, fun hcode => ?_⟩⟩
  · rw [takeClear_eq id z rfl]
  · rw [takeClear_eq id z rfl]
  · exact cleared_takeClear id g z _ _
  · rw [takeClear_eq id z rfl]
  · obtain rfl := nextClearId_eq hid
    have named : clearMap req z = answerCode 7 .ok (serviceClear g z) := by
      unfold clearMap argByte; rw [granularityOf_eq hcode h0 h1 h2]
    have seq : (takeClear (nextClearId z) g z).port.seqClear = z.port.seqClear := by rw [takeClear_eq _ z rfl]
    have served : serviceClear g z = { takeClear (nextClearId z) g z with port := { (takeClear (nextClearId z) g z).port with
        seqClear := z.port.seqClear + 1
        clearSlot := some ⟨nextClearId z, actualGranularity z.figs g, z.port.seqClear + 1⟩ } } := by
      unfold serviceClear; simp only; rw [seq]
    refine ⟨answerCode 7 .ok (serviceClear g z), actRunning_taken hz hs (by rw [hl]; rfl) named q, ?_⟩
    rw [served]
    refine ⟨?_, rfl, rfl, rfl, ?_, fun law => railAfterDrop_congr rfl rfl rfl rfl (railAfterDrop_takeClear (nextClearId z) g law)⟩
    · rw [takeClear_eq _ z rfl]; rfl
    · have cleared := cleared_takeClear (nextClearId z) g z
        (some ⟨nextClearId z, actualGranularity z.figs g, z.port.seqClear + 1⟩) (z.port.seqClear + 1)
      have reply : (takeClear (nextClearId z) g z).reply = z.reply := by rw [takeClear_eq _ z rfl]
      rw [← reply]
      exact cleared
  · refine actRunning_taken hz hs (by rw [hl]; rfl) ?_ q
    unfold clearMap argByte
    rw [granularityOf_none hcode]
    rfl

/-- Settles O22. -/
theorem railReport : Obligations.RailReport := by
  refine ⟨?_, ?_⟩
  · rintro depth sense o es range rfl
    exact ⟨fun hk => mergeObs_single hk depth sense es, fun hk => by rw [mergeObs_sanded hk, rangeCells_eq]⟩
  · rintro f n l kept q z hz hf rfl
    refine ⟨mem_checkRail hf, fun hn => actRunning_eq hz ?_ q, fun hn => actRunning_eq hz ?_ q⟩
    · rw [railReportArrival_eq hf, if_pos hn]
    · rw [railReportArrival_eq hf, if_neg hn, mergePeers_eq]; rfl

/-- Settles O26: an expiry is a drop of the observations older than 2,000 ms. -/
theorem outboxExpiry : Obligations.OutboxExpiry := by
  intro q z hz law
  have drop : expireOutbox z = dropFromOutbox (fun o => decide (age z.time o.time ≤ 2000)) z := rfl
  obtain ⟨missed, hit⟩ := railAfterDrop_dropFromOutbox (fun o => decide (age z.time o.time ≤ 2000)) law
  refine ⟨expireOutbox z, actRunning_eq hz rfl q, ?_, dropFromOutbox_obs _ z, fun h => ?_, fun h => ?_⟩
  · exact dropFromOutbox_self _ z
  · rw [drop, dropFromOutbox_missed fun i hi hf => decide_eq_true (h i hi hf)]
    exact ⟨rfl, rfl⟩
  · have late : ∃ i ∈ z.map.outbox, i.inFrame = true ∧ decide (age z.time i.obs.time ≤ 2000) = false := by
      obtain ⟨i, hi, hf, hage⟩ := h
      exact ⟨i, hi, hf, decide_eq_false (Nat.not_le.mpr hage)⟩
    obtain ⟨withdrawn, -⟩ := hit late
    exact ⟨withdrawn, fun f b hslot hline => by rw [drop, dropFromOutbox_spoils late hslot hline]; exact ⟨rfl, rfl⟩⟩

/-- Settles O46. -/
theorem transmitSlots : Obligations.TransmitSlots := by
  intro q z hz
  refine ⟨fun l hl => actRunning_eq hz ?_ q, fun hl => ⟨fun f hs => actRunning_eq hz ?_ q, fun f hs hc => actRunning_eq hz ?_ q,
      fun f hs hc hr => actRunning_eq hz ?_ q, fun hs hc hr => actRunning_eq hz ?_ q⟩,
    fun f hf hage => actRunning_eq hz (statusSlotExpiry_due hf hage) q, fun h => actRunning_eq hz (statusSlotExpiry_early h) q,
    fun hl => ⟨actRunning_eq hz ?_ q, actRunning_eq hz ?_ q⟩, fun f hl => ⟨actRunning_eq hz ?_ q, actRunning_eq hz ?_ q⟩,
    fun f hl => ⟨actRunning_eq hz ?_ q, actRunning_eq hz ?_ q⟩, fun f hl => actRunning_eq hz ?_ q, fun f hl => ?_,
    fun f b hl hslot => ?_⟩
  · simp [lineFreeOffer, hl]
  · simp [lineFreeOffer, hl, hs]
  · simp [lineFreeOffer, hl, hs, hc]
  · simp [lineFreeOffer, hl, hs, hc, hr]
  · simp [lineFreeOffer, hl, hs, hc, hr]
  · simp [contentionLost, hl]
  · simp [frameSent, hl]
  · simp [frameSent, hl, offLine]
  · unfold contentionLost; rw [hl]; exact returnStatus_eq f (offLine z)
  · simp [frameSent, hl, offLine]
  · unfold contentionLost; rw [hl]; exact returnClear_eq f (offLine z)
  · rw [contentionLost_rail hl]; rfl
  · obtain ⟨obs, -, empty, full⟩ := railBuilt_withdrawRail
      (s := { offLine z with port := { (offLine z).port with railSlot := some f } }) rfl
    exact ⟨contentionLost z, actRunning_eq hz rfl q, by
      rw [contentionLost_rail hl]; exact ⟨withdrawRail_self _, obs, fun h => (empty h).2, full⟩⟩
  · obtain ⟨obs, -, empty, full⟩ := railBuilt_buildRail (s := dropSent (offLine z)) hslot rfl (waiting_after_dropSent _)
    refine ⟨frameSent z, actRunning_eq hz rfl q, ?_⟩
    rw [frameSent_rail hl]
    refine ⟨buildRail_self _, obs, fun h => ?_, fun h => ?_⟩
    · rw [h] at obs
      exact (empty (List.map_eq_nil_iff.mp obs.symm)).2
    · rw [obs]
      exact full fun none' => h (List.map_eq_nil_iff.mp (obs.trans (by rw [none']; rfl)))

end

section
/-! SUPPORT. What serves the station's modes: the life state, the blend unit, the make-up unit, the hold unit, the delivered
loop and the peer table. Which commands write to it, and how a law about it is kept through a speed sample and the rest. -/

namespace Sys2Proof.Machine

/-! ## What the laws of modes and takes read -/

/-- All but the peer table. -/
def servingUnits (s : Station) : Life × CodePlug × Blend × MakeUp × Hold × Option LoopLevel :=
  (s.life, s.plug, s.blend, s.makeUp, s.hold, s.link.loop.delivered)

def serving (s : Station) : (Life × CodePlug × Blend × MakeUp × Hold × Option LoopLevel) × List Peer :=
  (servingUnits s, s.port.peers)

/-- The peer table is kept by own observations and fault reports. -/
theorem emission_peers (l : List Peer) : Emission fun s => s.port.peers = l where
  observe k c mu s h := by
    cases c with
    | none => exact h
    | some c => rw [observe, buildRail_self]; exact h
  report _ _ _ _ h := h
  reads h e := (congrArg (·.2.1) e).trans h

theorem serving_eq {s t : Station} (units : servingUnits t = servingUnits s) (peers : t.port.peers = s.port.peers) :
    serving t = serving s := Prod.ext units peers

theorem servingUnits_takeClear (id : BitVec 8) (g : Granularity) (s : Station) :
    servingUnits (takeClear id g s) = servingUnits s ∧ (takeClear id g s).port.peers = s.port.peers := by
  rw [takeClear_eq id s rfl]; exact ⟨rfl, rfl⟩

theorem serving_serviceClear (g : Granularity) (s : Station) : serving (serviceClear g s) = serving s := by
  unfold serviceClear
  simp only
  rw [takeClear_eq _ s rfl]
  rfl

theorem serving_contentionLost (s : Station) : serving (contentionLost s) = serving s := by
  unfold contentionLost
  split
  · rfl
  · rw [returnStatus_eq]; rfl
  · rw [returnClear_eq]; rfl
  · unfold returnRail
    simp only
    split
    · rw [withdrawRail_self]; rfl
    · rfl

theorem serving_frameSent (s : Station) : serving (frameSent s) = serving s := by
  unfold frameSent
  split
  · rfl
  · rfl
  · rfl
  · rw [buildRail_self]; rfl

theorem serving_lineFreeOffer (s : Station) : serving (lineFreeOffer s) = serving s := by
  unfold lineFreeOffer; split <;> rfl

/-- R185: a service command whose operation leaves the serving units. -/
theorem serving_taken {code : Byte} {r : Request} {f : Station → Station} {s : Station} (h : serving (f s) = serving s) :
    serving (taken code r f s) = serving s := by
  obtain e | ⟨q, e⟩ := taken_cases code r f s <;> rw [e]
  · exact h
  · rfl

theorem serving_whenRunning {f : Station → Station} {s : Station} (h : serving (f s) = serving s) :
    serving (whenRunning f s) = serving s := by
  unfold whenRunning
  split
  · exact h
  · rfl

theorem servingUnits_filled (r : Request) (s : Station) : servingUnits (filled r s) = servingUnits s := by
  unfold filled
  split
  · rename_i x _
    obtain ⟨_, save⟩ := requestSave_frame (takeFilled x (bytesAt r.args 1 2) s)
    obtain ⟨_, _, taken⟩ := takeFilled_frame x (bytesAt r.args 1 2) s
    rw [save, taken]
    rfl
  · rfl

theorem serving_plantSilence (u : PlantUnit) (s : Station) : serving (plantSilence u s) = serving s := by
  unfold plantSilence inverterSilence brakeSilence
  simp only
  split
  all_goals
    split
    · split <;> rfl
    · rfl

/-- The commands that may write to the serving units or the peer table. -/
def writesServing : Instr → Bool
  | .powerOnStart .. | .restart .. | .supplyLoss | .speedSample | .blendEvent | .demandArrival _ | .demandSilence
  | .statusArrival _ | .peerRecordSilent _ | .peerLost _ | .emergencyLoopDelivery | .shoeDownDelivery
  | .loweringTimerExpiry | .hillStartTimerExpiry | .escalationTimerExpiry | .trackBrakeReleaseExpiry | .standstill
  | .rollbackTimerExpiry | .parkTimerExpiry | .wheelMovementWake => true
  | _ => false

theorem serving_after {c : Instr} (hc : writesServing c = false) (z : Station) : serving (stationAfter c z) = serving z := by
  have peers (ho : writesOutgoing c = false) : (stationAfter c z).port.peers = z.port.peers :=
    (emission_peers z.port.peers).after ho rfl
  cases c with
  | powerOnStart | restart | supplyLoss | speedSample | blendEvent | demandArrival | demandSilence | statusArrival
  | peerRecordSilent | peerLost | emergencyLoopDelivery | shoeDownDelivery | loweringTimerExpiry | hillStartTimerExpiry
  | escalationTimerExpiry | trackBrakeReleaseExpiry | standstill | rollbackTimerExpiry | parkTimerExpiry
  | wheelMovementWake => cases hc
  | wheelSpeedEdge | sweep | statusBuild | slipHoldExpiry | hillStartSandingExpiry => exact serving_whenRunning rfl
  | sanderDecision =>
    obtain ⟨_, _, _, _, _, e⟩ := sanderDecision_frame z
    exact serving_whenRunning (serving_eq (by rw [e]; rfl) ((emission_peers z.port.peers).sanderDecision rfl))
  | railReportArrival f =>
    refine serving_whenRunning ?_
    unfold railReportArrival
    split
    · split
      · rfl
      · obtain ⟨_, e⟩ := railReport_frame _ z; rw [e]; rfl
    · rfl
  | mapClearArrival f =>
    refine serving_whenRunning ?_
    unfold mapClearArrival
    split
    · exact serving_eq (servingUnits_takeClear _ _ z).1 (servingUnits_takeClear _ _ z).2
    · rfl
  | contentionLost => exact serving_whenRunning (serving_contentionLost z)
  | frameSent => exact serving_whenRunning (serving_frameSent z)
  | lineFreeOffer => exact serving_whenRunning (serving_lineFreeOffer z)
  | statusSlotExpiry =>
    refine serving_whenRunning ?_
    unfold statusSlotExpiry
    split <;> rfl
  | outboxExpiry => exact serving_whenRunning (by rw [expireOutbox, dropFromOutbox_self]; rfl)
  | inverterReport b =>
    refine serving_whenRunning ?_
    unfold inverterReport
    split <;> rfl
  | brakeUnitReport b =>
    refine serving_whenRunning ?_
    unfold brakeReport
    split <;> rfl
  | plantSilenceExpiry u => exact serving_whenRunning (serving_plantSilence u z)
  | emergencyLoopChange l => exact (show serving (loopRaw l z) = serving z by unfold loopRaw; split <;> rfl)
  | shoeDownSensorChange l => exact (show serving (shoeRaw l z) = serving z by unfold shoeRaw; split <;> rfl)
  | storeWriteEnd =>
    refine serving_whenRunning ?_
    unfold storeWriteEnd
    split
    · rfl
    · simp only
      split <;> rfl
  | readStatus | readFaults | readMap | clearAllFaults | clearOverflow | badRequest =>
    exact serving_whenRunning (serving_taken rfl)
  | clearFault r =>
    refine serving_whenRunning (serving_taken ?_)
    unfold clearFault
    split <;> rfl
  | clearMap r =>
    refine serving_whenRunning (serving_taken ?_)
    unfold clearMap
    split
    · exact (serving_serviceClear _ z).trans rfl
    · rfl
  | filled r =>
    have kept : (filled r z).port.peers = z.port.peers := (emission_peers z.port.peers).filled r rfl
    exact serving_whenRunning (serving_taken (serving_eq (servingUnits_filled r z) kept))
  | writeCommissioning r =>
    refine serving_whenRunning (serving_taken ?_)
    unfold writeCommissioning
    simp only
    split <;> rfl
  | extrapolationBudgetSpent =>
    obtain ⟨_, _, e⟩ := budgetSpent_frame z
    exact serving_whenRunning (by rw [e]; rfl)
  | sensorSilenceExpiry x =>
    obtain ⟨_, _, _, e⟩ := silenceRow_frame x z
    exact serving_whenRunning (by rw [e]; rfl)
  | releaseTimerExpiry x =>
    obtain ⟨_, _, _, e⟩ := releaseRow_frame x z
    exact serving_whenRunning (by rw [e]; rfl)
  | trimStep x =>
    obtain ⟨_, e⟩ := trimExpiry_frame x z
    exact serving_whenRunning (by rw [e]; rfl)
  | calmTimerExpiry x =>
    obtain ⟨_, e⟩ := calmExpiry_frame x z
    exact serving_whenRunning (by rw [e]; rfl)
  | slipPersistent x =>
    obtain ⟨_, _, e⟩ := slipPersistent_frame x z
    exact serving_whenRunning (by rw [e]; rfl)
  | recoveryHoldExpiry x =>
    obtain ⟨_, e⟩ := recoveryHoldExpiry_frame x z
    exact serving_whenRunning (by rw [e]; rfl)
  | lockTimerExpiry x =>
    obtain ⟨_, e⟩ := lockExpiry_frame x z
    exact serving_whenRunning (by rw [e]; rfl)
  | wheelLock x =>
    obtain ⟨_, _, e⟩ := wheelLockExpiry_frame x z
    exact serving_whenRunning (by rw [e]; rfl)
  | reslipCeilingExpiry x =>
    obtain ⟨_, e⟩ := reslipExpiry_frame x z
    exact serving_whenRunning (by rw [e]; rfl)
  | deadReckoningLimit =>
    obtain ⟨_, _, _, _, e⟩ := deadReckoningLimit_frame z
    exact serving_whenRunning (by rw [e]; rfl)
  | pipeFull =>
    obtain ⟨_, _, _, e⟩ := pipeFull_frame _ z
    exact serving_whenRunning (serving_eq (by rw [e]; rfl) ((emission_peers z.port.peers).pipeFull _ rfl))
  | tailEmpty =>
    obtain ⟨_, e⟩ := tailEmpty_frame _ z
    exact serving_whenRunning (by rw [e]; rfl)
  | dutyLimit =>
    obtain ⟨_, e⟩ := dutyLimit_frame _ z
    exact serving_whenRunning (by rw [e]; rfl)
  | restExpiry =>
    obtain ⟨_, e⟩ := restExpiry_frame _ z
    exact serving_whenRunning (by rw [e]; rfl)
  | dosingPeriodStart =>
    obtain ⟨_, e⟩ := dosingPeriodStart_frame _ z
    exact serving_whenRunning (by rw [e]; rfl)
  | openTimeEnd =>
    obtain ⟨_, e⟩ := openTimeEnd_frame _ z
    exact serving_whenRunning (by rw [e]; rfl)
  | sandEmpty =>
    obtain ⟨_, _, e⟩ := sandEmpty_frame _ z
    exact serving_whenRunning (by rw [e]; rfl)

/-! ## ROLLBACK (R151) -/

/-- The station in ROLLBACK, before its standstill ends and it wakes. -/
def rolledBack (detail : FaultDetail) (s : Station) : Station :=
  { report .rollback none (some (if s.life = .parked then .parked else detail)) s with hold := { s.hold with
      state := .rollback, shown := .rollback, armed := false, levelPending := false, rollbackTime := none
      hillSince := none, stillTime := none, friction := s.hold.holdForce } }

/-- Start armed is clear after the announcement that standstill ended (notes/assumptions/13.md). -/
def disarm (s : Station) : Station := { s with hold := { s.hold with armed := false } }

theorem enterRollback_still {s : Station} (h : s.hold.standstill = true) (d : FaultDetail) :
    enterRollback d s = rouse (disarm (endStandstill (rolledBack d s))) := by
  unfold enterRollback
  exact congrArg rouse (congrArg disarm (if_pos h))

theorem enterRollback_moving {s : Station} (h : s.hold.standstill = false) (d : FaultDetail) :
    enterRollback d s = rouse (disarm (rolledBack d s)) := by
  unfold enterRollback
  exact congrArg rouse (congrArg disarm (if_neg (Bool.not_eq_true _ ▸ h)))

/-! ## A law of the serving units -/

/-- A law about the serving units, with the operations that write to them. -/
structure Serving (P : Station → Prop) : Prop where
  reads : ∀ {s t}, P s → serving t = serving s → P t
  evaluated : ∀ {s}, P s → P (beginStandstill s) ∧ P (endStandstill s)
  stillTimer : ∀ {s} (n : Option Nat), P s → P { s with hold := { s.hold with stillTime := n } }
  rollbackTimer : ∀ {s} (n : Option Nat), P s → P { s with hold := { s.hold with rollbackTime := n } }
  rollback : ∀ {s} (d : FaultDetail), P s → P (enterRollback d s)
  rules : ∀ {s} (b : Bool), P s → P (holdPublish (parkTest (hillSample (levelStart b (releaseForward s)))))
  park : ∀ {s}, P s → P (parkExpiry s)
  hillExpiry : ∀ {s}, P s → P (hillStartExpiry s)
  loop : ∀ {s}, P s → P (loopDelivery s)
  demand : ∀ {s} (cab : CabEnd) (arrived : Station), P s → serving arrived = serving s →
    P (demandWake (evaluate true (settleGoverning cab arrived)))
  silence : ∀ {s} (silent : Station), P s →
    serving silent = serving { s with blend := { s.blend with governing := none, conflict := false } } →
    P (evaluate false silent)
  blend : ∀ {s}, P s → P (blendEvent s)
  trackBrake : ∀ {s}, P s → P (escalationExpiry s) ∧ P (mtbReleaseExpiry s) ∧ P (loweringExpiry s) ∧ P (shoeDelivery s)
  withdraws : ∀ {s}, P s → P (withdrawUnit s)
  accept : ∀ {s} (n : Nat) (c : StatusContent) (q : BitVec 8), P s → P (acceptStatus n c q s)
  silent : ∀ {s} (n : Nat), P s → P (peerSilent n s)
  lost : ∀ {s} (n : Nat), P s → P (peerLost n s)
  supply : ∀ {s}, P s → P (supplyLoss s)
  start : ∀ i, P (startUnits i)

namespace Serving

variable {P : Station → Prop}

theorem via (e : Serving P) {s t : Station} (eq : serving t = serving s) (h : P s) : P t := e.reads h eq

theorem announced (e : Serving P) {f : Station → Station} {s : Station} (h : P (f s)) : P (announced f s) := by
  obtain ⟨-, eq⟩ | ⟨-, eq⟩ := announced_cases f s
  · rw [eq]; exact h
  · rw [eq]; exact e.reads h rfl

theorem standstillExpiry (e : Serving P) {s : Station} (h : P s) : P (standstillExpiry s) := by
  unfold Machine.standstillExpiry
  split
  · exact (e.evaluated h).1
  · exact h

theorem wheelWake (e : Serving P) {s : Station} (h : P s) : P (wheelWake s) := by
  unfold Machine.wheelWake
  split
  · exact e.rollback _ h
  · exact h

theorem rollbackExpiry (e : Serving P) {s : Station} (h : P s) : P (rollbackExpiry s) := by
  unfold Machine.rollbackExpiry
  split
  · exact e.rollback _ h
  · exact h

/-- R141: the hold unit's part of a sample. -/
theorem holdSample (e : Serving P) {s : Station} (h : P s) : P (holdSample s) := by
  have still : P (stillTest s) := by
    unfold stillTest
    simp only
    split
    · exact e.standstillExpiry (e.stillTimer _ h)
    · split
      · exact (e.evaluated h).2
      · exact e.stillTimer _ h
  have rolled {t : Station} (h : P t) : P (rollbackTest t) := by
    have timed (n : Option Nat) := e.rollbackExpiry (e.rollbackTimer n h)
    unfold rollbackTest peerRollback
    simp only
    split
    · split
      · exact e.rollback _ (timed _)
      · exact timed _
    · exact timed _
  exact e.rules _ (rolled (e.wheelWake still))

theorem serving_measure (s : Station) : serving (measure s) = serving s := by
  obtain ⟨_, _, _, _, eq⟩ := measure_frame s; rw [eq]; rfl

theorem serving_moveReference (s : Station) : serving (moveReference s) = serving s := by
  obtain ⟨_, _, eq⟩ := moveReference_frame s; rw [eq]; rfl

theorem serving_learnSample (x : Axle) (s : Station) : serving (learnSample x s) = serving s := by
  obtain ⟨_, eq⟩ := learnSample_frame x s; rw [eq]; rfl

theorem serving_positionSample (s : Station) : serving (positionSample s) = serving s := by
  obtain ⟨_, _, _, _, eq⟩ := positionSample_frame s; rw [eq]; rfl

theorem serving_creepSample (b : Bool) (s : Station) : serving (creepSample b s) = serving s := by
  obtain ⟨_, _, _, _, _, _, _, _, eq⟩ := creepSample_frame b s
  exact serving_eq (by rw [eq]; rfl) ((emission_peers s.port.peers).creepSample b rfl)

theorem serving_orders (s : Station) : serving (sendOrders (flagCandidates s)) = serving s := rfl

theorem serving_positionDemand (c : CabEnd) (d : DemandContent) (s : Station) :
    serving (positionDemand c d s) = serving s := by
  obtain ⟨_, _, _, _, _, eq⟩ := positionDemand_frame c d s; rw [eq]; rfl

theorem serving_deadReckon (s : Station) : serving (deadReckon s) = serving s := by
  obtain ⟨_, _, eq⟩ := deadReckon_frame s; rw [eq]; rfl

/-- R5: of the steps of a sample the hold unit's alone writes to the serving units. -/
theorem speedSample (e : Serving P) {s : Station} (h : P s) : P (speedSample s) := by
  have clocked : P { s with lastSample := s.time } := e.reads h rfl
  have judged : P (judge (measure { s with lastSample := s.time })) :=
    e.holdSample (e.via (serving_positionSample _) (e.via (serving_learnSample .b _) (e.via (serving_learnSample .a _)
      (e.via (serving_moveReference _) (e.via (serving_measure _) clocked)))))
  refine e.announced ?_
  unfold sampleSteps command
  exact e.via (serving_orders _) (e.via (serving_creepSample _ _) judged)

theorem serving_blend_governing (cab : CabEnd) (s : Station) : ∃ g k, serving (settleGoverning cab s) =
    serving { s with blend := { s.blend with governing := g, conflict := k } } := by
  unfold settleGoverning
  split
  · simp only
    split <;> exact ⟨_, _, rfl⟩
  all_goals exact ⟨_, _, rfl⟩

theorem demandWake_congr {s t : Station} (hp : t.blend.governing = s.blend.governing) :
    (demandWake t = t ∧ demandWake s = s) ∨ (demandWake t = wake t ∧ demandWake s = wake s) := by
  unfold demandWake
  rw [hp]
  split
  · split
    · exact .inl ⟨rfl, rfl⟩
    · exact .inr ⟨rfl, rfl⟩
  · exact .inl ⟨rfl, rfl⟩

theorem serving_wake (s : Station) : serving (wake s) = ((if s.life = .parked then .run else s.life, (servingUnits s).2),
    s.port.peers) := by
  have roused : serving (rouse s) = ((if s.life = .parked then .run else s.life, (servingUnits s).2), s.port.peers) := by
    unfold rouse
    split <;> rfl
  rw [← roused]
  obtain ⟨-, eq⟩ | ⟨-, eq⟩ := announced_cases rouse s <;> rw [wake, eq]; rfl

/-- R155, R161: the wake of a DEMAND arrival reads the serving units. -/
theorem serving_demandWake {s t : Station} (h : serving t = serving s) : serving (demandWake t) = serving (demandWake s) := by
  have governing : t.blend.governing = s.blend.governing := congrArg (·.1.2.2.1.governing) h
  obtain ⟨et, es⟩ | ⟨et, es⟩ := demandWake_congr governing
  · rw [et, es]; exact h
  · have life : t.life = s.life := congrArg (·.1.1) h
    have units : (servingUnits t).2 = (servingUnits s).2 := congrArg (·.1.2) h
    have peers : t.port.peers = s.port.peers := congrArg (·.2) h
    rw [et, es, serving_wake, serving_wake, life, units, peers]

theorem demandArrival (e : Serving P) (f : Frame) {s : Station} (h : P s) : P (demandArrival f s) := by
  unfold Machine.demandArrival
  split
  · rename_i cab d _
    split
    · exact h
    · exact e.reads (e.demand cab (recordDemand cab d f.sequence s) h rfl) (serving_demandWake (serving_positionDemand _ _ _))
  · exact h

theorem demandSilence (e : Serving P) {s : Station} (h : P s) : P (demandSilence s) := by
  unfold Machine.demandSilence announceSilence
  simp only
  split
  · refine e.via (serving_deadReckon _) ?_
    split
    · exact e.silence _ h rfl
    · exact e.silence _ h rfl
  · exact h

theorem statusArrival (e : Serving P) (f : Frame) {s : Station} (h : P s) : P (statusArrival f s) := by
  unfold Machine.statusArrival
  split
  · split
    · unfold duplicate
      split
      · exact h
      · exact e.withdraws (e.reads h rfl)
    · split
      · exact h
      · exact e.accept _ _ _ h
  · exact h

theorem enterRun (e : Serving P) (comm run : EccFinding) (i : StartInput) : P (enterRun comm run i) := by
  have store (k : FaultKind) (a b : Bool) (s : Station) : serving (reportStore k a b s) = serving s := by
    unfold reportStore; split <;> rfl
  exact e.reads (e.via (store _ _ _ _) (e.via (store _ _ _ _) (e.start i))) rfl

/-- A law of the serving units is kept by every command. -/
theorem after (e : Serving P) (c : Instr) {z : Station} (h : P z) : P (stationAfter c z) := by
  by_cases hc : writesServing c = false
  · exact e.via (serving_after hc z) h
  cases c with
  | powerOnStart => exact e.enterRun _ _ _
  | restart =>
    refine whenRunning_keeps h fun h => taken_keeps (fun _ _ hs => e.reads hs rfl) h fun h => ?_
    unfold serviceRestart
    split
    · exact e.reads h rfl
    · exact e.reads (e.enterRun _ _ _) rfl
  | supplyLoss => exact e.supply h
  | speedSample => exact whenRunning_keeps h e.speedSample
  | blendEvent => exact whenRunning_keeps h e.blend
  | demandArrival f => exact whenRunning_keeps h (e.demandArrival f)
  | demandSilence => exact whenRunning_keeps h e.demandSilence
  | statusArrival f => exact whenRunning_keeps h (e.statusArrival f)
  | peerRecordSilent n => exact whenRunning_keeps h (e.silent n)
  | peerLost n => exact whenRunning_keeps h (e.lost n)
  | emergencyLoopDelivery => exact whenRunning_keeps h e.loop
  | shoeDownDelivery => exact whenRunning_keeps h fun h => (e.trackBrake h).2.2.2
  | loweringTimerExpiry => exact whenRunning_keeps h fun h => (e.trackBrake h).2.2.1
  | escalationTimerExpiry => exact whenRunning_keeps h fun h => (e.trackBrake h).1
  | trackBrakeReleaseExpiry => exact whenRunning_keeps h fun h => (e.trackBrake h).2.1
  | hillStartTimerExpiry => exact whenRunning_keeps h e.hillExpiry
  | standstill => exact whenRunning_keeps h e.standstillExpiry
  | rollbackTimerExpiry => exact whenRunning_keeps h fun h => e.announced (e.rollbackExpiry h)
  | parkTimerExpiry => exact whenRunning_keeps h fun h => e.announced (e.park h)
  | wheelMovementWake => exact whenRunning_keeps h fun h => e.announced (e.wheelWake h)
  | _ => exact absurd rfl hc

/-- A law of the serving units is kept by every step. -/
theorem step (e : Serving P) {s t : State} (h : P s.station) (hs : Machine.step s = .next t) : P t.station := by
  have clock (s : Station) : serving (passMicro s) = serving s := by
    obtain ⟨_, _, _, eq⟩ := passMicro_frame s; rw [eq]; rfl
  exact step_keeps (fun s hs => e.via (clock s) hs) (fun c _ h => e.after c h) h hs

end Serving

end Sys2Proof.Machine
end

section
/-! SUPPORT. The law of the takes (R130, R133, R135, R136), kept by an evaluation, a blend event and the peer table. -/

namespace Sys2Proof.Machine

/-! ## The peers that match -/

theorem mem_matchingPeers {s : Station} {n : Nat} {c : StatusContent} : (n, c) ∈ matchingPeers s ↔
    n < 8 ∧ freshContent (peerAt s n) = some c ∧ senseOf c.served = effortSense s ∧ effortSense s ≠ .none := by
  simp only [matchingPeers, freshPeers, List.mem_filter, List.mem_filterMap, List.mem_range, Option.map_eq_some_iff,
    Prod.mk.injEq, Bool.and_eq_true, beq_iff_eq, bne_iff_ne]
  constructor
  · rintro ⟨⟨m, hm, c', hc, rfl, rfl⟩, hsense, hne⟩
    exact ⟨hm, hc, hsense, hne⟩
  · rintro ⟨hn, hc, hsense, hne⟩
    exact ⟨⟨n, hn, c, hc, rfl, rfl⟩, hsense, hne⟩

theorem freshContent_state {p : Peer} {c : StatusContent} (h : freshContent p = some c) : p.state = .fresh := by
  unfold freshContent at h
  by_contra hs
  rw [if_neg hs] at h
  cases h

theorem peerAt_setPeer_ne {n m : Nat} (h : m ≠ n) (p : Peer) (s : Station) : peerAt (setPeer n p s) m = peerAt s m := by
  simp [peerAt, setPeer, List.getD_eq_getElem?_getD, List.getElem?_set_ne (Ne.symm h)]

/-- The table holds the record of a peer that is FRESH. -/
theorem peerAt_setPeer_fresh {n : Nat} {s : Station} (h : (peerAt s n).state = .fresh) (p : Peer) :
    peerAt (setPeer n p s) n = p := by
  have inside : n < s.port.peers.length := by
    by_contra hn
    have absent : peerAt s n = ⟨.absent, none⟩ := List.getD_eq_default _ _ (Nat.le_of_not_lt hn)
    rw [absent] at h
    cases h
  simp [peerAt, setPeer, List.getD_eq_getElem?_getD, List.getElem?_set_self inside]

/-! ## The law -/

theorem takesLaw_congr {s t : Station} (h : TakesLaw s) (makeUp : t.makeUp = s.makeUp)
    (served : t.blend.served = s.blend.served) (peers : t.port.peers = s.port.peers) : TakesLaw t := by
  have matching : matchingPeers t = matchingPeers s := by
    unfold matchingPeers freshPeers peerAt effortSense; rw [served, peers]
  unfold TakesLaw
  rw [makeUp, matching]
  exact h

theorem amounts_lapseWhere (p : Take → Bool) (l : List Take) : (lapseWhere p l).map (·.amount) = l.map (·.amount) := by
  rw [lapseWhere, List.map_map]
  refine List.map_congr_left fun t _ => ?_
  simp only [Function.comp_apply]
  split <;> rfl

theorem applied_of_mem_lapseWhere {p : Take → Bool} {l : List Take} {t : Take} (h : t ∈ lapseWhere p l)
    (ha : t.applied = true) : t ∈ l ∧ p t = false := by
  obtain ⟨k, hk, rfl⟩ := List.mem_map.mp h
  by_cases hp : p k = true
  · simp [hp] at ha
  · rw [if_neg hp] at ha ⊢
    exact ⟨hk, by simpa using hp⟩

/-- R133 to R136: takes lapse, and every one that stays APPLIED still stands on a matching short peer. -/
theorem takesLaw_lapse {s t : Station} {p : Take → Bool} (h : TakesLaw s) (spare : t.makeUp.spare = s.makeUp.spare)
    (takes : t.makeUp.takes = lapseWhere p s.makeUp.takes)
    (stays : ∀ k ∈ s.makeUp.takes, k.applied = true → p k = false →
      ∃ c, (k.peer, c) ∈ matchingPeers t ∧ c.generation = k.generation ∧ 0 < shortfallOf c) : TakesLaw t := by
  refine ⟨?_, fun k hk ha => ?_⟩
  · rw [takes, spare, amounts_lapseWhere]; exact h.1
  · rw [takes] at hk
    obtain ⟨mem, keeps⟩ := applied_of_mem_lapseWhere hk ha
    exact stays k mem ha keeps

/-- R136: an evaluation that changes the effort sense lapses every take. -/
theorem takesLaw_evaluate (arrival : Bool) {s : Station} (h : TakesLaw s) : TakesLaw (evaluate arrival s) := by
  have port : (evaluate arrival s).port = s.port := by obtain ⟨_, _, _, _, e⟩ := evaluate_frame arrival s; rw [e]
  by_cases hsense : effortSense (evaluate arrival s) = effortSense s
  · have makeUp : (evaluate arrival s).makeUp = s.makeUp := (evaluate_same_sense hsense).2
    have matching : matchingPeers (evaluate arrival s) = matchingPeers s := by
      unfold matchingPeers freshPeers peerAt; rw [hsense, port]
    unfold TakesLaw
    rw [makeUp, matching]
    exact h
  · have lapsed : (evaluate arrival s).makeUp = (lapseAll s).makeUp := by
      rw [(evaluate_demands arrival s).2, senseRespond, if_neg (effortSense_evaluate arrival s ▸ hsense)]; rfl
    refine takesLaw_lapse (p := fun _ => true) h (by rw [lapsed]; rfl) (by rw [lapsed]; rfl) fun _ _ _ ht => by cases ht

theorem takesLaw_wake {s : Station} (h : TakesLaw s) : TakesLaw (wake s) := by
  have kept := Serving.serving_wake s
  exact takesLaw_congr h (congrArg (·.1.2.2.2.1) kept) (congrArg (·.1.2.2.1.served) kept) (congrArg (·.2) kept)

/-! ## STATUS arrivals and the ageing of records (R133, R135, R163, R164) -/

/-- A take on another peer than the one whose record is replaced stands as it did. -/
theorem matching_other {s t : Station} {n m : Nat} {p : Peer} {c : StatusContent} (hne : m ≠ n)
    (peers : t.port.peers = (setPeer n p s).port.peers) (served : t.blend.served = s.blend.served)
    (h : (m, c) ∈ matchingPeers s) : (m, c) ∈ matchingPeers t := by
  have record : peerAt t m = peerAt s m := by
    rw [← peerAt_setPeer_ne hne p s]; unfold peerAt; rw [peers]
  have sense : effortSense t = effortSense s := by unfold effortSense; rw [served]
  rw [mem_matchingPeers] at h ⊢
  rwa [record, sense]

/-- A take stands on a FRESH peer alone. -/
theorem fresh_of_applied {s : Station} {n : Nat} {c : StatusContent} (h : (n, c) ∈ matchingPeers s) :
    (peerAt s n).state = .fresh := freshContent_state (mem_matchingPeers.mp h).2.1

/-- R133: a take that the arriving content does not show out of date. -/
theorem outdated_eq_false {s : Station} {c : StatusContent} {t : Take} (h : outdated s c t = false) :
    c.generation = t.generation ∧ 0 < shortfallOf c ∧ senseOf c.served = effortSense s ∧ senseOf c.served ≠ .none := by
  simp only [outdated, Bool.or_eq_false_iff, bne_eq_false_iff_eq, beq_eq_false_iff_ne] at h
  obtain ⟨⟨⟨generation, short⟩, sense⟩, none'⟩ := h
  exact ⟨generation, Nat.pos_of_ne_zero short, sense, none'⟩

/-- The takes of an accepted STATUS: those on its sender lapse when outdated, or when it parks. -/
theorem acceptStatus_takes (n : Nat) (c : StatusContent) (q : BitVec 8) (s : Station) : ∃ p,
    acceptStatus n c q s = { s with
      port := (setPeer n ⟨if c.parked then .parked else .fresh, some ⟨c, s.time, q⟩⟩ s).port
      makeUp := { s.makeUp with takes := lapseWhere p s.makeUp.takes } } ∧
    ∀ k, p k = false → k.peer = n → outdated s c k = false ∧ ((peerAt s n).state = .fresh → c.parked = false) := by
  unfold acceptStatus lapseOutdated lapseOn
  simp only
  split
  · refine ⟨fun k => k.peer == n && outdated s c k || k.peer == n, ?_, fun k hk hn => ?_⟩
    · have twice : lapseWhere (fun t => t.peer == n) (lapseWhere (fun t => t.peer == n && outdated s c t) s.makeUp.takes) =
          lapseWhere (fun k => k.peer == n && outdated s c k || k.peer == n) s.makeUp.takes := by
        rw [lapseWhere, lapseWhere, lapseWhere, List.map_map]
        refine List.map_congr_left fun t _ => ?_
        by_cases hp : t.peer = n
        · cases hout : outdated s c t <;> simp [hp, hout]
        · simp [hp]
      exact congrArg (fun l => ({ s with
        port := (setPeer n ⟨if c.parked then .parked else .fresh, some ⟨c, s.time, q⟩⟩ s).port
        makeUp := { s.makeUp with takes := l } } : Station)) twice
    · simp [hn] at hk
  · rename_i hstays
    refine ⟨fun k => k.peer == n && outdated s c k, rfl, fun k hk hn => ⟨by simpa [hn] using hk, fun hf => ?_⟩⟩
    by_contra hparked
    exact hstays ⟨hf, by simpa using hparked⟩

theorem takesLaw_acceptStatus (n : Nat) (c : StatusContent) (q : BitVec 8) {s : Station} (h : TakesLaw s) :
    TakesLaw (acceptStatus n c q s) := by
  obtain ⟨p, e, current⟩ := acceptStatus_takes n c q s
  rw [e]
  refine takesLaw_lapse h rfl rfl fun k hk ha hp => ?_
  obtain ⟨former, matched, generation, short⟩ := h.2 k hk ha
  by_cases hn : k.peer = n
  · obtain ⟨fits, parks⟩ := current k hp hn
    have fresh : (peerAt s n).state = .fresh := hn ▸ fresh_of_applied matched
    obtain ⟨generation', short', sense, none'⟩ := outdated_eq_false fits
    refine ⟨c, mem_matchingPeers.mpr ⟨(mem_matchingPeers.mp matched).1, ?_, sense, sense ▸ none'⟩, generation', short'⟩
    have record := peerAt_setPeer_fresh fresh ⟨if c.parked then .parked else .fresh, some ⟨c, s.time, q⟩⟩
    rw [parks fresh] at record ⊢
    rw [hn]
    exact (congrArg freshContent record).trans rfl
  · exact ⟨former, matching_other hn rfl rfl matched, generation, short⟩

theorem takesLaw_peerSilent (n : Nat) {s : Station} (h : TakesLaw s) : TakesLaw (peerSilent n s) := by
  unfold peerSilent
  split
  · refine takesLaw_lapse (p := fun t => t.peer == n) h rfl rfl fun k hk ha hp => ?_
    obtain ⟨c, matched, generation, short⟩ := h.2 k hk ha
    exact ⟨c, matching_other (by simpa using hp) rfl rfl matched, generation, short⟩
  · exact h

theorem lostDue_not_fresh {s : Station} {n : Nat} (h : lostDue s n = true) : (peerAt s n).state ≠ .fresh := by
  intro hf
  simp [lostDue, hf] at h

theorem takesLaw_peerLost (n : Nat) {s : Station} (h : TakesLaw s) : TakesLaw (peerLost n s) := by
  unfold peerLost
  split
  · rename_i due
    refine ⟨h.1, fun k hk ha => ?_⟩
    obtain ⟨c, matched, generation, short⟩ := h.2 k hk ha
    have other : k.peer ≠ n := fun hn => lostDue_not_fresh due (hn ▸ fresh_of_applied matched)
    exact ⟨c, matching_other other rfl rfl matched, generation, short⟩
  · exact h

/-! ## The blend event (R129 to R132) -/

theorem shortfall_of_take {spare q t : Nat} {c : StatusContent} (h : takeAmount spare q t c ≠ 0) : 0 < shortfallOf c := by
  refine Nat.pos_of_ne_zero fun zero => h ?_
  have := takeAmount_le spare q t c
  rw [zero, Nat.zero_mul, Nat.zero_div] at this
  exact Nat.le_zero.mp this

theorem takesLaw_blendEvent (s : Station) : TakesLaw (blendEvent s) := by
  obtain ⟨f, formed, -, -, -, -, -, peers, -⟩ := blendEvent_makeUp s
  have matching : matchingPeers (blendEvent s) = matchingPeers f := (matchingPeers_blendEvent s).trans peers.symm
  unfold TakesLaw
  rw [formed, matching]
  rcases em (f.makeUp.withdrawn = true ∨ ¬TakesPart f) with idle | active
  · obtain ⟨standing, esc, e⟩ := makeUpStep_idle idle
    rw [e, idleStep_makeUp]
    exact ⟨le_rfl, fun _ hk => by cases hk⟩
  · obtain ⟨hw, hp⟩ := not_or.mp active
    rw [makeUpStep_active (Bool.eq_false_of_not_eq_true hw) (not_not.mp hp), activeStep_makeUp rfl]
    refine ⟨sum_formTakes_le _ _, fun k hk _ => ?_⟩
    obtain ⟨-, positive, c, mem, generation, amount⟩ := (mem_formTakes _ _ k).mp hk
    exact ⟨c, mem, generation.symm, shortfall_of_take (amount ▸ positive)⟩

/-! ## The law through the commands -/

theorem serving_takesLaw : Serving TakesLaw where
  reads h e := takesLaw_congr h (congrArg (·.1.2.2.2.1) e) (congrArg (·.1.2.2.1.served) e) (congrArg (·.2) e)
  evaluated {s} h := by
    refine ⟨?_, takesLaw_evaluate _ h⟩
    unfold beginStandstill
    simp only
    obtain ⟨_, _, _, _, _, e⟩ := takePending_frame (evaluate false
      (if ({ s with hold := { s.hold with standstill := true } } : Station).hold.state = .rollback then
        endRollback { s with hold := { s.hold with standstill := true } }
      else { s with hold := { s.hold with standstill := true } }))
    rw [e]
    refine takesLaw_congr (takesLaw_evaluate false ?_) rfl rfl rfl
    split <;> exact h
  stillTimer _ h := h
  rollbackTimer _ h := h
  rollback {s} d h := by
    have roused {t : Station} (h : TakesLaw t) : TakesLaw (rouse t) := by
      obtain ⟨_, e⟩ := rouse_frame t; rw [e]; exact h
    have disarmed {t : Station} (h : TakesLaw t) : TakesLaw (disarm t) := h
    have ended {t : Station} (h : TakesLaw t) : TakesLaw (endStandstill t) := takesLaw_evaluate false h
    have rolled : TakesLaw (rolledBack d s) := h
    cases still : s.hold.standstill with
    | true =>
      rw [enterRollback_still still]
      exact roused (disarmed (ended rolled))
    | false =>
      rw [enterRollback_moving still]
      exact roused (disarmed rolled)
  rules {s} b h := by
    have released : TakesLaw (releaseForward s) := by obtain ⟨_, _, e⟩ := releaseForward_frame s; rw [e]; exact h
    have level : TakesLaw (levelStart b (releaseForward s)) := by
      obtain ⟨_, e⟩ := levelStart_frame b (releaseForward s); rw [e]; exact released
    have hill : TakesLaw (hillSample (levelStart b (releaseForward s))) := by
      obtain ⟨_, e⟩ := hillSample_frame (levelStart b (releaseForward s)); rw [e]; exact level
    obtain ⟨_, _, _, _, e⟩ := parkTest_frame (hillSample (levelStart b (releaseForward s)))
    rw [e]
    exact hill
  park {s} h := by obtain ⟨_, _, _, _, e⟩ := parkExpiry_frame s; rw [e]; exact h
  hillExpiry {s} h := by obtain ⟨_, _, e⟩ := hillStartExpiry_frame s; rw [e]; exact h
  loop {s} h := by
    unfold loopDelivery
    split
    · exact takesLaw_wake (takesLaw_evaluate false (takesLaw_congr h rfl rfl rfl))
    · exact h
  demand {s} cab arrived h e := by
    obtain ⟨g, k, settled⟩ := Serving.serving_blend_governing cab arrived
    have law : TakesLaw (settleGoverning cab arrived) := takesLaw_congr h
      ((congrArg (·.1.2.2.2.1) settled).trans (congrArg (·.1.2.2.2.1) e))
      ((congrArg (·.1.2.2.1.served) settled).trans (congrArg (·.1.2.2.1.served) e))
      ((congrArg (·.2) settled).trans (congrArg (·.2) e))
    unfold demandWake
    split
    · split
      · exact takesLaw_evaluate true law
      · exact takesLaw_wake (takesLaw_evaluate true law)
    · exact takesLaw_evaluate true law
  silence silent h e := takesLaw_evaluate false (takesLaw_congr h
    ((congrArg (·.1.2.2.2.1) e).trans rfl) ((congrArg (·.1.2.2.1.served) e).trans rfl) ((congrArg (·.2) e).trans rfl))
  blend {s} _ := takesLaw_blendEvent s
  trackBrake {s} h := by
    have served {b : Blend} (hb : b.served = s.blend.served) : TakesLaw { s with blend := b } := takesLaw_congr h rfl hb rfl
    refine ⟨?_, ?_, ?_, ?_⟩
    · unfold escalationExpiry
      split
      · exact served rfl
      · exact h
    · unfold mtbReleaseExpiry
      split
      · exact served rfl
      · exact h
    · unfold loweringExpiry
      split
      · split
        · exact served rfl
        · exact h
      · exact h
    · have delivered (l : ShoeLevel) {t : Station} (h : TakesLaw t) : TakesLaw (shoeDelivered l t) := by
        unfold shoeDelivered
        split
        all_goals exact h
      unfold shoeDelivery
      simp only
      split
      · split
        · exact delivered _ h
        · exact h
      · exact h
  withdraws _ := ⟨Nat.zero_le _, fun _ hk => by cases hk⟩
  accept n c q h := takesLaw_acceptStatus n c q h
  silent n h := takesLaw_peerSilent n h
  lost n h := takesLaw_peerLost n h
  supply h := h
  start _ := ⟨le_rfl, fun _ hk => by cases hk⟩

end Sys2Proof.Machine

open Sys2Proof Sys2Proof.Machine

/-- Settles O58: a blend event forms the takes within its spare on matching short peers, and whatever takes a peer or the own
effort sense out of the match lapses them. -/
theorem takesLawKept : Obligations.TakesLawKept := fun _ _ h hs => serving_takesLaw.step h hs

end

section
/-! SUPPORT. The laws of the modes, of the hold states and of the track brake (R106 to R110, R119, R120, R145 to R154). -/

namespace Sys2Proof.Machine

/-! ## Modes (R106 to R110) -/

/-- The law of the modes reads the delivered loop, the request and the modes, and the standstill. -/
theorem modeLaw_congr {s t : Station} (h : ModeLaw s) (loop : t.link.loop.delivered = s.link.loop.delivered)
    (blend : t.blend = s.blend) (still : t.hold.standstill = s.hold.standstill) : ModeLaw t := by
  unfold ModeLaw; rw [loop, blend, still]; exact h

theorem evaluate_standstill (arrival : Bool) (s : Station) : (evaluate arrival s).hold.standstill = s.hold.standstill := by
  have respond (t : Station) : (holdRespond t).hold.standstill = t.hold.standstill := by
    unfold holdRespond holdDrive holdNoDrive
    simp only
    repeat' split
    all_goals rfl
  rw [evaluate_eq, respond, (evaluated_unread arrival s).1]

theorem evaluate_governing (arrival : Bool) (s : Station) : (evaluate arrival s).blend.governing = s.blend.governing := by
  obtain ⟨_, _, _, _, _, _, _, h⟩ := evaluated_frame arrival s
  rw [evaluate_blend, h]; rfl

theorem requestedMode_congr {b c : Blend} (h : b.governing = c.governing) : requestedMode b = requestedMode c := by
  unfold requestedMode; rw [h]

theorem nextEffMode_eq (s : Station) : nextEffMode s = .emergency ∨ nextEffMode s = requestedMode s.blend := by
  unfold nextEffMode requestedMode
  split
  · exact .inl rfl
  · split
    · exact .inl rfl
    · exact .inr (by cases s.blend.governing <;> rfl)

/-- R109: re-arm stays NEEDED in a loss mode, and becomes so at its entry. -/
theorem nextRearm_loss {arrival : Bool} {b : Blend} {m : EffMode} (h : lossMode b.effMode = true → b.rearm = true)
    (hm : lossMode m = true) : nextRearm arrival b m = true := by
  by_cases hne : m = b.effMode
  · subst hne
    simp [nextRearm, hm, h hm]
  · exact nextRearm_entry arrival hm hne

/-- R106: an evaluation gives the modes their law, where re-arm followed its own. -/
theorem modeLaw_evaluate (arrival : Bool) {s : Station} (h : lossMode s.blend.effMode = true → s.blend.rearm = true) :
    ModeLaw (evaluate arrival s) := by
  have loop : (evaluate arrival s).link = s.link := by obtain ⟨_, _, _, _, e⟩ := evaluate_frame arrival s; rw [e]
  have requested : requestedMode (evaluate arrival s).blend = requestedMode s.blend :=
    requestedMode_congr (evaluate_governing arrival s)
  refine ⟨fun isOpen => ?_, ?_, fun loss => ?_, ?_, ?_⟩
  · rw [loop, ← loopIsOpen_iff] at isOpen
    rw [evaluate_effMode]
    exact nextEffMode_emergency (.inl isOpen)
  · rw [requested, evaluate_effMode]; exact nextEffMode_eq s
  · rw [evaluate_rearm]; exact nextRearm_loss h loss
  · rw [evaluate_standstill]; exact evaluate_served arrival s
  · rw [evaluate_standstill, evaluate_governing]; exact evaluate_accel arrival s

theorem modeLaw_rearm {s : Station} (h : ModeLaw s) : lossMode s.blend.effMode = true → s.blend.rearm = true := h.2.2.1

theorem modeLaw_rouse {s : Station} (h : ModeLaw s) : ModeLaw (rouse s) := by
  obtain ⟨_, e⟩ := rouse_frame s; rw [e]; exact h

theorem modeLaw_wake {s : Station} (h : ModeLaw s) : ModeLaw (wake s) := by
  obtain ⟨_, _, e⟩ := wake_frame s; rw [e]; exact h

theorem modeLaw_endStandstill {s : Station} (h : ModeLaw s) : ModeLaw (endStandstill s) :=
  modeLaw_evaluate false (by exact modeLaw_rearm (s := s) h)

/-- The station that stands, out of ROLLBACK, before the evaluation. -/
def stood (s : Station) : Station :=
  if s.hold.state = .rollback then endRollback { s with hold := { s.hold with standstill := true } }
  else { s with hold := { s.hold with standstill := true } }

theorem beginStandstill_eq (s : Station) : beginStandstill s = takePending (evaluate false (stood s)) := rfl

theorem stood_rollback {s : Station} (h : s.hold.state = .rollback) : stood s = { s with hold := { s.hold with
    standstill := true, shown := .holding, state := .holding, friction := s.hold.holdForce, hillSince := none } } := if_pos h

theorem stood_other {s : Station} (h : s.hold.state ≠ .rollback) :
    stood s = { s with hold := { s.hold with standstill := true } } := if_neg h

theorem stood_frame (s : Station) : ∃ h, stood s = { s with hold := h } := by
  unfold stood
  split <;> exact ⟨_, rfl⟩

theorem modeLaw_beginStandstill {s : Station} (h : ModeLaw s) : ModeLaw (beginStandstill s) := by
  obtain ⟨_, _, _, _, _, taken⟩ := takePending_frame (evaluate false (stood s))
  obtain ⟨_, standing⟩ := stood_frame s
  have evaluated : ModeLaw (evaluate false (stood s)) := modeLaw_evaluate false (by rw [standing]; exact modeLaw_rearm (s := s) h)
  rw [beginStandstill_eq, taken]
  exact evaluated

theorem modeLaw_releaseForward {s : Station} (h : ModeLaw s) : ModeLaw (releaseForward s) := by
  unfold releaseForward
  split
  · exact modeLaw_rouse h
  · exact h

theorem modeLaw_levelStart (b : Bool) {s : Station} (h : ModeLaw s) : ModeLaw (levelStart b s) := by
  unfold levelStart
  split <;> exact h

theorem modeLaw_hillSample {s : Station} (h : ModeLaw s) : ModeLaw (hillSample s) := by
  have handed : ModeLaw (handOver s) := by
    unfold handOver
    split <;> exact h
  unfold hillSample
  simp only
  split
  · split <;> exact handed
  · exact h

theorem modeLaw_enterParked {s : Station} (h : ModeLaw s) : ModeLaw (enterParked s) := by
  unfold enterParked
  obtain ⟨_, e⟩ := requestSave_frame { s with
    life := .parked
    hold := { s.hold with parkTime := none }
    axles := ⟨{ s.axles.a with wakeEdges := [] }, { s.axles.b with wakeEdges := [] }⟩ }
  rw [e]
  exact h

theorem modeLaw_parkExpiry {s : Station} (h : ModeLaw s) : ModeLaw (parkExpiry s) := by
  unfold parkExpiry
  split
  · exact modeLaw_enterParked h
  · exact h

theorem modeLaw_parkTest {s : Station} (h : ModeLaw s) : ModeLaw (parkTest s) := modeLaw_parkExpiry (by exact h)

theorem modeLaw_demandWake {s : Station} (h : ModeLaw s) : ModeLaw (demandWake s) := by
  obtain ⟨_, _, e⟩ := demandWake_frame s; rw [e]; exact h

theorem modeLaw_blendEvent {s : Station} (h : ModeLaw s) : ModeLaw (blendEvent s) := by
  obtain ⟨_, _, e⟩ := blendEvent_frame s
  have link : (blendEvent s).link = s.link := by rw [e]
  have hold : (blendEvent s).hold = s.hold := by rw [e]
  have kept := blendEvent_keeps s
  have requested : requestedMode (blendEvent s).blend = requestedMode s.blend := requestedMode_congr (by rw [kept])
  have governing : (blendEvent s).blend.governing = s.blend.governing := by rw [kept]
  have effMode : (blendEvent s).blend.effMode = s.blend.effMode := by rw [kept]
  have rearm : (blendEvent s).blend.rearm = s.blend.rearm := by rw [kept]
  have accel : (blendEvent s).blend.accel = s.blend.accel := by rw [kept]
  unfold ModeLaw
  rw [link, hold, requested, governing, effMode, rearm, accel, blendEvent_served]
  exact h

theorem modeLaw_trackBrake {s : Station} (h : ModeLaw s) : ModeLaw (escalationExpiry s) ∧ ModeLaw (mtbReleaseExpiry s) ∧
    ModeLaw (loweringExpiry s) ∧ ModeLaw (shoeDelivery s) := by
  refine ⟨?_, ?_, ?_, ?_⟩
  · unfold escalationExpiry
    split <;> exact h
  · unfold mtbReleaseExpiry
    split <;> exact h
  · unfold loweringExpiry
    split
    · split <;> exact h
    · exact h
  · have delivered (l : ShoeLevel) {t : Station} (h : ModeLaw t) : ModeLaw (shoeDelivered l t) := by
      unfold shoeDelivered
      split <;> exact h
    unfold shoeDelivery
    simp only
    split
    · split
      · exact delivered _ h
      · exact h
    · exact h

theorem modeLaw_acceptStatus (n : Nat) (c : StatusContent) (q : BitVec 8) {s : Station} (h : ModeLaw s) :
    ModeLaw (acceptStatus n c q s) := by
  obtain ⟨_, e, -⟩ := acceptStatus_takes n c q s; rw [e]; exact h

/-- R105: the settled request leaves the modes as they were. -/
theorem settled_rearm {cab : CabEnd} {s t : Station} (h : ModeLaw s) (e : serving t = serving s) :
    lossMode (settleGoverning cab t).blend.effMode = true → (settleGoverning cab t).blend.rearm = true := by
  obtain ⟨g, k, settled⟩ := Serving.serving_blend_governing cab t
  have effMode : (settleGoverning cab t).blend.effMode = s.blend.effMode :=
    (congrArg (·.1.2.2.1.effMode) settled).trans (congrArg (·.1.2.2.1.effMode) e)
  have rearm : (settleGoverning cab t).blend.rearm = s.blend.rearm :=
    (congrArg (·.1.2.2.1.rearm) settled).trans (congrArg (·.1.2.2.1.rearm) e)
  rw [effMode, rearm]
  exact modeLaw_rearm h

theorem serving_modeLaw : Serving ModeLaw where
  reads h e := modeLaw_congr h (congrArg (·.1.2.2.2.2.2) e) (congrArg (·.1.2.2.1) e) (congrArg (·.1.2.2.2.2.1.standstill) e)
  evaluated h := ⟨modeLaw_beginStandstill h, modeLaw_endStandstill h⟩
  stillTimer _ h := h
  rollbackTimer _ h := h
  rollback {s} d h := by
    have disarmed {t : Station} (h : ModeLaw t) : ModeLaw (disarm t) := h
    have rolled : ModeLaw (rolledBack d s) := h
    cases still : s.hold.standstill with
    | true =>
      rw [enterRollback_still still]
      exact modeLaw_rouse (disarmed (modeLaw_endStandstill rolled))
    | false =>
      rw [enterRollback_moving still]
      exact modeLaw_rouse (disarmed rolled)
  rules b h := modeLaw_parkTest (modeLaw_hillSample (modeLaw_levelStart b (modeLaw_releaseForward h)))
  park h := modeLaw_parkExpiry h
  hillExpiry {s} h := by
    unfold hillStartExpiry
    split
    · split <;> exact h
    · exact h
  loop {s} h := by
    unfold loopDelivery
    split
    · exact modeLaw_wake (modeLaw_evaluate false (by exact modeLaw_rearm (s := s) h))
    · exact h
  demand cab arrived h e := modeLaw_demandWake (modeLaw_evaluate true (settled_rearm h e))
  silence silent h e := by
    refine modeLaw_evaluate false ?_
    have effMode := congrArg (·.1.2.2.1.effMode) e
    have rearm := congrArg (·.1.2.2.1.rearm) e
    intro loss
    exact rearm.trans (modeLaw_rearm h (effMode ▸ loss))
  blend h := modeLaw_blendEvent h
  trackBrake h := modeLaw_trackBrake h
  withdraws h := h
  accept n c q h := modeLaw_acceptStatus n c q h
  silent {s} n h := by unfold peerSilent; split <;> exact h
  lost {s} n h := by unfold peerLost; split <;> exact h
  supply h := h
  start _ := ⟨nofun, .inr rfl, fun _ => rfl, rfl, rfl⟩

end Sys2Proof.Machine
end

section
/-! SUPPORT. The laws of the hold states and of the track brake, kept by every step together with the law of the modes. -/

namespace Sys2Proof.Machine

/-! ## A DRIVE request and PARKED (R143, R154) -/

/-- Under the law of the modes a DRIVE request stands on a governing request of mode DRIVE. -/
theorem driveRequest_governing {s : Station} (h : ModeLaw s) (hd : driveRequest s = true) :
    ∃ g, s.blend.governing = some g ∧ g.mode = .drive := by
  obtain ⟨-, requested, -, served, -⟩ := h
  obtain ⟨drive, -⟩ := (driveRequest_iff s).mp hd
  obtain ⟨effMode, -⟩ := servedFor_eq_drive (served.symm.trans drive)
  obtain emergency | requested := requested
  · rw [effMode] at emergency; cases emergency
  · rw [effMode] at requested
    cases hg : s.blend.governing with
    | none => rw [requestedMode_none hg] at requested; cases requested
    | some g =>
      rw [requestedMode_some hg] at requested
      refine ⟨g, rfl, ?_⟩
      cases hm : g.mode with
      | drive => rfl
      | coast | brake | hold | park => rw [hm] at requested; cases requested

/-- The effective mode PARK stands on a governing request of mode PARK. -/
theorem park_governing {s : Station} (h : ModeLaw s) (hp : s.blend.effMode = .park) :
    ∀ g, s.blend.governing = some g → g.mode = .park := by
  intro g hg
  obtain ⟨-, requested, -⟩ := h
  rw [hp, requestedMode_some hg] at requested
  obtain requested | requested := requested
  · cases requested
  · cases hm : g.mode with
    | park => rfl
    | drive | coast | brake | hold => rw [hm] at requested; cases requested

/-! ## The parts of the law -/

/-- R145, R147: what HILL_START and a pending level start stand under. -/
def HoldRequests (s : Station) : Prop :=
  (s.hold.state = .hillStart → driveRequest s = true ∧ s.hold.hillSince.isSome = true) ∧
    (s.hold.levelPending = true → driveRequest s = true)

/-- R154: a PARKED station is HOLDING and serves no request but PARK. -/
def ParkedLaw (s : Station) : Prop :=
  s.life = .parked → s.hold.state = .holding ∧ ∀ g, s.blend.governing = some g → g.mode = .park

/-- R153: the hold state handed to the port. -/
def ShownLaw (s : Station) : Prop := s.hold.shown = .rollback ↔ s.hold.state = .rollback

theorem holdLaw_iff (s : Station) :
    HoldLaw s ↔ HoldRequests s ∧ ParkedLaw s ∧ reached 2000 s.hold.parkTime = false ∧ ShownLaw s := by
  unfold HoldLaw HoldRequests ParkedLaw ShownLaw
  constructor
  · rintro ⟨hill, level, parked, timer, shown⟩; exact ⟨⟨hill, level⟩, parked, timer, shown⟩
  · rintro ⟨⟨hill, level⟩, parked, timer, shown⟩; exact ⟨hill, level, parked, timer, shown⟩

/-- What an evaluation needs of the hold unit for the law to hold after it. -/
def HoldReady (s : Station) : Prop :=
  (s.hold.state = .hillStart → s.hold.hillSince.isSome = true) ∧ reached 2000 s.hold.parkTime = false ∧ ShownLaw s

theorem HoldLaw.ready {s : Station} (h : HoldLaw s) : HoldReady s := by
  obtain ⟨⟨hill, -⟩, -, timer, shown⟩ := (holdLaw_iff s).mp h
  exact ⟨fun hs => (hill hs).2, timer, shown⟩

theorem HoldLaw.parked {s : Station} (h : HoldLaw s) : ParkedLaw s := ((holdLaw_iff s).mp h).2.1

/-- The law reads the life state, the served figures, the governing request and the hold unit. -/
theorem holdLaw_congr {s t : Station} (h : HoldLaw s) (life : t.life = s.life) (served : t.blend.served = s.blend.served)
    (accel : t.blend.accel = s.blend.accel) (governing : t.blend.governing = s.blend.governing) (hold : t.hold = s.hold) :
    HoldLaw t := by
  unfold HoldLaw driveRequest
  rw [life, served, accel, governing, hold]
  exact h

/-! ## An evaluation (R145, R147) -/

/-- The hold unit's answer: HILL_START only under a DRIVE request, ROLLBACK as it was. -/
theorem holdRespond_ready {s : Station} (h : HoldReady s) : HoldRequests (holdRespond s) ∧
    reached 2000 (holdRespond s).hold.parkTime = false ∧ ShownLaw (holdRespond s) := by
  obtain ⟨hill, timer, shown⟩ := h
  have request : driveRequest (holdRespond s) = driveRequest s := by unfold driveRequest; rw [holdRespond_blend]
  unfold HoldRequests
  rw [request]
  unfold holdRespond
  cases hd : driveRequest s with
  | false =>
    unfold holdNoDrive ShownLaw
    simp only [Bool.false_eq_true, if_false]
    cases hs : s.hold.state with
    | free => cases s.hold.standstill <;> simp_all [ShownLaw, enterHolding]
    | holding | rollback | hillStart => simp_all [ShownLaw, enterHolding]
  | true =>
    simp only [if_true]
    by_cases hold : s.hold.state = .holding ∧ s.hold.armed = true
    · obtain ⟨holding, armed⟩ := hold
      by_cases rise : 40 < riseHere s
      · rw [holdDrive_hill holding armed rise]
        simp_all [ShownLaw, enterHillStart]
      · rw [holdDrive_level holding armed (by omega)]
        simp_all [ShownLaw]
    · have idle : s.hold.state ≠ .holding ∨ s.hold.armed = false := by
        rw [not_and_or, Bool.not_eq_true] at hold; exact hold
      rw [holdDrive_idle idle]
      exact ⟨⟨fun hs => ⟨trivial, hill hs⟩, fun _ => trivial⟩, timer, shown⟩

theorem holdReady_evaluated (arrival : Bool) {s : Station} (h : HoldReady s) : HoldReady (evaluated arrival s) := by
  have hold := (evaluated_unread arrival s).1
  unfold HoldReady ShownLaw
  rw [hold]
  exact h

/-- The law but for PARKED, after an evaluation. -/
theorem holdReady_evaluate (arrival : Bool) {s : Station} (h : HoldReady s) : HoldRequests (evaluate arrival s) ∧
    reached 2000 (evaluate arrival s).hold.parkTime = false ∧ ShownLaw (evaluate arrival s) :=
  holdRespond_ready (holdReady_evaluated arrival h)

/-- R143, R145: a PARKED station answers an evaluation by staying HOLDING, since no request but PARK is served. -/
theorem parkedLaw_evaluate (arrival : Bool) {s : Station} (h : ParkedLaw s)
    (rearm : lossMode s.blend.effMode = true → s.blend.rearm = true) : ParkedLaw (evaluate arrival s) := by
  intro hl
  have life : (evaluate arrival s).life = s.life := by obtain ⟨_, _, _, _, e⟩ := evaluate_frame arrival s; rw [e]
  obtain ⟨holding, park⟩ := h (life ▸ hl)
  rw [evaluate_governing]
  refine ⟨?_, park⟩
  have idle : driveRequest (evaluate arrival s) = false := by
    by_contra hd
    obtain ⟨g, hg, drive⟩ := driveRequest_governing (modeLaw_evaluate arrival rearm) (by simpa using hd)
    rw [evaluate_governing] at hg
    rw [park g hg] at drive
    cases drive
  have state : (evaluated arrival s).hold.state = .holding := by rw [(evaluated_unread arrival s).1]; exact holding
  rw [evaluate_noDrive idle, holdNoDrive_held (.inl state), state]

theorem holdLaw_evaluate (arrival : Bool) {s : Station} (ready : HoldReady s) (parked : ParkedLaw s)
    (rearm : lossMode s.blend.effMode = true → s.blend.rearm = true) : HoldLaw (evaluate arrival s) := by
  obtain ⟨requests, timer, shown⟩ := holdReady_evaluate arrival ready
  exact (holdLaw_iff _).mpr ⟨requests, parkedLaw_evaluate arrival parked rearm, timer, shown⟩

/-! ## The wake (R155) -/

theorem rouse_life (s : Station) : (rouse s).life ≠ .parked := by
  unfold rouse
  split
  · nofun
  · assumption

/-- The law but for PARKED suffices where the station wakes. -/
theorem holdLaw_rouse {s : Station} (h : HoldRequests s) (timer : reached 2000 s.hold.parkTime = false) (shown : ShownLaw s) :
    HoldLaw (rouse s) := by
  have life := rouse_life s
  obtain ⟨_, e⟩ := rouse_frame s
  rw [e] at life ⊢
  exact (holdLaw_iff _).mpr ⟨h, fun hp => absurd hp life, timer, shown⟩

theorem holdLaw_wake {s : Station} (h : HoldRequests s) (timer : reached 2000 s.hold.parkTime = false) (shown : ShownLaw s) :
    HoldLaw (wake s) := by
  have roused := holdLaw_rouse h timer shown
  obtain ⟨-, e⟩ | ⟨-, e⟩ := announced_cases rouse s
  · rw [wake, e]; exact roused
  · rw [wake, e]; exact holdLaw_congr roused rfl rfl rfl rfl rfl

/-! ## Standstill and ROLLBACK (R142, R151, R152) -/

theorem holdLaw_beginStandstill {s : Station} (mode : ModeLaw s) (h : HoldLaw s) : HoldLaw (beginStandstill s) := by
  obtain ⟨hill, timer, shown⟩ := h.ready
  have ready : HoldReady (stood s) ∧ ParkedLaw (stood s) := by
    by_cases hr : s.hold.state = .rollback
    · rw [stood_rollback hr]
      exact ⟨⟨nofun, timer, by simp [ShownLaw]⟩, fun hl => ⟨rfl, (h.parked hl).2⟩⟩
    · rw [stood_other hr]
      exact ⟨⟨hill, timer, shown⟩, h.parked⟩
  obtain ⟨_, standing⟩ := stood_frame s
  have law := holdLaw_evaluate false ready.1 ready.2 (by rw [standing]; exact modeLaw_rearm (s := s) mode)
  obtain ⟨_, _, _, _, _, taken⟩ := takePending_frame (evaluate false (stood s))
  rw [beginStandstill_eq, taken]
  exact holdLaw_congr law rfl rfl rfl rfl rfl

theorem holdLaw_endStandstill {s : Station} (mode : ModeLaw s) (h : HoldLaw s) : HoldLaw (endStandstill s) := by
  obtain ⟨hill, timer, shown⟩ := h.ready
  have ready : HoldReady { s with hold := { s.hold with standstill := false, stillTime := none } } := ⟨hill, timer, shown⟩
  have parked : ParkedLaw { s with hold := { s.hold with standstill := false, stillTime := none } } := h.parked
  exact holdLaw_evaluate false ready parked (by exact modeLaw_rearm (s := s) mode)

theorem holdLaw_enterRollback {s : Station} (h : HoldLaw s) (d : FaultDetail) : HoldLaw (enterRollback d s) := by
  obtain ⟨-, timer, -⟩ := h.ready
  cases still : s.hold.standstill with
  | true =>
    have ready : HoldReady { rolledBack d s with hold := { (rolledBack d s).hold with
        standstill := false, stillTime := none } } := ⟨nofun, timer, by simp [ShownLaw, rolledBack]⟩
    have disarmed {t : Station} (h : HoldRequests t ∧ reached 2000 t.hold.parkTime = false ∧ ShownLaw t) :
        HoldLaw (rouse (disarm t)) := holdLaw_rouse (s := disarm t) h.1 h.2.1 h.2.2
    rw [enterRollback_still still]
    exact disarmed (holdReady_evaluate false ready)
  | false =>
    rw [enterRollback_moving still]
    exact holdLaw_rouse (s := disarm (rolledBack d s)) ⟨nofun, nofun⟩ timer (by simp [ShownLaw, disarm, rolledBack])

/-! ## The rules of the hold state (R145, R148 to R150, R154) -/

/-- The law without the park timer and the state handed to the port, which the end of the sample settles. -/
def HoldRules (s : Station) : Prop := HoldRequests s ∧ ParkedLaw s

theorem holdRules_releaseForward {s : Station} (h : HoldRules s) : HoldRules (releaseForward s) := by
  unfold releaseForward
  split
  · have life := rouse_life { s with hold := { s.hold with state := .free } }
    obtain ⟨_, e⟩ := rouse_frame { s with hold := { s.hold with state := .free } }
    rw [e] at life ⊢
    obtain ⟨⟨-, level⟩, -⟩ := h
    exact ⟨⟨nofun, level⟩, fun hp => absurd hp life⟩
  · exact h

/-- A pending level start stands under a DRIVE request, so the station is not PARKED. -/
theorem holdRules_levelStart (b : Bool) {s : Station} (mode : ModeLaw s) (h : HoldRules s) : HoldRules (levelStart b s) := by
  obtain ⟨⟨hill, level⟩, parked⟩ := h
  unfold levelStart
  split
  · rename_i start
    obtain ⟨g, hg, drive⟩ := driveRequest_governing mode (level start.2.1)
    refine ⟨⟨nofun, nofun⟩, fun hl => ?_⟩
    rw [(parked hl).2 g hg] at drive
    cases drive
  · exact ⟨⟨hill, level⟩, parked⟩

theorem holdRules_hillSample {s : Station} (h : HoldRules s) : HoldRules (hillSample s) := by
  obtain ⟨⟨hill, level⟩, parked⟩ := h
  have handed : ∃ f b, handOver s = { s with hold := { s.hold with friction := f, trailerReleased := b } } := by
    unfold handOver
    split <;> exact ⟨_, _, rfl⟩
  unfold hillSample
  simp only
  split
  · rename_i start
    have awake : s.life ≠ .parked := fun hl => by rw [(parked hl).1] at start; cases start
    obtain ⟨f, b, e⟩ := handed
    rw [e]
    split
    · exact ⟨⟨nofun, level⟩, fun hl => absurd hl awake⟩
    · exact ⟨⟨hill, level⟩, parked⟩
  · exact ⟨⟨hill, level⟩, parked⟩

theorem enterParked_eq (s : Station) : ∃ x st, enterParked s =
    { s with life := .parked, hold := { s.hold with parkTime := none }, axles := x, store := st } := by
  unfold enterParked
  obtain ⟨_, e⟩ := requestSave_frame { s with
    life := .parked
    hold := { s.hold with parkTime := none }
    axles := ⟨{ s.axles.a with wakeEdges := [] }, { s.axles.b with wakeEdges := [] }⟩ }
  rw [e]
  exact ⟨_, _, rfl⟩

/-- R154: PARKED is entered only in the mode PARK at HOLDING, and a park timer that goes on stays below 2,000 ms. -/
theorem holdRules_parkTest {s : Station} (mode : ModeLaw s) (h : HoldRules s) :
    HoldRules (parkTest s) ∧ reached 2000 (parkTest s).hold.parkTime = false := by
  obtain ⟨requests, parked⟩ := h
  unfold parkTest parkExpiry
  simp only
  cases hruns : (s.life == .run && s.blend.effMode == .park && s.hold.standstill && s.hold.state == .holding) with
  | false =>
    rw [if_neg (by simp [runTimer, reached])]
    exact ⟨⟨requests, parked⟩, rfl⟩
  | true =>
    simp only [Bool.and_eq_true, beq_iff_eq] at hruns
    obtain ⟨⟨⟨life, park⟩, -⟩, holding⟩ := hruns
    split
    · obtain ⟨_, _, e⟩ := enterParked_eq { s with hold := { s.hold with parkTime := runTimer 5 true s.hold.parkTime } }
      rw [e]
      exact ⟨⟨requests, fun _ => ⟨holding, park_governing mode park⟩⟩, rfl⟩
    · rename_i early
      exact ⟨⟨requests, parked⟩, by simpa [life] using early⟩

theorem holdLaw_rules {s : Station} (b : Bool) (mode : ModeLaw s) (h : HoldLaw s) :
    HoldLaw (holdPublish (parkTest (hillSample (levelStart b (releaseForward s))))) := by
  obtain ⟨requests, parked, -⟩ := (holdLaw_iff s).mp h
  have forward := holdRules_releaseForward ⟨requests, parked⟩
  have forwardMode := modeLaw_releaseForward mode
  have level := holdRules_levelStart b forwardMode forward
  have levelMode := modeLaw_levelStart b forwardMode
  obtain ⟨⟨requests, parked⟩, timer⟩ := holdRules_parkTest (modeLaw_hillSample levelMode) (holdRules_hillSample level)
  exact (holdLaw_iff _).mpr ⟨requests, parked, timer, Iff.rfl⟩

theorem holdLaw_parkExpiry {s : Station} (h : HoldLaw s) : HoldLaw (parkExpiry s) := by
  obtain ⟨-, timer, -⟩ := h.ready
  rw [parkExpiry, if_neg (by simp [timer])]
  exact h

theorem holdLaw_hillStartExpiry {s : Station} (h : HoldLaw s) : HoldLaw (hillStartExpiry s) := by
  obtain ⟨⟨-, level⟩, parked, timer, shown⟩ := (holdLaw_iff s).mp h
  unfold hillStartExpiry
  split
  · rename_i t state since
    split
    · have handed : s.hold.shown ≠ .rollback := fun hr => by rw [shown.mp hr] at state; cases state
      refine (holdLaw_iff _).mpr ⟨⟨nofun, level⟩, fun hl => ?_, timer, ?_⟩
      · rw [(parked hl).1] at state; cases state
      · exact ⟨fun hr => absurd hr handed, nofun⟩
    · exact h
  · exact h

/-! ## The laws through the commands -/

/-- R105: what a settled request leaves for the evaluation. -/
theorem settled_hold {cab : CabEnd} {s t : Station} (e : serving t = serving s) :
    (settleGoverning cab t).hold = s.hold ∧ (settleGoverning cab t).life = s.life := by
  obtain ⟨g, k, settled⟩ := Serving.serving_blend_governing cab t
  exact ⟨(congrArg (·.1.2.2.2.2.1) settled).trans (congrArg (·.1.2.2.2.2.1) e),
    (congrArg (·.1.1) settled).trans (congrArg (·.1.1) e)⟩

theorem holdLaw_demand (cab : CabEnd) {s arrived : Station} (mode : ModeLaw s) (h : HoldLaw s)
    (e : serving arrived = serving s) : HoldLaw (demandWake (evaluate true (settleGoverning cab arrived))) := by
  obtain ⟨hold, life⟩ := settled_hold (cab := cab) e
  have ready : HoldReady (settleGoverning cab arrived) := by
    unfold HoldReady ShownLaw; rw [hold]; exact h.ready
  have rearm := settled_rearm (cab := cab) mode e
  obtain ⟨requests, timer, shown⟩ := holdReady_evaluate true ready
  have parkedLaw (hg : ∀ g, (settleGoverning cab arrived).blend.governing = some g → g.mode = .park) :
      HoldLaw (evaluate true (settleGoverning cab arrived)) := by
    refine holdLaw_evaluate true ready (fun hl => ⟨?_, hg⟩) rearm
    rw [hold]
    exact (h.parked (life ▸ hl)).1
  unfold demandWake
  rw [evaluate_governing]
  cases hgov : (settleGoverning cab arrived).blend.governing with
  | none => exact parkedLaw fun g hg => by rw [hgov] at hg; cases hg
  | some g =>
    simp only
    split
    · rename_i park
      exact parkedLaw fun g' hg => by
        rw [hgov] at hg
        obtain rfl := Option.some.inj hg
        exact park
    · exact holdLaw_wake requests timer shown

theorem serving_holdLaw : Serving fun s => ModeLaw s ∧ HoldLaw s where
  reads := fun ⟨mode, h⟩ e => ⟨serving_modeLaw.reads mode e, holdLaw_congr h (congrArg (·.1.1) e)
    (congrArg (·.1.2.2.1.served) e) (congrArg (·.1.2.2.1.accel) e) (congrArg (·.1.2.2.1.governing) e)
    (congrArg (·.1.2.2.2.2.1) e)⟩
  evaluated := fun ⟨mode, h⟩ => ⟨⟨modeLaw_beginStandstill mode, holdLaw_beginStandstill mode h⟩,
    modeLaw_endStandstill mode, holdLaw_endStandstill mode h⟩
  stillTimer _ h := h
  rollbackTimer _ h := h
  rollback d := fun ⟨mode, h⟩ => ⟨serving_modeLaw.rollback d mode, holdLaw_enterRollback h d⟩
  rules b := fun ⟨mode, h⟩ => ⟨serving_modeLaw.rules b mode, holdLaw_rules b mode h⟩
  park := fun ⟨mode, h⟩ => ⟨modeLaw_parkExpiry mode, holdLaw_parkExpiry h⟩
  hillExpiry := fun ⟨mode, h⟩ => ⟨serving_modeLaw.hillExpiry mode, holdLaw_hillStartExpiry h⟩
  loop := fun {s} ⟨mode, h⟩ => by
    refine ⟨serving_modeLaw.loop mode, ?_⟩
    unfold loopDelivery
    split
    · have ready : HoldReady { s with link := { s.link with
          loop := { s.link.loop with delivered := some s.link.loop.raw } } } := h.ready
      obtain ⟨requests, timer, shown⟩ := holdReady_evaluate false ready
      exact holdLaw_wake requests timer shown
    · exact h
  demand cab arrived := fun ⟨mode, h⟩ e => ⟨serving_modeLaw.demand cab arrived mode e, holdLaw_demand cab mode h e⟩
  silence := fun {s} silent ⟨mode, h⟩ e => by
    have hold : silent.hold = s.hold := congrArg (·.1.2.2.2.2.1) e
    have life : silent.life = s.life := congrArg (·.1.1) e
    have governing : silent.blend.governing = none := congrArg (·.1.2.2.1.governing) e
    have effMode : silent.blend.effMode = s.blend.effMode := congrArg (·.1.2.2.1.effMode) e
    have rearm : silent.blend.rearm = s.blend.rearm := congrArg (·.1.2.2.1.rearm) e
    refine ⟨serving_modeLaw.silence silent mode e, holdLaw_evaluate false ?_ (fun hl => ⟨?_, fun g hg => ?_⟩) ?_⟩
    · unfold HoldReady ShownLaw; rw [hold]; exact h.ready
    · rw [hold]; exact (h.parked (life ▸ hl)).1
    · rw [governing] at hg; cases hg
    · rw [effMode, rearm]; exact modeLaw_rearm mode
  blend := fun {s} ⟨mode, h⟩ => by
    have kept := blendEvent_keeps s
    obtain ⟨_, _, e⟩ := blendEvent_frame s
    exact ⟨modeLaw_blendEvent mode, holdLaw_congr h (by rw [e]) (by rw [kept]) (by rw [kept]) (by rw [kept]) (by rw [e])⟩
  trackBrake := fun {s} ⟨mode, h⟩ => by
    have same {t : Station} (hs : t.blend.served = s.blend.served) (ha : t.blend.accel = s.blend.accel)
        (hg : t.blend.governing = s.blend.governing) (hl : t.life = s.life) (hh : t.hold = s.hold) : HoldLaw t :=
      holdLaw_congr h hl hs ha hg hh
    obtain ⟨escalation, release, lowering, shoe⟩ := modeLaw_trackBrake mode
    refine ⟨⟨escalation, ?_⟩, ⟨release, ?_⟩, ⟨lowering, ?_⟩, shoe, ?_⟩
    · unfold escalationExpiry
      split <;> exact same rfl rfl rfl rfl rfl
    · unfold mtbReleaseExpiry
      split <;> exact same rfl rfl rfl rfl rfl
    · unfold loweringExpiry
      split
      · split <;> exact same rfl rfl rfl rfl rfl
      · exact h
    · have delivered (l : ShoeLevel) {t : Station} (h : HoldLaw t) : HoldLaw (shoeDelivered l t) := by
        unfold shoeDelivered
        split <;> exact h
      unfold shoeDelivery
      simp only
      split
      · split
        · exact delivered _ h
        · exact h
      · exact h
  withdraws h := h
  accept {s} n c q := fun ⟨mode, h⟩ => by
    refine ⟨modeLaw_acceptStatus n c q mode, ?_⟩
    obtain ⟨_, e, -⟩ := acceptStatus_takes n c q s
    rw [e]
    exact h
  silent {s} n h := by unfold peerSilent; split <;> exact h
  lost {s} n h := by unfold peerLost; split <;> exact h
  supply := fun ⟨mode, h⟩ => by
    obtain ⟨requests, -, timer, shown⟩ := (holdLaw_iff _).mp h
    exact ⟨mode, (holdLaw_iff _).mpr ⟨requests, nofun, timer, shown⟩⟩
  start i := ⟨serving_modeLaw.start i, nofun, nofun, nofun, rfl, ⟨nofun, nofun⟩⟩

/-! ## The track brake (R119 to R121) -/

/-- The law reads the track brake's figures, the effective mode, the plug, and whether the station has supply. -/
theorem trackBrakeLaw_congr {s t : Station} (h : TrackBrakeLaw s) (blend : t.blend = s.blend) (plug : t.plug = s.plug)
    (life : t.life = .off ∨ s.life ≠ .off) : TrackBrakeLaw t := by
  obtain ⟨down, closed, commanded, lowering⟩ := h
  unfold TrackBrakeLaw
  rw [blend, plug]
  exact ⟨down, closed, fun hl => commanded (life.resolve_left hl), lowering⟩

theorem trackBrakeLaw_commandUp (s : Station) : TrackBrakeLaw (commandUp s) := ⟨nofun, nofun, nofun, nofun, nofun⟩

theorem trackBrakeLaw_commandDown {s : Station} (mode : mtbMode s.blend.effMode = true) (strap : s.plug.trackBrake = true) :
    TrackBrakeLaw (commandDown s) := ⟨fun _ => ⟨mode, strap⟩, fun _ => nofun, fun _ _ => rfl, fun _ => rfl, fun _ => rfl⟩

/-- The law of a track brake that stands as it did, in a mode where it may. -/
theorem trackBrakeLaw_stays {s t : Station} (h : TrackBrakeLaw s) (mtb : t.blend.mtb = s.blend.mtb)
    (contactor : t.blend.contactorClosed = s.blend.contactorClosed) (lowering : t.blend.loweringSince = s.blend.loweringSince)
    (plug : t.plug = s.plug) (life : t.life = s.life)
    (mode : mtbMode s.blend.effMode = true → mtbMode t.blend.effMode = true) : TrackBrakeLaw t := by
  obtain ⟨down, closed, commanded, timer⟩ := h
  unfold TrackBrakeLaw
  rw [mtb, contactor, lowering, plug, life]
  exact ⟨fun hm => ⟨mode (down hm).1, (down hm).2⟩, closed, commanded, timer⟩

theorem trackBrakeLaw_mtbRespond {s t : Station} (h : TrackBrakeLaw s) (mtb : t.blend.mtb = s.blend.mtb)
    (contactor : t.blend.contactorClosed = s.blend.contactorClosed) (lowering : t.blend.loweringSince = s.blend.loweringSince)
    (plug : t.plug = s.plug) (life : t.life = s.life) : TrackBrakeLaw (mtbRespond s.blend.effMode t) := by
  unfold mtbRespond
  simp only
  split
  · rename_i same
    exact trackBrakeLaw_stays h mtb contactor lowering plug life (by rw [same]; exact id)
  · split
    · exact trackBrakeLaw_commandUp t
    · rename_i allowed
      have may : mtbMode t.blend.effMode = true := by simpa using allowed
      split
      · split
        · rename_i down
          exact trackBrakeLaw_commandDown may ((emergencyDown_iff _).mp down).1
        · exact trackBrakeLaw_stays h mtb contactor lowering plug life fun _ => may
      · exact trackBrakeLaw_stays h mtb contactor lowering plug life fun _ => may

theorem trackBrakeLaw_evaluate (arrival : Bool) {s : Station} (h : TrackBrakeLaw s) : TrackBrakeLaw (evaluate arrival s) := by
  obtain ⟨p, k, sensed⟩ := senseRespond_frame_demands (effortSense s) (publishModes arrival s)
  have responded : TrackBrakeLaw (evaluated arrival s) := by
    unfold evaluated
    rw [sensed]
    exact trackBrakeLaw_mtbRespond h rfl rfl rfl rfl rfl
  obtain ⟨_, _, e⟩ := holdRespond_frame_hill (evaluated arrival s)
  rw [evaluate_eq, e]
  exact responded

theorem trackBrakeLaw_rouse {s : Station} (h : TrackBrakeLaw s) : TrackBrakeLaw (rouse s) := by
  unfold rouse
  split
  · rename_i parked
    exact trackBrakeLaw_congr h rfl rfl (.inr (by rw [parked]; nofun))
  · exact h

theorem trackBrakeLaw_wake {s : Station} (h : TrackBrakeLaw s) : TrackBrakeLaw (wake s) := by
  obtain ⟨-, e⟩ | ⟨-, e⟩ := announced_cases rouse s
  · rw [wake, e]; exact trackBrakeLaw_rouse h
  · rw [wake, e]; exact trackBrakeLaw_rouse h

theorem trackBrakeLaw_parkExpiry {s : Station} (h : TrackBrakeLaw s) : TrackBrakeLaw (parkExpiry s) := by
  unfold parkExpiry
  split
  · rename_i due
    obtain ⟨_, _, e⟩ := enterParked_eq s
    rw [e]
    exact trackBrakeLaw_congr h rfl rfl (.inr (by rw [due.1]; nofun))
  · exact h

theorem mtbMode_of_escalationMode {m : EffMode} (h : escalationMode m = true) : mtbMode m = true := by
  simp only [escalationMode, Bool.or_eq_true] at h
  simp only [mtbMode, Bool.or_eq_true]
  exact .inl h

theorem trackBrakeLaw_escalationExpiry {s : Station} (h : TrackBrakeLaw s) : TrackBrakeLaw (escalationExpiry s) := by
  unfold escalationExpiry
  split
  · rename_i due
    exact trackBrakeLaw_commandDown (mtbMode_of_escalationMode due.2.2.1) due.1
  · exact h

theorem trackBrakeLaw_mtbReleaseExpiry {s : Station} (h : TrackBrakeLaw s) : TrackBrakeLaw (mtbReleaseExpiry s) := by
  unfold mtbReleaseExpiry
  split
  · exact trackBrakeLaw_commandUp s
  · exact h

theorem trackBrakeLaw_trackBrakeStep {s : Station} (h : TrackBrakeLaw s) : TrackBrakeLaw (trackBrakeStep s) := by
  have braking : TrackBrakeLaw (if s.blend.mtb = .up then escalationTest s else releaseTest s) := by
    split
    · exact trackBrakeLaw_escalationExpiry (by exact h)
    · unfold releaseTest
      split
      · exact trackBrakeLaw_commandUp s
      · exact trackBrakeLaw_mtbReleaseExpiry (by exact h)
  unfold trackBrakeStep
  split
  · exact braking
  · exact braking
  · rename_i emergency
    unfold emergencyTest
    split
    · rename_i down
      exact trackBrakeLaw_commandDown (by rw [emergency]; rfl) ((emergencyDown_iff s).mp down).1
    · split
      · exact trackBrakeLaw_commandUp s
      · exact h
  all_goals exact h

/-- Steps 2 to 6 of a blend event leave the track brake and the effective mode. -/
theorem forces_trackBrake {s : Station} (h : TrackBrakeLaw s) :
    TrackBrakeLaw (splitStep (demandStep (makeUpStep (forceStep (massStep s))))) := by
  have massed (t : Station) (h : TrackBrakeLaw t) : TrackBrakeLaw (massStep t) := h
  have forced (t : Station) (h : TrackBrakeLaw t) : TrackBrakeLaw (forceStep t) := h
  have made (t : Station) (h : TrackBrakeLaw t) : TrackBrakeLaw (makeUpStep t) := by
    obtain ⟨_, e⟩ := makeUpStep_frame t; rw [e]; exact h
  have demanded (t : Station) (h : TrackBrakeLaw t) : TrackBrakeLaw (demandStep t) := h
  have split (t : Station) (h : TrackBrakeLaw t) : TrackBrakeLaw (splitStep t) := h
  exact split _ (demanded _ (made _ (forced _ (massed _ h))))

theorem trackBrakeLaw_blendEvent {s : Station} (h : TrackBrakeLaw s) : TrackBrakeLaw (blendEvent s) := by
  have braked : TrackBrakeLaw (trackBrakeStep { s with blend := { s.blend with lastBlend := s.time } }) :=
    trackBrakeLaw_trackBrakeStep (by exact h)
  unfold blendEvent
  exact forces_trackBrake braked

theorem trackBrakeLaw_loweringExpiry {s : Station} (h : TrackBrakeLaw s) : TrackBrakeLaw (loweringExpiry s) := by
  unfold loweringExpiry
  split
  · rename_i t lowering since
    have ⟨down, _, commanded, _⟩ := h
    split
    · rw [lowering] at down commanded
      exact ⟨fun _ => down nofun, fun _ => nofun, fun hl _ => commanded hl nofun, nofun, nofun⟩
    · exact h
  · exact h

theorem trackBrakeLaw_shoeDelivered (l : ShoeLevel) {s : Station} (h : TrackBrakeLaw s) : TrackBrakeLaw (shoeDelivered l s) := by
  have confirmed (u : TrackBrake) (hu : u ≠ .up) (hl : u ≠ .lowering) (hs : s.blend.mtb ≠ .up) :
      TrackBrakeLaw { s with blend := { s.blend with mtb := u, loweringSince := none } } := by
    obtain ⟨down, -, commanded, -⟩ := h
    exact ⟨fun _ => down hs, fun _ => hu, fun hlife _ => commanded hlife hs, nofun, fun hm => absurd hm hl⟩
  unfold shoeDelivered
  split
  · rename_i mtb
    exact confirmed .down nofun nofun (by rw [mtb]; nofun)
  · rename_i mtb
    exact confirmed .down nofun nofun (by rw [mtb]; nofun)
  · rename_i mtb
    have stopped : s.blend.loweringSince = none := by
      cases hs : s.blend.loweringSince with
      | none => rfl
      | some t => have := h.2.2.2.mp (by rw [hs]; rfl); rw [mtb] at this; cases this
    have up := confirmed .unconfirmed nofun nofun (by rw [mtb]; nofun)
    rw [← stopped] at up
    exact up
  all_goals exact h

theorem serving_trackBrakeLaw : Serving TrackBrakeLaw where
  reads h e := trackBrakeLaw_stays h (congrArg (·.1.2.2.1.mtb) e) (congrArg (·.1.2.2.1.contactorClosed) e)
    (congrArg (·.1.2.2.1.loweringSince) e) (congrArg (·.1.2.1) e) (congrArg (·.1.1) e)
    (by have effMode := congrArg (·.1.2.2.1.effMode) e; exact effMode ▸ id)
  evaluated {s} h := by
    obtain ⟨_, _, _, _, _, taken⟩ := takePending_frame (evaluate false (stood s))
    obtain ⟨_, standing⟩ := stood_frame s
    refine ⟨?_, trackBrakeLaw_evaluate false (by exact h)⟩
    rw [beginStandstill_eq, taken]
    exact trackBrakeLaw_evaluate (s := stood s) false (by rw [standing]; exact h)
  stillTimer _ h := h
  rollbackTimer _ h := h
  rollback {s} d h := by
    have disarmed {t : Station} (h : TrackBrakeLaw t) : TrackBrakeLaw (disarm t) := h
    have ended {t : Station} (h : TrackBrakeLaw t) : TrackBrakeLaw (endStandstill t) :=
      trackBrakeLaw_evaluate false (by exact h)
    have rolled : TrackBrakeLaw (rolledBack d s) := h
    cases still : s.hold.standstill with
    | true =>
      rw [enterRollback_still still]
      exact trackBrakeLaw_rouse (disarmed (ended rolled))
    | false =>
      rw [enterRollback_moving still]
      exact trackBrakeLaw_rouse (disarmed rolled)
  rules {s} b h := by
    have released : TrackBrakeLaw (releaseForward s) := by
      unfold releaseForward
      split
      · exact trackBrakeLaw_rouse (by exact h)
      · exact h
    have level : TrackBrakeLaw (levelStart b (releaseForward s)) := by
      obtain ⟨_, e⟩ := levelStart_frame b (releaseForward s); rw [e]; exact released
    have hill : TrackBrakeLaw (hillSample (levelStart b (releaseForward s))) := by
      obtain ⟨_, e⟩ := hillSample_frame (levelStart b (releaseForward s)); rw [e]; exact level
    have parked : TrackBrakeLaw (parkTest (hillSample (levelStart b (releaseForward s)))) :=
      trackBrakeLaw_parkExpiry (by exact hill)
    exact parked
  park h := trackBrakeLaw_parkExpiry h
  hillExpiry {s} h := by obtain ⟨_, _, e⟩ := hillStartExpiry_frame s; rw [e]; exact h
  loop {s} h := by
    unfold loopDelivery
    split
    · exact trackBrakeLaw_wake (trackBrakeLaw_evaluate false (by exact h))
    · exact h
  demand {s} cab arrived h e := by
    obtain ⟨g, k, settled⟩ := Serving.serving_blend_governing cab arrived
    have arrivedLaw : TrackBrakeLaw arrived := trackBrakeLaw_stays h (congrArg (·.1.2.2.1.mtb) e)
      (congrArg (·.1.2.2.1.contactorClosed) e) (congrArg (·.1.2.2.1.loweringSince) e) (congrArg (·.1.2.1) e)
      (congrArg (·.1.1) e) (by have effMode := congrArg (·.1.2.2.1.effMode) e; exact effMode ▸ id)
    have law : TrackBrakeLaw (settleGoverning cab arrived) := trackBrakeLaw_stays arrivedLaw
      (congrArg (·.1.2.2.1.mtb) settled) (congrArg (·.1.2.2.1.contactorClosed) settled)
      (congrArg (·.1.2.2.1.loweringSince) settled) (congrArg (·.1.2.1) settled) (congrArg (·.1.1) settled)
      (by have effMode := congrArg (·.1.2.2.1.effMode) settled; exact effMode ▸ id)
    unfold demandWake
    split
    · split
      · exact trackBrakeLaw_evaluate true law
      · exact trackBrakeLaw_wake (trackBrakeLaw_evaluate true law)
    · exact trackBrakeLaw_evaluate true law
  silence {s} silent h e := trackBrakeLaw_evaluate false (trackBrakeLaw_stays h (congrArg (·.1.2.2.1.mtb) e)
    (congrArg (·.1.2.2.1.contactorClosed) e) (congrArg (·.1.2.2.1.loweringSince) e) (congrArg (·.1.2.1) e)
    (congrArg (·.1.1) e) (by
      have effMode : silent.blend.effMode = s.blend.effMode := congrArg (·.1.2.2.1.effMode) e
      rw [effMode]; exact id))
  blend h := trackBrakeLaw_blendEvent h
  trackBrake {s} h := by
    refine ⟨trackBrakeLaw_escalationExpiry h, trackBrakeLaw_mtbReleaseExpiry h, trackBrakeLaw_loweringExpiry h, ?_⟩
    unfold shoeDelivery
    simp only
    split
    · split
      · exact trackBrakeLaw_shoeDelivered _ (by exact h)
      · exact h
    · exact h
  withdraws h := h
  accept {s} n c q h := by obtain ⟨_, e, -⟩ := acceptStatus_takes n c q s; rw [e]; exact h
  silent {s} n h := by unfold peerSilent; split <;> exact h
  lost {s} n h := by unfold peerLost; split <;> exact h
  supply := fun ⟨down, _, _, timer⟩ => ⟨down, nofun, fun hl => absurd rfl hl, timer⟩
  start _ := ⟨nofun, nofun, nofun, nofun, nofun⟩

end Sys2Proof.Machine

open Sys2Proof Sys2Proof.Machine

/-- Settles O57: an evaluation gives the modes their law, under which the hold unit's answer and the track brake's keep
theirs; the other commands move the timers and figures that the laws bound. -/
theorem modeLawsKept : Obligations.ModeLawsKept := fun _ _ hs =>
  ⟨fun mode => serving_modeLaw.step mode hs, fun mode hold => (serving_holdLaw.step ⟨mode, hold⟩ hs).2,
    fun _ brake => serving_trackBrakeLaw.step brake hs⟩

end

section
/-! SUPPORT. Sander valves (R92 to R102): how a valve opens and closes, and the law of the valves through every command. -/

namespace Sys2Proof.Machine

/-! ## A valve opens and closes -/

theorem settleBox_self (now : Millis) (d : Sander) : settleBox now d = { d with box := (settleBox now d).box } := by
  unfold settleBox; split <;> rfl

@[simp] theorem settleBox_shut {now : Millis} {d : Sander} (h : d.interval = none) : settleBox now d = d := by
  unfold settleBox; rw [h]

theorem closeValve_eq (now : Millis) (d : Sander) : closeValve now d =
    { d with box := (settleBox now d).box, valveOpen := false, interval := none } := by
  unfold closeValve; rw [settleBox_self]

theorem toTailing_eq (now : Millis) (d : Sander) : toTailing now d = { d with
    box := (settleBox now d).box, valveOpen := false, interval := none, state := .tailing, dosing := none
    advancedTo := now } := by
  unfold toTailing; rw [closeValve_eq]

/-- With the box at 0 the valve stays closed. -/
theorem openValve_empty {now : Millis} {d : Sander} (base : Nat) (h : (settleBox now d).box = 0) :
    openValve now base d = { d with box := 0, valveOpen := false, interval := none } := by
  unfold openValve
  rw [closeValve_eq, h]
  rfl

theorem openValve_opens {now : Millis} {d : Sander} (base : Nat) (h : (settleBox now d).box ≠ 0) :
    openValve now base d = { d with
      box := (settleBox now d).box, valveOpen := true, interval := some ⟨now, (settleBox now d).box, base⟩ } := by
  unfold openValve
  rw [closeValve_eq]
  exact if_neg h

theorem spreading_iff (d : Sander) : spreading d = true ↔ d.state = .filling ∨ d.state = .flowing := by
  simp [spreading]

/-! ## The law of one sander -/

/-- R93, R98: FILLING has its valve open, and a dosing period runs in FLOWING alone. -/
def FillLaw (d : Sander) : Prop := (d.state = .filling → d.valveOpen = true) ∧ (d.dosing.isSome = true → d.state = .flowing)

/-- The law of the valve, and with `fills` that of FILLING. -/
def SanderLaw (fills : Prop) (d : Sander) : Prop := ValveLaw d ∧ (fills → FillLaw d)

/-- The same where the box may have come to 0 under an open valve, as it stands between the steps of a decision. -/
def DrainedLaw (fills : Prop) (d : Sander) : Prop :=
  (d.valveOpen = true → spreading d = true) ∧ d.valveOpen = d.interval.isSome ∧ (fills → FillLaw d)

theorem sanderLaw_iff {fills : Prop} {d : Sander} :
    SanderLaw fills d ↔ DrainedLaw fills d ∧ (d.valveOpen = true → d.box ≠ 0) := by
  unfold SanderLaw DrainedLaw ValveLaw
  constructor
  · rintro ⟨⟨hopen, interval⟩, fill⟩
    exact ⟨⟨fun h => (hopen h).1, interval, fill⟩, fun h => (hopen h).2⟩
  · rintro ⟨⟨hspread, interval, fill⟩, box⟩
    exact ⟨⟨fun h => ⟨hspread h, box h⟩, interval⟩, fill⟩

variable {fills : Prop}

theorem SanderLaw.drained {d : Sander} (h : SanderLaw fills d) : DrainedLaw fills d := (sanderLaw_iff.mp h).1

theorem DrainedLaw.shut {d : Sander} (h : DrainedLaw fills d) (hs : ¬spreading d = true) :
    d.valveOpen = false ∧ d.interval = none := by
  obtain ⟨spread, interval, -⟩ := h
  have shut : d.valveOpen = false := by simpa using fun ho => hs (spread ho)
  rw [shut] at interval
  exact ⟨shut, by simpa using interval.symm⟩

/-- A sander whose valve stands closed. -/
theorem sanderLaw_shut {d : Sander} (hv : d.valveOpen = false) (hi : d.interval = none) (fill : fills → FillLaw d) :
    SanderLaw fills d := by
  refine ⟨⟨fun ho => ?_, by rw [hv, hi]; rfl⟩, fill⟩
  rw [hv] at ho
  cases ho

theorem DrainedLaw.rests {d : Sander} (h : DrainedLaw fills d) (hs : ¬spreading d = true) : SanderLaw fills d :=
  sanderLaw_shut (h.shut hs).1 (h.shut hs).2 h.2.2

theorem DrainedLaw.sandy {d : Sander} (h : DrainedLaw fills d) (hb : d.box ≠ 0) : SanderLaw fills d :=
  sanderLaw_iff.mpr ⟨h, fun _ => hb⟩

theorem fillLaw_off {d : Sander} (hs : d.state ≠ .filling) (hd : d.dosing = none) : FillLaw d :=
  ⟨fun h => absurd h hs, fun h => by rw [hd] at h; cases h⟩

theorem sanderLaw_toTailing (now : Millis) (d : Sander) : SanderLaw fills (toTailing now d) := by
  rw [toTailing_eq]
  exact sanderLaw_shut rfl rfl fun _ => fillLaw_off nofun rfl

theorem drainedLaw_settleBox (now : Millis) {d : Sander} (h : DrainedLaw fills d) : DrainedLaw fills (settleBox now d) := by
  rw [settleBox_self]; exact h

theorem sanderLaw_openValve (now : Millis) (base : Nat) {d : Sander} (hs : spreading d = true)
    (hfill : fills → d.state = .filling → (settleBox now d).box ≠ 0)
    (hdose : fills → d.dosing.isSome = true → d.state = .flowing) : SanderLaw fills (openValve now base d) := by
  by_cases hb : (settleBox now d).box = 0
  · rw [openValve_empty base hb]
    exact sanderLaw_shut rfl rfl fun hf => ⟨fun h => absurd hb (hfill hf h), hdose hf⟩
  · rw [openValve_opens base hb]
    exact ⟨⟨fun _ => ⟨hs, hb⟩, rfl⟩, fun hf => ⟨fun _ => rfl, hdose hf⟩⟩

/-- The end of the open time falls in FLOWING. -/
theorem sanderLaw_openTimeOver {now : Millis} {d : Sander} (h : DrainedLaw fills d) (ended : openTimeOver now d = true) :
    SanderLaw fills (closeValve now d) := by
  rw [closeValve_eq]
  refine sanderLaw_shut rfl rfl fun hf => ⟨fun filling => ?_, (h.2.2 hf).2⟩
  unfold openTimeOver at ended
  split at ended
  · rename_i p hp
    have flowing := (h.2.2 hf).2 (by rw [hp]; rfl)
    rw [show d.state = .filling from filling] at flowing
    cases flowing
  · cases ended

/-- A sander that rests, in a state without sand. -/
theorem sanderLaw_idle {d e : Sander} (h : DrainedLaw fills d) (hs : ¬spreading d = true) (hstate : e.state ≠ .filling)
    (hv : e.valveOpen = d.valveOpen) (hi : e.interval = d.interval) (hd : e.dosing = d.dosing) : SanderLaw fills e := by
  obtain ⟨shut, interval⟩ := h.shut hs
  refine sanderLaw_shut (hv.trans shut) (hi.trans interval) fun hf => fillLaw_off hstate ?_
  rw [hd, ← Option.not_isSome_iff_eq_none]
  intro dosing
  exact hs ((spreading_iff d).mpr (.inr ((h.2.2 hf).2 dosing)))

theorem not_spreading {d : Sander} (h1 : d.state ≠ .filling) (h2 : d.state ≠ .flowing) : ¬spreading d = true := by
  rw [spreading_iff]; rintro (h | h) <;> contradiction

theorem sanderLaw_refill (now : Millis) {d : Sander} (h : DrainedLaw fills d) (hs : ¬spreading d = true) (hb : d.box ≠ 0) :
    SanderLaw fills (refill now d) := by
  obtain ⟨-, interval⟩ := h.shut hs
  unfold refill
  refine sanderLaw_openValve _ _ rfl (fun _ _ => ?_) fun hf hd => ?_
  · rw [settleBox_shut (by exact interval)]; exact hb
  · exact absurd ((spreading_iff d).mpr (.inr ((h.2.2 hf).2 hd))) hs

theorem sanderLaw_fillFromEmpty (now : Millis) (set : RateSet) {d : Sander} (h : DrainedLaw fills d)
    (hs : ¬spreading d = true) (hb : d.box ≠ 0) : SanderLaw fills (fillFromEmpty now set d) :=
  sanderLaw_refill now (d := { d with flowDelay := set.flowDelay, fillBase := set.base, pipe := 0, rest := 0 }) h hs hb

/-! ### FILLED (R102) -/

theorem fillBox_shut {now : Millis} {mg : Nat} {d : Sander} (h : d.interval = none) : fillBox now mg d =
    { d with box := mg, emptyReported := if 0 < mg then false else d.emptyReported } := by
  unfold fillBox; rw [h]

theorem fillBox_open {now : Millis} {mg : Nat} {d : Sander} {i : OpenInterval} (h : d.interval = some i) (hmg : mg ≠ 0) :
    fillBox now mg d = { d with box := mg, emptyReported := false, interval := some ⟨now, mg, i.base⟩ } := by
  unfold fillBox
  simp only [h, hmg, if_false, if_pos (Nat.pos_of_ne_zero hmg)]

theorem fillBox_emptied {now : Millis} {d : Sander} {i : OpenInterval} (h : d.interval = some i) :
    fillBox now 0 d = { d with box := 0, valveOpen := false, interval := none } := by
  unfold fillBox
  simp [h]

theorem sanderLaw_fillBox {now : Millis} {mg : Nat} {d : Sander} (h : SanderLaw fills d) (hmg : mg ≠ 0) :
    SanderLaw fills (fillBox now mg d) := by
  obtain ⟨spread, interval, fill⟩ := h.drained
  cases hi : d.interval with
  | none => rw [fillBox_shut hi]; exact sanderLaw_iff.mpr ⟨⟨spread, interval, fill⟩, fun _ => hmg⟩
  | some i =>
    rw [fillBox_open hi hmg]
    exact sanderLaw_iff.mpr ⟨⟨spread, by rw [interval, hi]; rfl, fill⟩, fun _ => hmg⟩

theorem spreading_fillBox (now : Millis) (mg : Nat) (d : Sander) : spreading (fillBox now mg d) = spreading d := by
  unfold fillBox
  simp only
  split
  · split <;> rfl
  · rfl

/-- R102: a FILLED of 0 g leaves a sander that does not spread as it was but for its box. -/
theorem sanderLaw_fillBox_zero {now : Millis} {d : Sander} (h : SanderLaw fills d)
    (hs : ¬spreading (fillBox now 0 d) = true) : SanderLaw fills (fillBox now 0 d) := by
  rw [spreading_fillBox] at hs
  rw [fillBox_shut (h.drained.shut hs).2]
  exact DrainedLaw.rests h.drained hs

/-! ## The law of both sanders -/

/-- The law of both sanders. -/
def SandersLaw (fills : Prop) (s : Station) : Prop := ∀ x, SanderLaw fills (sanderAt s x)

/-- The same between the steps of a decision. -/
def SandersDrained (fills : Prop) (s : Station) : Prop := ∀ x, DrainedLaw fills (sanderAt s x)

theorem SandersLaw.drained {s : Station} (h : SandersLaw fills s) : SandersDrained fills s := fun x => (h x).drained

theorem forall_axle {p : Axle → Prop} (x : Axle) (hx : p x) (hother : p (otherAxle x)) : ∀ y, p y := by
  intro y
  cases x <;> cases y
  · exact hx
  · exact hother
  · exact hother
  · exact hx

theorem forall_setSander {p : Sander → Prop} {s : Station} {x : Axle} {d : Sander} (hx : p d)
    (hother : p (sanderAt s (otherAxle x))) : ∀ y, p (sanderAt (setSander s x d) y) :=
  forall_axle x (by rw [sanderAt_setSander]; exact hx) (by rw [sanderAt_setSander_other]; exact hother)

/-- A row that runs one sander and leaves the other. -/
theorem sandersLaw_row {s t : Station} {x : Axle} (h : SandersLaw fills s)
    (hother : sanderAt t (otherAxle x) = sanderAt s (otherAxle x)) (hx : SanderLaw fills (sanderAt t x)) : SandersLaw fills t :=
  forall_axle x hx (hother ▸ h _)

theorem sandersLaw_of_sanders {s t : Station} (h : SandersLaw fills s) (e : t.sanders = s.sanders) : SandersLaw fills t :=
  fun x => by unfold sanderAt; rw [e]; exact h x

theorem sandersDrained_of_sanders {s t : Station} (h : SandersDrained fills s) (e : t.sanders = s.sanders) :
    SandersDrained fills t := fun x => by unfold sanderAt; rw [e]; exact h x

theorem tailNow_other (x : Axle) (s : Station) : sanderAt (tailNow x s) (otherAxle x) = sanderAt s (otherAxle x) := by
  unfold tailNow
  simp only
  split
  · exact sanderAt_setSander_other _ _ _
  · rfl

/-- A sander that spreads enters TAILING, whatever its valve and box; one that does not stands by its law. -/
theorem sanderLaw_tailNow {x : Axle} {s : Station} (hx : ¬spreading (sanderAt s x) = true → SanderLaw fills (sanderAt s x)) :
    SanderLaw fills (sanderAt (tailNow x s) x) := by
  unfold tailNow
  simp only
  split
  · rw [sanderAt_setSander]; exact sanderLaw_toTailing _ _
  · rename_i rests
    exact hx rests

theorem sandersLaw_tails (x : Axle) {s : Station} (h : SandersLaw fills s) : SandersLaw fills (tailNow x s) :=
  sandersLaw_row h (tailNow_other x s) (sanderLaw_tailNow fun _ => h x)

/-! ## The position unit's announcements (R97) -/

theorem sandersLaw_resolveNow {s : Station} (h : SandersLaw fills s) : SandersLaw fills (resolveNow s) := by
  unfold resolveNow inhibitTailing
  simp only
  split
  · exact sandersLaw_tails _ (sandersLaw_of_sanders h rfl)
  · exact sandersLaw_of_sanders h rfl

theorem sandersLaw_takeChange (c : EndChange) {s : Station} (h : SandersLaw fills s) : SandersLaw fills (takeChange c s) := by
  unfold takeChange announceChange
  simp only
  refine sandersLaw_resolveNow ?_
  split
  · exact sandersLaw_of_sanders h rfl
  · exact sandersLaw_tails _ (sandersLaw_of_sanders h rfl)

theorem sandersLaw_takePending {s : Station} (h : SandersLaw fills s) : SandersLaw fills (takePending s) := by
  unfold takePending
  split
  · exact sandersLaw_takeChange _ h
  · exact h

theorem sandersLaw_deadReckon {s : Station} (h : SandersLaw fills s) : SandersLaw fills (deadReckon s) := by
  unfold deadReckon
  split
  · exact sandersLaw_resolveNow (sandersLaw_of_sanders h rfl)
  · exact h

theorem sandersLaw_deadReckoningLimit {s : Station} (h : SandersLaw fills s) : SandersLaw fills (deadReckoningLimit s) := by
  unfold deadReckoningLimit
  split
  · exact sandersLaw_resolveNow (sandersLaw_of_sanders h rfl)
  · exact h

theorem sandersLaw_positionDemand (c : CabEnd) (d : DemandContent) {s : Station} (h : SandersLaw fills s) :
    SandersLaw fills (positionDemand c d s) := by
  have settled {t : Station} (h : SandersLaw fills t) : SandersLaw fills (settleEnd d t) := by
    unfold settleEnd
    split
    · exact sandersLaw_of_sanders h rfl
    · split
      · exact sandersLaw_takeChange _ h
      · exact sandersLaw_of_sanders h rfl
  have anchored (n : Nat) {t : Station} (h : SandersLaw fills t) : SandersLaw fills (anchor n t) := by
    unfold anchor
    refine sandersLaw_resolveNow ?_
    split <;> exact sandersLaw_of_sanders h rfl
  have law := settled (t := { s with pos := { s.pos with lastTaken := some ⟨c, s.time⟩ } }) (sandersLaw_of_sanders h rfl)
  unfold positionDemand
  simp only
  split
  · exact h
  · split
    · exact anchored _ law
    · exact sandersLaw_deadReckon law

theorem sandersLaw_beginStandstill {s : Station} (h : SandersLaw fills s) : SandersLaw fills (beginStandstill s) := by
  obtain ⟨_, standing⟩ := stood_frame s
  obtain ⟨_, _, _, _, e⟩ := evaluate_frame false (stood s)
  rw [beginStandstill_eq]
  refine sandersLaw_takePending (sandersLaw_of_sanders h ?_)
  rw [e, standing]

theorem sandersLaw_standstillExpiry {s : Station} (h : SandersLaw fills s) : SandersLaw fills (standstillExpiry s) := by
  unfold standstillExpiry
  split
  · exact sandersLaw_beginStandstill h
  · exact h

/-! ## The speed sample -/

theorem sandersLaw_stillTest {s : Station} (h : SandersLaw fills s) : SandersLaw fills (stillTest s) := by
  unfold stillTest
  simp only
  split
  · exact sandersLaw_standstillExpiry (sandersLaw_of_sanders h rfl)
  · split
    · obtain ⟨_, _, _, _, e⟩ := endStandstill_frame s
      exact sandersLaw_of_sanders h (by rw [e])
    · exact sandersLaw_of_sanders h rfl

theorem sanders_holdSample (s : Station) : (holdSample s).sanders = (stillTest s).sanders := by
  have park (t : Station) : (parkTest t).sanders = t.sanders := by obtain ⟨_, _, _, _, e⟩ := parkTest_frame t; rw [e]
  have hill (t : Station) : (hillSample t).sanders = t.sanders := by obtain ⟨_, e⟩ := hillSample_frame t; rw [e]
  have level (b : Bool) (t : Station) : (levelStart b t).sanders = t.sanders := by obtain ⟨_, e⟩ := levelStart_frame b t; rw [e]
  have release (t : Station) : (releaseForward t).sanders = t.sanders := by
    obtain ⟨_, _, e⟩ := releaseForward_frame t; rw [e]
  have rollback (t : Station) : (rollbackTest t).sanders = t.sanders := by
    obtain ⟨_, _, _, _, _, _, e⟩ := rollbackTest_frame t; rw [e]
  have wheel (t : Station) : (wheelWake t).sanders = t.sanders := by
    obtain ⟨_, _, _, _, _, _, e⟩ := wheelWake_frame t; rw [e]
  have publish (t : Station) : (holdPublish t).sanders = t.sanders := rfl
  unfold holdSample
  simp only
  rw [publish, park, hill, level, release, rollback, wheel]

theorem sandersLaw_positionSample {s : Station} (h : SandersLaw fills s) : SandersLaw fills (positionSample s) := by
  have advanced : SandersLaw fills (advanceOdometry s) := sandersLaw_of_sanders h rfl
  exact sandersLaw_of_sanders (sandersLaw_deadReckoningLimit advanced) rfl

theorem sanders_announced (f : Station → Station) (s : Station) : (announced f s).sanders = (f s).sanders := by
  obtain ⟨_, e⟩ := announced_frame f s; rw [e]

theorem sanders_command (seeded : Bool) (s : Station) : (command seeded s).sanders = s.sanders := by
  have creep : (creepSample seeded s).sanders = s.sanders := by
    obtain ⟨_, _, _, _, _, _, _, _, e⟩ := creepSample_frame seeded s; rw [e]
  have orders (t : Station) : (sendOrders (flagCandidates t)).sanders = t.sanders := rfl
  exact (orders _).trans creep

theorem sandersLaw_judge {s : Station} (h : SandersLaw fills s) : SandersLaw fills (judge s) := by
  have learn (x : Axle) (t : Station) : (learnSample x t).sanders = t.sanders := by obtain ⟨_, e⟩ := learnSample_frame x t; rw [e]
  have move (t : Station) : (moveReference t).sanders = t.sanders := by obtain ⟨_, _, e⟩ := moveReference_frame t; rw [e]
  have placed : SandersLaw fills (positionSample (learnSample .b (learnSample .a (moveReference s)))) :=
    sandersLaw_positionSample (sandersLaw_of_sanders h (by rw [learn, learn, move]))
  exact sandersLaw_of_sanders (sandersLaw_stillTest placed) (sanders_holdSample _)

theorem sandersLaw_speedSample {s : Station} (h : SandersLaw fills s) : SandersLaw fills (speedSample s) := by
  have measured : (measure { s with lastSample := s.time }).sanders = s.sanders := by
    obtain ⟨_, _, _, _, e⟩ := measure_frame { s with lastSample := s.time }; rw [e]
  refine sandersLaw_of_sanders (sandersLaw_judge (sandersLaw_of_sanders h measured)) ?_
  rw [speedSample, sanders_announced, sampleSteps, sanders_command]

/-! ## The sander rows -/

theorem sanderAt_noteEmpty (x y : Axle) (s : Station) :
    ∃ b, sanderAt (noteEmpty x s) y = { sanderAt s y with emptyReported := b } := by
  unfold noteEmpty
  simp only
  split
  · cases x <;> cases y <;> exact ⟨_, rfl⟩
  · exact ⟨_, rfl⟩

theorem sanderAt_recordCell (x y : Axle) (s : Station) :
    ∃ c, sanderAt (recordCell x s) y = { sanderAt s y with lastCell := c } := by
  unfold recordCell
  simp only
  obtain ⟨_, _, e⟩ := observe_frame .sanded (pick s.pos.attrSander x).mapCell 0
    (setSander s x { sanderAt s x with lastCell := some (routeCell (pick s.pos.attrSander x).position) })
  rw [e]
  cases x <;> cases y <;> exact ⟨_, rfl⟩

theorem sanderAt_recordNewCell (x y : Axle) (s : Station) :
    ∃ c, sanderAt (recordNewCell x s) y = { sanderAt s y with lastCell := c } := by
  unfold recordNewCell
  simp only
  split
  · exact sanderAt_recordCell x y s
  · exact ⟨_, rfl⟩

theorem drained_lastCell {d : Sander} (h : DrainedLaw fills d) (c : Option Nat) : DrainedLaw fills { d with lastCell := c } := h

/-- R98: a dosing period begins in FLOWING. -/
theorem sanderLaw_beginPeriod (start : Millis) {x : Axle} {s : Station} (hx : (sanderAt s x).state = .flowing) :
    SanderLaw fills (sanderAt (beginPeriod start x s) x) := by
  unfold beginPeriod
  simp only
  rw [closeValve_eq, sanderAt_setSander]
  refine sanderLaw_openValve _ _ ((spreading_iff _).mpr (.inr hx)) (fun _ hf => ?_) fun _ _ => hx
  rw [show (sanderAt s x).state = .filling from hf] at hx
  cases hx

theorem beginPeriod_other (start : Millis) (x : Axle) (s : Station) :
    sanderAt (beginPeriod start x s) (otherAxle x) = sanderAt s (otherAxle x) := sanderAt_setSander_other _ _ _

theorem recordCell_other (x : Axle) (s : Station) : sanderAt (recordCell x s) (otherAxle x) = sanderAt s (otherAxle x) := by
  unfold recordCell
  simp only
  obtain ⟨_, _, e⟩ := observe_frame .sanded (pick s.pos.attrSander x).mapCell 0
    (setSander s x { sanderAt s x with lastCell := some (routeCell (pick s.pos.attrSander x).position) })
  rw [e]
  exact sanderAt_setSander_other _ _ _

theorem sanderLaw_enterFlowing (x : Axle) (s : Station) : SanderLaw fills (sanderAt (enterFlowing x s) x) := by
  unfold enterFlowing
  simp only
  obtain ⟨_, own⟩ := sanderAt_recordCell x x (setSander s x { sanderAt s x with state := .flowing, pipe := (sanderAt s x).flowDelay })
  refine sanderLaw_beginPeriod _ ?_
  rw [own, sanderAt_setSander]

theorem sanderLaw_pipeFull {x : Axle} {s : Station} (h : SanderLaw fills (sanderAt s x)) :
    SanderLaw fills (sanderAt (pipeFull x s) x) := by
  unfold pipeFull
  simp only
  split
  · exact sanderLaw_enterFlowing x s
  · exact h

theorem pipeFull_other (x : Axle) (s : Station) : sanderAt (pipeFull x s) (otherAxle x) = sanderAt s (otherAxle x) := by
  unfold pipeFull enterFlowing
  simp only
  split
  · rw [beginPeriod_other, recordCell_other, sanderAt_setSander_other]
  · rfl

theorem sanderLaw_dosingPeriodStart {x : Axle} {s : Station} (h : SanderLaw fills (sanderAt s x)) :
    SanderLaw fills (sanderAt (dosingPeriodStart x s) x) := by
  unfold dosingPeriodStart
  simp only
  split
  · rename_i flowing _
    split
    · exact sanderLaw_beginPeriod _ flowing
    · exact h
  · exact h

theorem dosingPeriodStart_other (x : Axle) (s : Station) :
    sanderAt (dosingPeriodStart x s) (otherAxle x) = sanderAt s (otherAxle x) := by
  unfold dosingPeriodStart
  simp only
  split
  · split
    · exact beginPeriod_other _ _ _
    · rfl
  · rfl

theorem sanderLaw_reopen {x : Axle} {s : Station} (h : SanderLaw fills (sanderAt s x)) :
    SanderLaw fills (sanderAt (reopen x s) x) := by
  unfold reopen
  simp only
  split
  · rename_i flowing _
    split
    · exact h
    · rw [sanderAt_setSander]
      refine sanderLaw_openValve _ _ ((spreading_iff _).mpr (.inr flowing)) (fun _ hf => ?_) fun _ _ => flowing
      rw [flowing] at hf
      cases hf
  · exact h

theorem reopen_other (x : Axle) (s : Station) : sanderAt (reopen x s) (otherAxle x) = sanderAt s (otherAxle x) := by
  unfold reopen
  simp only
  split
  · split
    · rfl
    · exact sanderAt_setSander_other _ _ _
  · rfl

theorem sanderLaw_tailEmpty {x : Axle} {s : Station} (h : SanderLaw fills (sanderAt s x)) :
    SanderLaw fills (sanderAt (tailEmpty x s) x) := by
  unfold tailEmpty
  simp only
  split
  · rename_i tail
    have rests : ¬spreading (sanderAt s x) = true := not_spreading (by rw [tail.1]; nofun) (by rw [tail.1]; nofun)
    rw [sanderAt_setSander]
    split
    · exact sanderLaw_idle h.drained rests nofun rfl rfl rfl
    · exact sanderLaw_idle h.drained rests nofun rfl rfl rfl
  · exact h

theorem tailEmpty_other (x : Axle) (s : Station) : sanderAt (tailEmpty x s) (otherAxle x) = sanderAt s (otherAxle x) := by
  unfold tailEmpty
  simp only
  split
  · exact sanderAt_setSander_other _ _ _
  · rfl

theorem sanderLaw_restExpiry {x : Axle} {s : Station} (h : SanderLaw fills (sanderAt s x)) :
    SanderLaw fills (sanderAt (restExpiry x s) x) := by
  unfold restExpiry
  simp only
  split
  · rename_i rest
    have rests : ¬spreading (sanderAt s x) = true := not_spreading (by rw [rest.1]; nofun) (by rw [rest.1]; nofun)
    rw [sanderAt_setSander]
    exact sanderLaw_idle h.drained rests nofun rfl rfl rfl
  · exact h

theorem restExpiry_other (x : Axle) (s : Station) : sanderAt (restExpiry x s) (otherAxle x) = sanderAt s (otherAxle x) := by
  unfold restExpiry
  simp only
  split
  · exact sanderAt_setSander_other _ _ _
  · rfl

theorem sandersLaw_dutyLimit {x : Axle} {s : Station} (h : SandersLaw fills s) : SandersLaw fills (dutyLimit x s) := by
  have owed : SandersLaw fills (setSander s x { sanderAt s x with restOwed := true }) := forall_setSander (h x) (h _)
  unfold dutyLimit
  simp only
  split
  · split
    · exact owed
    · exact sandersLaw_tails x owed
  · exact h

theorem sandersLaw_openTimeEnd {x : Axle} {s : Station} (h : SandersLaw fills s) : SandersLaw fills (openTimeEnd x s) := by
  unfold openTimeEnd
  simp only
  split
  · rename_i ended
    exact forall_setSander (sanderLaw_openTimeOver (h x).drained ended.2) (h _)
  · exact h

/-- An empty box stands under a closed valve once the sander has tailed. -/
theorem sandersLaw_sandEmpty {x : Axle} {s : Station} (h : SandersLaw fills s) : SandersLaw fills (sandEmpty x s) := by
  unfold sandEmpty
  simp only
  split
  · have settled : DrainedLaw fills (sanderAt (setSander s x (settleBox s.time (sanderAt s x))) x) := by
      rw [sanderAt_setSander]; exact drainedLaw_settleBox _ (h x).drained
    obtain ⟨_, own⟩ := sanderAt_noteEmpty x x (setSander s x (settleBox s.time (sanderAt s x)))
    obtain ⟨_, other⟩ := sanderAt_noteEmpty x (otherAxle x) (setSander s x (settleBox s.time (sanderAt s x)))
    refine forall_axle x (sanderLaw_tailNow ?_) ?_
    · rw [own]; exact settled.rests
    · rw [tailNow_other, other, sanderAt_setSander_other]; exact h _
  · exact h

theorem sandersLaw_takeFilled (x : Axle) (grams : Nat) {s : Station} (h : SandersLaw fills s) :
    SandersLaw fills (takeFilled x grams s) := by
  unfold takeFilled
  simp only
  split
  · rename_i zero
    rw [zero]
    have tails (t : Station) (b : Bool) (ht : t.sanders =
        (setSander s x { fillBox s.time 0 (sanderAt s x) with emptyReported := b }).sanders) :
        SandersLaw fills (tailNow x t) := by
      have own : sanderAt t x = { fillBox s.time 0 (sanderAt s x) with emptyReported := b } := by
        unfold sanderAt; rw [ht]; exact pick_put _ x _
      have other : sanderAt t (otherAxle x) = sanderAt s (otherAxle x) := by
        unfold sanderAt; rw [ht]; exact pick_put_other _ x _
      refine forall_axle x (sanderLaw_tailNow ?_) ?_
      · rw [own]; exact sanderLaw_fillBox_zero (h x)
      · rw [tailNow_other, other]; exact h _
    split
    · refine tails _ true ?_
      rw [report_sanders, setSander_sanders, setSander_sanders, sanderAt_setSander, put_put]
      rfl
    · exact tails _ _ rfl
  · rename_i some'
    exact forall_setSander (sanderLaw_fillBox (h x) some') (h _)

/-! ## The sander decision (R86) -/

theorem drainedLaw_advanceTimes (now : Millis) {d : Sander} (h : DrainedLaw fills d) : DrainedLaw fills (advanceTimes now d) := by
  unfold advanceTimes
  simp only
  split <;> exact h

theorem sandersDrained_advanceSander {x : Axle} {s : Station} (h : SandersDrained fills s) :
    SandersDrained fills (advanceSander x s) := by
  have advanced : SandersDrained fills (setSander s x (advanceTimes s.time (sanderAt s x))) :=
    forall_setSander (drainedLaw_advanceTimes _ (h x)) (h _)
  have ended : SandersDrained fills (openTimeEnd x (setSander s x (advanceTimes s.time (sanderAt s x)))) := by
    unfold openTimeEnd
    simp only
    split
    · rename_i ended
      exact forall_setSander (sanderLaw_openTimeOver (advanced x) ended.2).drained (advanced _)
    · exact advanced
  intro y
  unfold advanceSander
  simp only
  obtain ⟨_, e⟩ := sanderAt_noteEmpty x y (setSander (openTimeEnd x (setSander s x (advanceTimes s.time (sanderAt s x)))) x
    (settleBox (openTimeEnd x (setSander s x (advanceTimes s.time (sanderAt s x)))).time
      (sanderAt (openTimeEnd x (setSander s x (advanceTimes s.time (sanderAt s x)))) x)))
  rw [e]
  exact forall_setSander (p := DrainedLaw fills) (drainedLaw_settleBox _ (ended x)) (ended _) y

theorem sandersDrained_recordNewCell {x : Axle} {s : Station} (h : SandersDrained fills s) :
    SandersDrained fills (recordNewCell x s) := by
  intro y
  obtain ⟨_, e⟩ := sanderAt_recordNewCell x y s
  rw [e]
  exact drained_lastCell (h y) _

/-- R91: a valve demand reaches the leading sander only with sand in its box. -/
theorem demand_has_sand (s : Station) (x : Axle) (h : demandFor (admitSources s) x = true) :
    (sanderAt (admitSources s) x).box ≠ 0 := by
  intro empty
  simp only [demandFor, leads, Bool.and_eq_true, beq_iff_eq] at h
  obtain ⟨rfl, demand⟩ := h
  have barred : (inhibits (hillSandExpiry (slipHoldExpiry s))).empty = true := decide_eq_true empty
  have none' (a : Sources) : anySource (unbarred (inhibits (hillSandExpiry (slipHoldExpiry s))) a) = false := by
    simp [anySource, unbarred, barred]
  have off : (admitSources s).sanding.demandOn = false := none' _
  rw [off] at demand
  cases demand

/-- What the run of one sander finds of the other. -/
theorem runSander_other (x : Axle) (s : Station) : sanderAt (runSander x s) (otherAxle x) = sanderAt s (otherAxle x) := by
  unfold runSander
  simp only
  split
  · split
    · exact sanderAt_setSander_other _ _ _
    · rfl
  · split
    · exact tailNow_other x s
    · exact pipeFull_other x s
  · split
    · exact tailNow_other x s
    · rw [reopen_other, dosingPeriodStart_other]
  · split
    · exact sanderAt_setSander_other _ _ _
    · exact tailEmpty_other x s
  · split
    · exact sanderAt_setSander_other _ _ _
    · exact restExpiry_other x s

/-- R93, R94: a sander that goes on has sand. -/
theorem mustTail_box {s : Station} {x : Axle} (h : ¬mustTail s x = true) : (sanderAt s x).box ≠ 0 := by
  intro hb
  simp [mustTail, hb] at h

/-- Step 5 brings a sander back to its law. -/
theorem sanderLaw_runSander {x : Axle} {s : Station} (h : DrainedLaw fills (sanderAt s x))
    (sand : demandFor s x = true → (sanderAt s x).box ≠ 0) : SanderLaw fills (sanderAt (runSander x s) x) := by
  unfold runSander
  simp only
  split
  · rename_i state
    have rests := not_spreading (d := sanderAt s x) (by rw [state]; nofun) (by rw [state]; nofun)
    split
    · rename_i demand
      unfold startFilling
      rw [sanderAt_setSander]
      exact sanderLaw_fillFromEmpty _ _ h rests (sand demand)
    · exact h.rests rests
  · split
    · exact sanderLaw_tailNow h.rests
    · rename_i stays
      exact sanderLaw_pipeFull (h.sandy (mustTail_box stays))
  · split
    · exact sanderLaw_tailNow h.rests
    · rename_i stays
      exact sanderLaw_reopen (sanderLaw_dosingPeriodStart (h.sandy (mustTail_box stays)))
  · rename_i state
    have rests := not_spreading (d := sanderAt s x) (by rw [state]; nofun) (by rw [state]; nofun)
    split
    · rename_i demand
      rw [sanderAt_setSander]
      exact sanderLaw_refill _ h rests (sand demand)
    · exact sanderLaw_tailEmpty (h.rests rests)
  · rename_i state
    have rests := not_spreading (d := sanderAt s x) (by rw [state]; nofun) (by rw [state]; nofun)
    split
    · rename_i demand
      unfold startFilling
      rw [sanderAt_setSander]
      exact sanderLaw_fillFromEmpty _ _ h rests (sand (Bool.and_eq_true _ _ ▸ demand).1)
    · exact sanderLaw_restExpiry (h.rests rests)

/-- The run of one sander leaves what the other's demand reads. -/
theorem demandFor_runSander (x y : Axle) (s : Station) : demandFor (runSander x s) y = demandFor s y := by
  obtain ⟨_, _, _, e⟩ := runSander_frame x s
  rw [e]
  rfl

theorem sandersLaw_sanderDecision {s : Station} (h : SandersLaw fills s) : SandersLaw fills (sanderDecision s) := by
  have advanced : SandersDrained fills (advanceSander .b (advanceSander .a
      { s with sanding := { s.sanding with lastDecision := s.time } })) :=
    sandersDrained_advanceSander (sandersDrained_advanceSander (sandersDrained_of_sanders h.drained rfl))
  have recorded := sandersDrained_recordNewCell (x := .b) (sandersDrained_recordNewCell (x := .a) advanced)
  have aimed (t : Station) : (admitSources (queryAim (dropPassedAim t))).sanders = t.sanders := by
    obtain ⟨_, query⟩ := queryAim_frame (dropPassedAim t)
    obtain ⟨_, passed⟩ := dropPassedAim_frame t
    rw [query, passed]
    rfl
  unfold sanderDecision
  simp only
  have found := sandersDrained_of_sanders recorded (aimed _)
  generalize ht : queryAim (dropPassedAim (recordNewCell .b (recordNewCell .a (advanceSander .b (advanceSander .a
    { s with sanding := { s.sanding with lastDecision := s.time } }))))) = t at found ⊢
  refine sandersLaw_of_sanders (s := runSander .b (runSander .a (admitSources t))) (forall_axle .b ?_ ?_) rfl
  · have other : sanderAt (runSander .a (admitSources t)) .b = sanderAt (admitSources t) .b := runSander_other .a _
    refine sanderLaw_runSander (by rw [other]; exact found .b) fun demand => ?_
    rw [demandFor_runSander] at demand
    rw [other]
    exact demand_has_sand t .b demand
  · have kept : sanderAt (runSander .b (runSander .a (admitSources t))) .a = sanderAt (runSander .a (admitSources t)) .a :=
      runSander_other .b _
    rw [show otherAxle .b = .a from rfl, kept]
    exact sanderLaw_runSander (found .a) (demand_has_sand t .a)

/-! ## The law through the commands -/

/-- The commands that may write to the sanders. -/
def writesSanders : Instr → Bool
  | .powerOnStart .. | .restart .. | .supplyLoss | .speedSample | .sanderDecision | .demandArrival _ | .demandSilence
  | .filled _ | .deadReckoningLimit | .pipeFull _ | .tailEmpty _ | .dutyLimit _ | .restExpiry _ | .dosingPeriodStart _
  | .openTimeEnd _ | .sandEmpty _ | .standstill => true
  | _ => false

theorem sanders_whenRunning {f : Station → Station} {s : Station} (h : (f s).sanders = s.sanders) :
    (whenRunning f s).sanders = s.sanders := whenRunning_keeps (P := fun t => t.sanders = s.sanders) rfl fun _ => h

theorem sanders_taken {code : Byte} {r : Request} {f : Station → Station} {s : Station} (h : (f s).sanders = s.sanders) :
    (taken code r f s).sanders = s.sanders :=
  taken_keeps (P := fun t => t.sanders = s.sanders) (fun _ _ hs => hs) rfl fun _ => h

theorem sanders_after {c : Instr} (hc : writesSanders c = false) (z : Station) : (stationAfter c z).sanders = z.sanders := by
  have announced (f : Station → Station) (h : (f z).sanders = z.sanders) : (announced f z).sanders = z.sanders := by
    obtain ⟨_, e⟩ := announced_frame f z; rw [e]; exact h
  cases c with
  | powerOnStart | restart | supplyLoss | speedSample | sanderDecision | demandArrival | demandSilence | filled
  | deadReckoningLimit | pipeFull | tailEmpty | dutyLimit | restExpiry | dosingPeriodStart | openTimeEnd | sandEmpty
  | standstill => cases hc
  | wheelSpeedEdge | sweep | statusBuild | slipHoldExpiry | hillStartSandingExpiry => exact sanders_whenRunning rfl
  | blendEvent => obtain ⟨_, _, e⟩ := blendEvent_frame z; exact sanders_whenRunning (by rw [e])
  | statusArrival f =>
    refine sanders_whenRunning ?_
    unfold statusArrival
    split
    · split
      · obtain ⟨_, _, _, e⟩ := duplicate_frame z; rw [e]
      · split
        · rfl
        · obtain ⟨_, _, e⟩ := acceptStatus_frame _ _ f.sequence z; rw [e]
    · rfl
  | railReportArrival f =>
    refine sanders_whenRunning ?_
    unfold railReportArrival
    split
    · split
      · rfl
      · obtain ⟨_, e⟩ := railReport_frame _ z; rw [e]
    · rfl
  | mapClearArrival f =>
    refine sanders_whenRunning ?_
    unfold mapClearArrival
    split
    · obtain ⟨_, _, _, e⟩ := takeClear_frame _ _ z; rw [e]
    · rfl
  | clearMap r =>
    refine sanders_whenRunning (sanders_taken ?_)
    unfold clearMap
    split
    · obtain ⟨_, _, _, e⟩ := serviceClear_frame _ z; rw [e]; rfl
    · rfl
  | peerRecordSilent n => obtain ⟨_, _, e⟩ := peerSilent_frame n z; exact sanders_whenRunning (by rw [e])
  | peerLost n => obtain ⟨_, _, e⟩ := peerLost_frame n z; exact sanders_whenRunning (by rw [e])
  | contentionLost => obtain ⟨_, _, e⟩ := contentionLost_frame z; exact sanders_whenRunning (by rw [e])
  | frameSent => obtain ⟨_, _, e⟩ := frameSent_frame z; exact sanders_whenRunning (by rw [e])
  | lineFreeOffer => obtain ⟨_, e⟩ := lineFreeOffer_frame z; exact sanders_whenRunning (by rw [e])
  | statusSlotExpiry =>
    refine sanders_whenRunning ?_
    unfold statusSlotExpiry
    split <;> rfl
  | outboxExpiry => obtain ⟨_, _, e⟩ := expireOutbox_frame z; exact sanders_whenRunning (by rw [e])
  | inverterReport b =>
    refine sanders_whenRunning ?_
    unfold inverterReport
    split <;> rfl
  | brakeUnitReport b =>
    refine sanders_whenRunning ?_
    unfold brakeReport
    split <;> rfl
  | plantSilenceExpiry u =>
    refine sanders_whenRunning ?_
    unfold plantSilence
    split
    · obtain ⟨_, _, e⟩ := inverterSilence_frame z; rw [e]
    · obtain ⟨_, _, e⟩ := brakeSilence_frame z; rw [e]
  | emergencyLoopChange l => exact (show (loopRaw l z).sanders = z.sanders by unfold loopRaw; split <;> rfl)
  | shoeDownSensorChange l => exact (show (shoeRaw l z).sanders = z.sanders by unfold shoeRaw; split <;> rfl)
  | emergencyLoopDelivery => obtain ⟨_, _, _, _, _, _, _, e⟩ := loopDelivery_frame z; exact sanders_whenRunning (by rw [e])
  | shoeDownDelivery => obtain ⟨_, _, _, e⟩ := shoeDelivery_frame z; exact sanders_whenRunning (by rw [e])
  | loweringTimerExpiry => obtain ⟨_, _, e⟩ := loweringExpiry_frame z; exact sanders_whenRunning (by rw [e])
  | hillStartTimerExpiry => obtain ⟨_, _, e⟩ := hillStartExpiry_frame z; exact sanders_whenRunning (by rw [e])
  | escalationTimerExpiry => obtain ⟨_, e⟩ := escalationExpiry_frame z; exact sanders_whenRunning (by rw [e])
  | trackBrakeReleaseExpiry => obtain ⟨_, e⟩ := mtbReleaseExpiry_frame z; exact sanders_whenRunning (by rw [e])
  | rollbackTimerExpiry =>
    obtain ⟨_, _, _, _, _, _, e⟩ := rollbackExpiry_frame z
    exact sanders_whenRunning (announced rollbackExpiry (by rw [e]))
  | wheelMovementWake =>
    obtain ⟨_, _, _, _, _, _, e⟩ := wheelWake_frame z
    exact sanders_whenRunning (announced wheelWake (by rw [e]))
  | parkTimerExpiry =>
    obtain ⟨_, _, _, _, e⟩ := parkExpiry_frame z
    exact sanders_whenRunning (announced parkExpiry (by rw [e]))
  | storeWriteEnd =>
    refine sanders_whenRunning ?_
    unfold storeWriteEnd
    split
    · rfl
    · simp only
      split <;> rfl
  | readStatus | readFaults | readMap | clearAllFaults | clearOverflow | badRequest => exact sanders_whenRunning (sanders_taken rfl)
  | clearFault r =>
    refine sanders_whenRunning (sanders_taken ?_)
    unfold clearFault
    split <;> rfl
  | writeCommissioning r =>
    refine sanders_whenRunning (sanders_taken ?_)
    unfold writeCommissioning
    simp only
    split <;> rfl
  | extrapolationBudgetSpent => obtain ⟨_, _, e⟩ := budgetSpent_frame z; exact sanders_whenRunning (by rw [e])
  | sensorSilenceExpiry x => obtain ⟨_, _, _, e⟩ := silenceRow_frame x z; exact sanders_whenRunning (by rw [e])
  | releaseTimerExpiry x => obtain ⟨_, _, _, e⟩ := releaseRow_frame x z; exact sanders_whenRunning (by rw [e])
  | trimStep x => obtain ⟨_, e⟩ := trimExpiry_frame x z; exact sanders_whenRunning (by rw [e])
  | calmTimerExpiry x => obtain ⟨_, e⟩ := calmExpiry_frame x z; exact sanders_whenRunning (by rw [e])
  | slipPersistent x => obtain ⟨_, _, e⟩ := slipPersistent_frame x z; exact sanders_whenRunning (by rw [e])
  | recoveryHoldExpiry x => obtain ⟨_, e⟩ := recoveryHoldExpiry_frame x z; exact sanders_whenRunning (by rw [e])
  | lockTimerExpiry x => obtain ⟨_, e⟩ := lockExpiry_frame x z; exact sanders_whenRunning (by rw [e])
  | wheelLock x => obtain ⟨_, _, e⟩ := wheelLockExpiry_frame x z; exact sanders_whenRunning (by rw [e])
  | reslipCeilingExpiry x => obtain ⟨_, e⟩ := reslipExpiry_frame x z; exact sanders_whenRunning (by rw [e])

theorem sandersLaw_demandArrival (f : Frame) {s : Station} (h : SandersLaw fills s) : SandersLaw fills (demandArrival f s) := by
  unfold demandArrival
  split
  · rename_i cab d _
    split
    · exact h
    · obtain ⟨_, _, wake⟩ := demandWake_frame (positionDemand cab d (evaluate true (settleGoverning cab
        (recordDemand cab d f.sequence s))))
      obtain ⟨_, _, _, _, evaluated⟩ := evaluate_frame true (settleGoverning cab (recordDemand cab d f.sequence s))
      obtain ⟨_, _, settled⟩ := settleGoverning_frame cab (recordDemand cab d f.sequence s)
      refine sandersLaw_of_sanders (sandersLaw_positionDemand cab d (sandersLaw_of_sanders h ?_)) (by rw [acceptDemand, wake])
      rw [evaluated, settled]
      rfl
  · exact h

theorem sandersLaw_demandSilence {s : Station} (h : SandersLaw fills s) : SandersLaw fills (demandSilence s) := by
  unfold demandSilence announceSilence
  simp only
  split
  · refine sandersLaw_deadReckon (sandersLaw_of_sanders h ?_)
    split
    · rw [evaluate_frame_fields, report_sanders]
    · rw [evaluate_frame_fields]
  · exact h

theorem sandersLaw_filled (r : Request) {s : Station} (h : SandersLaw fills s) : SandersLaw fills (filled r s) := by
  unfold filled
  split
  · rename_i x _
    obtain ⟨_, save⟩ := requestSave_frame (takeFilled x (bytesAt r.args 1 2) s)
    exact sandersLaw_of_sanders (sandersLaw_takeFilled x (bytesAt r.args 1 2) h) (by rw [save]; rfl)
  · exact sandersLaw_of_sanders h rfl

theorem sandersLaw_enterRun (comm run : EccFinding) (i : StartInput) : SandersLaw fills (enterRun comm run i) := by
  have start : SandersLaw fills (startUnits i) :=
    forall_axle .a (sanderLaw_shut rfl rfl fun _ => ⟨nofun, nofun⟩) (sanderLaw_shut rfl rfl fun _ => ⟨nofun, nofun⟩)
  have store (k : FaultKind) (a b : Bool) (s : Station) (h : SandersLaw fills s) : SandersLaw fills (reportStore k a b s) := by
    unfold reportStore
    split
    · exact sandersLaw_of_sanders h rfl
    · exact h
  exact sandersLaw_of_sanders (store .storeInvalid _ _ _ (store .storeCorrected _ _ _ start)) rfl

/-- Every command but a loss of supply keeps the law of both sanders. -/
theorem sandersLaw_after {c : Instr} {z : Station} (hc : c ≠ .supplyLoss) (h : SandersLaw fills z) :
    SandersLaw fills (stationAfter c z) := by
  by_cases hw : writesSanders c = false
  · exact sandersLaw_of_sanders h (sanders_after hw z)
  cases c with
  | supplyLoss => exact absurd rfl hc
  | powerOnStart => exact sandersLaw_enterRun _ _ _
  | restart =>
    refine whenRunning_keeps h fun h => taken_keeps (fun _ _ hs => sandersLaw_of_sanders hs rfl) h fun h => ?_
    unfold serviceRestart
    split
    · exact sandersLaw_of_sanders h rfl
    · exact sandersLaw_of_sanders (sandersLaw_enterRun _ _ _) rfl
  | speedSample => exact whenRunning_keeps h sandersLaw_speedSample
  | sanderDecision => exact whenRunning_keeps h sandersLaw_sanderDecision
  | demandArrival f => exact whenRunning_keeps h (sandersLaw_demandArrival f)
  | demandSilence => exact whenRunning_keeps h sandersLaw_demandSilence
  | filled r => exact whenRunning_keeps h fun h => taken_keeps (fun _ _ hs => sandersLaw_of_sanders hs rfl) h (sandersLaw_filled r)
  | deadReckoningLimit => exact whenRunning_keeps h sandersLaw_deadReckoningLimit
  | pipeFull => exact whenRunning_keeps h fun h => sandersLaw_row h (pipeFull_other _ _) (sanderLaw_pipeFull (h _))
  | tailEmpty => exact whenRunning_keeps h fun h => sandersLaw_row h (tailEmpty_other _ _) (sanderLaw_tailEmpty (h _))
  | dutyLimit => exact whenRunning_keeps h sandersLaw_dutyLimit
  | restExpiry => exact whenRunning_keeps h fun h => sandersLaw_row h (restExpiry_other _ _) (sanderLaw_restExpiry (h _))
  | dosingPeriodStart =>
    exact whenRunning_keeps h fun h => sandersLaw_row h (dosingPeriodStart_other _ _) (sanderLaw_dosingPeriodStart (h _))
  | openTimeEnd => exact whenRunning_keeps h sandersLaw_openTimeEnd
  | sandEmpty => exact whenRunning_keeps h sandersLaw_sandEmpty
  | standstill => exact whenRunning_keeps h sandersLaw_standstillExpiry
  | _ => exact absurd rfl hw

/-! ## The laws of the statements -/

theorem valvesLaw_iff (s : Station) : ValvesLaw s ↔ SandersLaw False s := by
  constructor
  · rintro ⟨a, b⟩; exact forall_axle .a ⟨a, False.elim⟩ ⟨b, False.elim⟩
  · intro h; exact ⟨(h .a).1, (h .b).1⟩

/-- On a station with supply both laws together. -/
theorem fillingLaw_iff {s : Station} (hl : s.life ≠ .off) (hv : ValvesLaw s) : FillingLaw s ↔ SandersLaw True s := by
  have valves := (valvesLaw_iff s).mp hv
  constructor
  · intro h x
    exact ⟨(valves x).1, fun _ => ⟨(h x).1 hl, (h x).2⟩⟩
  · intro h x
    obtain ⟨filling, dosing⟩ := (h x).2 trivial
    exact ⟨fun _ => filling, dosing⟩

theorem fillingLaw_of_sanders {s : Station} (h : SandersLaw True s) : FillingLaw s := fun x =>
  ⟨fun _ => ((h x).2 trivial).1, ((h x).2 trivial).2⟩

theorem running_life {s : Station} (h : running s = true) : s.life ≠ .off := by
  intro hl; rw [running, hl] at h; cases h

/-- R177: supply is lost: each valve closes. -/
theorem valvesLaw_supplyLoss (s : Station) :
    ValvesLaw (supplyLoss s) ∧ (FillingLaw s → FillingLaw (supplyLoss s)) :=
  ⟨⟨⟨nofun, rfl⟩, ⟨nofun, rfl⟩⟩, fun fill x => ⟨fun hl => absurd rfl hl, by cases x; exacts [(fill .a).2, (fill .b).2]⟩⟩

/-- Without supply the sanders stand as they are, or a start sets them up. -/
theorem stopped_after {c : Instr} {z : Station} (hr : running z = false) (hc : c ≠ .supplyLoss) :
    ((stationAfter c z).sanders = z.sanders ∧ (stationAfter c z).life = z.life) ∨ SandersLaw True (stationAfter c z) := by
  have still (f : Station → Station) : (whenRunning f z).sanders = z.sanders ∧ (whenRunning f z).life = z.life := by
    rw [whenRunning_stopped f z hr]; exact ⟨rfl, rfl⟩
  cases c with
  | supplyLoss => exact absurd rfl hc
  | powerOnStart => exact .inr (sandersLaw_enterRun _ _ _)
  | emergencyLoopChange l =>
    exact .inl (show (loopRaw l z).sanders = z.sanders ∧ (loopRaw l z).life = z.life by unfold loopRaw; split <;> exact ⟨rfl, rfl⟩)
  | shoeDownSensorChange l =>
    exact .inl (show (shoeRaw l z).sanders = z.sanders ∧ (shoeRaw l z).life = z.life by unfold shoeRaw; split <;> exact ⟨rfl, rfl⟩)
  | _ => exact .inl (still _)

/-- The laws of the valves through a command. -/
theorem valvesLaw_after (c : Instr) {z : Station} (h : ValvesLaw z) :
    ValvesLaw (stationAfter c z) ∧ (FillingLaw z → FillingLaw (stationAfter c z)) := by
  by_cases hc : c = .supplyLoss
  · subst hc; exact valvesLaw_supplyLoss z
  refine ⟨(valvesLaw_iff _).mpr (sandersLaw_after hc ((valvesLaw_iff z).mp h)), fun fill => ?_⟩
  cases hr : running z with
  | true => exact fillingLaw_of_sanders (sandersLaw_after hc ((fillingLaw_iff (running_life hr) h).mp fill))
  | false =>
    obtain ⟨sanders, life⟩ | start := stopped_after hr hc
    · unfold FillingLaw; rw [sanders, life]; exact fill
    · exact fillingLaw_of_sanders start

end Sys2Proof.Machine

open Sys2Proof Sys2Proof.Machine

/-- Settles O59: what may leave a valve open over an empty box within a decision is brought back by step 5
(`sanderLaw_runSander`), and a valve demand comes with sand in the leading box (`demand_has_sand`). -/
theorem valvesLawKept : Obligations.ValvesLawKept := by
  intro s t h hs
  have clock (z : Station) : (passMicro z).sanders = z.sanders ∧ (passMicro z).life = z.life := by
    obtain ⟨_, _, _, e⟩ := passMicro_frame z; rw [e]; exact ⟨rfl, rfl⟩
  have kept : ValvesLaw t.station ∧ (FillingLaw s.station → FillingLaw t.station) :=
    step_keeps (P := fun z => ValvesLaw z ∧ (FillingLaw s.station → FillingLaw z))
      (fun z hz => by
        unfold ValvesLaw FillingLaw
        rw [(clock z).1, (clock z).2]
        exact hz)
      (fun c z hz => by
        obtain ⟨valves, filling⟩ := valvesLaw_after c hz.1
        exact ⟨valves, fun fill => filling (hz.2 fill)⟩)
      ⟨h, id⟩ hs
  exact kept

end

section
/-! SUPPORT. The step on an empty queue, the starts and the store: the figures in force, what both kinds of start leave, the
reset station, and the end of a store write. -/

namespace Sys2Proof.Machine

theorem age_self (t : BitVec 32) : age t t = 0 := by simp [age]

/-! ## The figures in force (R55, R56, R176, R182) -/

theorem fieldAt_drop (f : List Int) (k i : Nat) : fieldAt (f.drop k) i = fieldAt f (k + i) := by
  simp [fieldAt, List.getD_eq_getElem?_getD]

theorem windowOf_loadWindow {f : Nat → Int} {l : List Int} (h : ∀ i, fieldAt l i = f i) : WindowOf f (loadWindow l) := by
  simp [WindowOf, loadWindow, clampInt, h]

/-- An index below the length of a mapped range gives the image of the index. -/
theorem getElem?_map_range {α : Type} {n k : Nat} {g : Nat → α} {a : α} (h : ((List.range k).map g)[n]? = some a) :
    a = g n := by
  rw [List.getElem?_map] at h
  obtain ⟨m, hm, rfl⟩ := Option.map_eq_some_iff.mp h
  obtain ⟨_, rfl⟩ := List.getElem?_eq_some_iff.mp hm
  simp

theorem figuresOf_loadFigures (l : List Int) : FiguresOf l (loadFigures l) := by
  intro f hf
  have field (i : Nat) : fieldAt l i = f i := (hf i).symm
  have windows (n : Nat) (w : RouteWindow) (hw : (loadFigures l).windows[n]? = some w) :
      WindowOf (fun i => f (9 + 7 * n + i)) w := by
    rw [getElem?_map_range hw]
    exact windowOf_loadWindow fun i => by rw [fieldAt_drop, field]
  have sets (n : Nat) (r : RateSet) (hr : (loadFigures l).rateSets[n]? = some r) :
      r.base = (f (235 + 6 * n)).toNat ∧ r.flowDelay = (f (236 + 6 * n)).toNat ∧ r.dividers.length = 4 ∧
        ∀ b d, r.dividers[b]? = some d → d = (f (237 + 6 * n + b)).toNat := by
    rw [getElem?_map_range hr]
    refine ⟨by simp [loadRateSet, fieldAt_drop, field], ?_, rfl, fun b d hd => ?_⟩
    · simp only [loadRateSet, fieldAt_drop, field]; congr 2; omega
    · obtain ⟨hb, rfl⟩ := List.getElem?_eq_some_iff.mp hd
      have hb4 : b < 4 := hb
      simp only [loadRateSet, fieldAt_drop, field]
      interval_cases b <;> simp only [List.getElem_cons_zero, List.getElem_cons_succ] <;> congr 2 <;> omega
  exact ⟨congrArg Int.toNat (field 0), by simp [loadFigures, field], field 3, field 4, congrArg Int.toNat (field 5),
    congrArg Int.toNat (field 6), congrArg Int.toNat (field 7), congrArg Int.toNat (field 8), by simp [loadFigures], windows,
    congrArg Int.toNat (field 233), congrArg Int.toNat (field 234), by simp [loadFigures], sets,
    congrArg Int.toNat (field 259), congrArg Int.toNat (field 260), by simp [loadFigures, field]⟩

theorem defaultFigures_default : DefaultFigures defaultFigures := by
  unfold DefaultFigures
  refine ⟨rfl, rfl, rfl, rfl, rfl, rfl, rfl, rfl, rfl, ?_, rfl, rfl, rfl, rfl, rfl, rfl⟩
  decide

theorem startFigures_default {c : CommBlock} (h : c.ecc.uncorrectable = true) : DefaultFigures (startFigures c) := by
  rw [startFigures, if_pos h]; exact defaultFigures_default

theorem startFigures_stored {c : CommBlock} (h : c.ecc.uncorrectable = false) : FiguresOf c.fields (startFigures c) := by
  rw [startFigures, if_neg (by simp [h])]; exact figuresOf_loadFigures _

/-! ## What both kinds of start leave (R182) -/

/-- What a power-on start hands to the units. -/
def powerOnInput (plug : CodePlug) (st : Store) (loop : LoopLevel) (shoe : ShoeLevel) : StartInput :=
  { time := 0, timeUs := 0, subMs := 0, plug := plug, store := { st with write := none, pendingSave := false }
    trims := startTrims st.run, boxes := startBoxes (startFigures st.comm) st.run, faults := emptyTable, loop := loop
    shoe := shoe, reply := none }

theorem powerOnFrom_eq (plug : CodePlug) (st : Store) (loop : LoopLevel) (shoe : ShoeLevel) :
    powerOnFrom plug st loop shoe = enterRun st.comm.ecc st.run.ecc (powerOnInput plug st loop shoe) := rfl

/-- What a RESTART hands to the units. -/
def restartInput (plug : CodePlug) (comm : EccFinding) (s : Station) : StartInput :=
  let st := readStore comm .clean s.store
  let cap := capacityMg (startFigures st.comm)
  { time := s.time, timeUs := s.timeUs, subMs := s.subMs, plug := plug, store := { st with pendingSave := false }
    trims := ⟨s.axles.a.trim, s.axles.b.trim⟩
    boxes := ⟨min (settleBox s.time s.sanders.a).box cap, min (settleBox s.time s.sanders.b).box cap⟩
    faults := s.faults, loop := s.link.loop.raw, shoe := s.link.shoe.raw, reply := some ⟨10, .ok, .empty⟩ }

theorem serviceRestart_busy {plug : CodePlug} {comm : EccFinding} {s : Station} (h : s.store.write ≠ none) :
    serviceRestart plug comm s = { s with reply := some ⟨10, .busy, .empty⟩ } := by
  rw [serviceRestart, if_pos (Option.isSome_iff_ne_none.mpr h)]; rfl

theorem serviceRestart_idle {plug : CodePlug} {comm : EccFinding} {s : Station} (h : s.store.write = none) :
    serviceRestart plug comm s =
      enterRun (readStore comm .clean s.store).comm.ecc .clean (restartInput plug comm s) := by
  rw [serviceRestart, if_neg (by simp [h])]; rfl

/-- The table after a STORE_ fault of a start at a moment, which has no map cell. -/
def storeReported (k : FaultKind) (o : Option FaultDetail) (t : FaultTable) (now : Millis) : FaultTable :=
  match o with
  | some d => recordFault t now none k none (some d)
  | none => t

/-- A start leaves the start values, its faults reported and its first STATUS built. -/
theorem enterRun_eq (comm run : EccFinding) (i : StartInput) : enterRun comm run i = buildStatus { startUnits i with
    faults := storeReported .storeInvalid (blocksShowing comm.uncorrectable run.uncorrectable)
      (storeReported .storeCorrected (blocksShowing comm.corrected run.corrected) i.faults i.time) i.time } := by
  unfold enterRun reportStore
  cases blocksShowing comm.corrected run.corrected <;> cases blocksShowing comm.uncorrectable run.uncorrectable <;> rfl

/-- The STATUS in its slot does not read the slot. -/
theorem statusContent_buildStatus (s : Station) : statusContent (buildStatus s) = statusContent s := rfl

theorem startAxle_values (now : Millis) (trim : Int) : StartAxle now (startAxle now trim) :=
  ⟨rfl, rfl, rfl, rfl, rfl, age_self now, rfl, rfl⟩

theorem startCreep_values (figs : Commissioning) : StartCreep figs.axleMax (startCreep figs) :=
  ⟨rfl, rfl, rfl, rfl, rfl, rfl, rfl, rfl, rfl, rfl, rfl, rfl, rfl, rfl⟩

theorem startSander_values (now : Millis) (box : Nat) : StartSander (startSander now box) :=
  ⟨rfl, rfl, rfl, rfl, rfl, rfl, rfl, rfl, rfl, rfl⟩

theorem lostAttrs_values : LostAttributes (lostAttrs 0) := ⟨rfl, rfl, rfl, rfl, rfl, rfl, rfl, rfl, rfl⟩

/-- The start values of every unit, whatever is in the fault table. -/
theorem startValues_buildStatus (i : StartInput) (t : FaultTable) :
    StartValues (buildStatus { startUnits i with faults := t }) := by
  have now := age_self i.time
  have wheels : StartWheels (buildStatus { startUnits i with faults := t }) :=
    ⟨startAxle_values _ _, startAxle_values _ _, rfl, rfl, rfl, rfl, rfl, startCreep_values _, startCreep_values _, rfl, rfl⟩
  have place : StartPlace (buildStatus { startUnits i with faults := t }) :=
    ⟨rfl, rfl, rfl, rfl, rfl, rfl, rfl, rfl, lostAttrs_values, lostAttrs_values, lostAttrs_values, lostAttrs_values, rfl, rfl,
      rfl, now⟩
  have sanders : StartSanders (buildStatus { startUnits i with faults := t }) :=
    ⟨startSander_values _ _, startSander_values _ _, rfl, rfl, rfl, rfl, rfl, rfl, rfl⟩
  have forces : StartForces (buildStatus { startUnits i with faults := t }) :=
    ⟨rfl, rfl, rfl, rfl, rfl, rfl, rfl, rfl, rfl, rfl, rfl, rfl, rfl, rfl, rfl, rfl, rfl, rfl, rfl, rfl, rfl, rfl, rfl, rfl,
      rfl, rfl⟩
  have hold : StartHold (buildStatus { startUnits i with faults := t }) :=
    ⟨rfl, rfl, rfl, rfl, rfl, rfl, rfl, rfl, rfl, rfl, rfl, rfl, rfl⟩
  have port : StartPort (buildStatus { startUnits i with faults := t }) :=
    ⟨rfl, rfl, rfl, now, rfl, rfl, rfl, rfl, rfl, rfl, rfl, rfl⟩
  exact ⟨wheels, place, sanders, forces, hold, port, rfl, rfl, rfl, rfl, rfl, rfl, now, now, rfl, rfl, rfl, rfl, rfl, now, now⟩

theorem startValues_enterRun (comm run : EccFinding) (i : StartInput) : StartValues (enterRun comm run i) := by
  rw [enterRun_eq]; exact startValues_buildStatus i _

/-- What a start leaves of what it is handed. -/
theorem enterRun_frame (comm run : EccFinding) (i : StartInput) :
    (enterRun comm run i).time = i.time ∧ (enterRun comm run i).timeUs = i.timeUs ∧ (enterRun comm run i).plug = i.plug ∧
    (enterRun comm run i).reply = i.reply ∧ (enterRun comm run i).store = i.store ∧
    (enterRun comm run i).degraded = i.store.comm.ecc.uncorrectable ∧ (enterRun comm run i).figs = startFigures i.store.comm ∧
    (enterRun comm run i).axles.a.trim = i.trims.a ∧ (enterRun comm run i).axles.b.trim = i.trims.b ∧
    (enterRun comm run i).sanders.a.box = i.boxes.a ∧ (enterRun comm run i).sanders.b.box = i.boxes.b := by
  rw [enterRun_eq]; exact ⟨rfl, rfl, rfl, rfl, rfl, rfl, rfl, rfl, rfl, rfl, rfl⟩

theorem enterRun_faults (comm run : EccFinding) (i : StartInput) : (enterRun comm run i).faults =
    storeReported .storeInvalid (blocksShowing comm.uncorrectable run.uncorrectable)
      (storeReported .storeCorrected (blocksShowing comm.corrected run.corrected) i.faults i.time) i.time := by
  rw [enterRun_eq]; rfl

theorem blocksShowing_iff (a b : Bool) (d : FaultDetail) : blocksShowing a b = some d ↔
    (a = true ∧ b = true ∧ d = .both) ∨ (a = true ∧ b = false ∧ d = .commissioning) ∨
      (a = false ∧ b = true ∧ d = .running) := by
  cases a <;> cases b <;> simp [blocksShowing, eq_comm]

/-- A power-on start's table holds its STORE_ faults alone, corrected before invalid. -/
theorem storeReported_empty (corrected invalid : Option FaultDetail) (now : Millis) :
    (storeReported .storeInvalid invalid (storeReported .storeCorrected corrected emptyTable now) now).overflow = false ∧
    ∀ r, some r ∈ (storeReported .storeInvalid invalid (storeReported .storeCorrected corrected emptyTable now) now).records ↔
      (∃ d, corrected = some d ∧ r = ⟨.storeCorrected, none, none, now, now, 1, some d⟩) ∨
      (∃ d, invalid = some d ∧ r = ⟨.storeInvalid, none, none, now, now, 1, some d⟩) := by
  cases corrected <;> cases invalid <;>
    simp [storeReported, recordFault, emptyTable, sameFault, replaceFirst, List.replicate]

/-- R187: RESTART reads the commissioning block alone. -/
theorem storeReported_commissioning (k : FaultKind) (found : Bool) (t : FaultTable) (now : Millis) :
    storeReported k (blocksShowing found false) t now =
      if found then recordFault t now none k none (some .commissioning) else t := by
  cases found <;> rfl

/-! ## The store (R183) -/

theorem storeWriteEnd_idle {s : Station} (h : s.store.write = none) : storeWriteEnd s = s := by
  unfold storeWriteEnd; rw [h]

theorem storeWriteEnd_plain {s : Station} {w : StoreWrite} (h : s.store.write = some w) (hp : s.store.pendingSave = false) :
    storeWriteEnd s = { s with store := storeWritten s.store } := by
  unfold storeWriteEnd; rw [h]; simp [hp]

theorem storeWriteEnd_pending {s : Station} {w : StoreWrite} (h : s.store.write = some w) (hp : s.store.pendingSave = true) :
    storeWriteEnd s = { s with store := { storeWritten s.store with write := some (savedNow s), pendingSave := false } } := by
  unfold storeWriteEnd; rw [h]; simp [hp, savedNow]

theorem storeWritten_commissioning {st : Store} {f : List Int} {b : Millis} (h : st.write = some (.commissioning f b)) :
    storeWritten st = { st with comm := ⟨f, .clean⟩, write := none } := by
  unfold storeWritten; rw [h]

theorem storeWritten_running {st : Store} {d : PerAxle Int} {e : PerAxle Nat} {b : Millis}
    (h : st.write = some (.running d e b)) : storeWritten st = { st with run := ⟨d, e, .clean⟩, write := none } := by
  unfold storeWritten; rw [h]

/-- The blocks after a write stand whether or not a pending save follows. -/
theorem storeWriteEnd_blocks {s : Station} {w : StoreWrite} (h : s.store.write = some w) :
    (storeWriteEnd s).store.comm = (storeWritten s.store).comm ∧ (storeWriteEnd s).store.run = (storeWritten s.store).run ∧
      storeWriteEnd s = { s with store := (storeWriteEnd s).store } := by
  cases hp : s.store.pendingSave with
  | true => rw [storeWriteEnd_pending h hp]; exact ⟨rfl, rfl, rfl⟩
  | false => rw [storeWriteEnd_plain h hp]; exact ⟨rfl, rfl, rfl⟩

theorem storeWritten_idle {st : Store} {w : StoreWrite} (h : st.write = some w) :
    (storeWritten st).write = none ∧ (storeWritten st).pendingSave = st.pendingSave := by
  cases w with
  | commissioning => rw [storeWritten_commissioning h]; exact ⟨rfl, rfl⟩
  | running => rw [storeWritten_running h]; exact ⟨rfl, rfl⟩

/-! ## Without supply, and in START -/

/-- Only a start, a loss of supply and the raw levels act without a running unit. -/
theorem exec_stopped {c : Instr} {z : Station} (hz : running z = false) (hstart : ∀ plug comm run, c ≠ .powerOnStart plug comm run)
    (hloss : c ≠ .supplyLoss) (hloop : ∀ l, c ≠ .emergencyLoopChange l) (hshoe : ∀ l, c ≠ .shoeDownSensorChange l)
    (q : List Instr) : exec c ⟨q, z⟩ = .next ⟨q, z⟩ := by
  cases c with
  | powerOnStart plug comm run => exact absurd rfl (hstart plug comm run)
  | supplyLoss => exact absurd rfl hloss
  | emergencyLoopChange l => exact absurd rfl (hloop l)
  | shoeDownSensorChange l => exact absurd rfl (hshoe l)
  | _ => exact actRunning_stopped _ ⟨q, z⟩ hz

end Sys2Proof.Machine

open Sys2Proof Sys2Proof.Machine

/-- Settles O1. -/
theorem stepRunsFrontCommand : Obligations.StepRunsFrontCommand := fun _ _ _ => rfl

/-- Settles O2: the step on an empty queue is `tick`. -/
theorem emptyQueueAndNoSupply : Obligations.EmptyQueueAndNoSupply := by
  refine ⟨fun z => ⟨fun hz => ?_, fun hz due => ?_, fun hz none sub => ?_, fun hz none sub => ?_⟩,
    fun c q z hz hstart hloss hloop hshoe => exec_stopped hz hstart hloss hloop hshoe q⟩ <;>
    show Host.Outcome.next (tick ⟨[], z⟩) = _ <;> unfold tick
  · rw [if_neg (by simp [hz])]
  · rw [if_pos hz]
    obtain ⟨i, is, e⟩ := List.exists_cons_of_ne_nil due
    simp only [e]
  · rw [if_pos hz]
    simp only [none, passMicro, if_pos (show z.subMs + 1 < 1000 by omega)]
  · rw [if_pos hz]
    simp only [none, passMicro, if_neg (show ¬z.subMs + 1 < 1000 by omega)]

/-- Settles O6. -/
theorem wheelSpeedEdge : Obligations.WheelSpeedEdge := by
  intro x track2 q z hz
  refine actRunning_eq hz ?_ q
  cases track2 <;> rfl

/-- Settles O5. -/
theorem supplyLossAndStoreWriteEnd : Obligations.SupplyLossAndStoreWriteEnd := by
  refine ⟨fun q z => ⟨supplyLoss z, rfl, rfl, fun idle => ?_, fun f b writing => ?_, fun d e b writing => ?_⟩,
    fun q z hz => ⟨fun idle => actRunning_eq hz (storeWriteEnd_idle idle) q, fun w writing => ?_⟩⟩
  · simp [supplyLoss, storeAfterLoss, idle]
  · simp [supplyLoss, storeAfterLoss, writing]
  · simp [supplyLoss, storeAfterLoss, writing]
  · obtain ⟨comm, run, frame⟩ := storeWriteEnd_blocks writing
    refine ⟨storeWriteEnd z, actRunning_eq hz rfl q, frame, fun f b hw => ?_, fun d e b hw => ?_, ?_, fun hp => ?_, fun hp => ?_⟩
    · rw [comm, run, storeWritten_commissioning (hw ▸ writing)]; exact ⟨rfl, rfl⟩
    · rw [comm, run, storeWritten_running (hw ▸ writing)]; exact ⟨rfl, rfl⟩
    · cases hp : z.store.pendingSave with
      | true => rw [storeWriteEnd_pending writing hp]
      | false => rw [storeWriteEnd_plain writing hp]; exact (storeWritten_idle writing).2.trans hp
    · rw [storeWriteEnd_plain writing hp]; exact (storeWritten_idle writing).1
    · rw [storeWriteEnd_pending writing hp]; rfl

/-- Settles O60: the reset station is one that a start leaves. -/
theorem resetLaws : Obligations.ResetLaws :=
  ⟨mapLaw_enterRun _ _ _, outboxLaw_enterRun _ _ _, (serving_holdLaw.enterRun _ _ _).1, (serving_holdLaw.enterRun _ _ _).2,
    serving_trackBrakeLaw.enterRun _ _ _, serving_takesLaw.enterRun _ _ _, (valvesLaw_iff _).mpr (sandersLaw_enterRun _ _ _),
    fillingLaw_of_sanders (sandersLaw_enterRun _ _ _), (tableKept_enterRun _ _ _).1, rfl⟩

/-- Settles O3. -/
theorem powerOnStart : Obligations.PowerOnStart := by
  intro plug comm run q z off
  have started : exec (.powerOnStart plug comm run) ⟨q, z⟩ =
      .next ⟨q, powerOnFrom plug (readStore comm run z.store) z.link.loop.raw z.link.shoe.raw⟩ := by
    show Host.Outcome.next (⟨q, Machine.powerOnStart plug comm run z⟩ : State) = _
    rw [Machine.powerOnStart, if_pos off]
  refine ⟨_, started, startValues_enterRun _ _ _, ?_⟩
  obtain ⟨time, -, hplug, -, store, degraded, figs, trimA, trimB, boxA, boxB⟩ := enterRun_frame
    (readStore comm run z.store).comm.ecc (readStore comm run z.store).run.ecc
    (powerOnInput plug (readStore comm run z.store) z.link.loop.raw z.link.shoe.raw)
  rw [powerOnFrom_eq, time, hplug, store, degraded, figs, trimA, trimB, boxA, boxB, enterRun_faults]
  obtain ⟨flag, records⟩ := storeReported_empty (blocksShowing (readStore comm run z.store).comm.ecc.corrected
    (readStore comm run z.store).run.ecc.corrected) (blocksShowing (readStore comm run z.store).comm.ecc.uncorrectable
    (readStore comm run z.store).run.ecc.uncorrectable) 0
  refine ⟨rfl, rfl, rfl, rfl, rfl, startFigures_default, startFigures_stored, fun bad => ?_, fun good => ?_, flag, records,
    blocksShowing_iff⟩
  · have trims : (powerOnInput plug (readStore comm run z.store) z.link.loop.raw z.link.shoe.raw).trims = ⟨0, 0⟩ := if_pos bad
    have boxes : (powerOnInput plug (readStore comm run z.store) z.link.loop.raw z.link.shoe.raw).boxes =
      ⟨reserveMg, reserveMg⟩ := if_pos bad
    rw [trims, boxes]
    exact ⟨rfl, rfl, rfl, rfl⟩
  · have trims : (powerOnInput plug (readStore comm run z.store) z.link.loop.raw z.link.shoe.raw).trims =
      ⟨clampInt (-80) 80 z.store.run.trims.a, clampInt (-80) 80 z.store.run.trims.b⟩ := if_neg (Bool.eq_false_iff.mp good)
    have boxes : (powerOnInput plug (readStore comm run z.store) z.link.loop.raw z.link.shoe.raw).boxes =
      ⟨min z.store.run.boxes.a (capacityMg (startFigures (readStore comm run z.store).comm)),
        min z.store.run.boxes.b (capacityMg (startFigures (readStore comm run z.store).comm))⟩ :=
      if_neg (Bool.eq_false_iff.mp good)
    rw [trims, boxes]
    exact ⟨rfl, rfl, rfl, rfl⟩

/-- Settles O4. -/
theorem restart : Obligations.Restart := by
  intro req plug comm q z hz sum len
  have taken {t : Station} (h : serviceRestart plug comm z = t) : exec (.restart req plug comm) ⟨q, z⟩ = .next ⟨q, t⟩ :=
    actRunning_taken hz sum (by rw [len]; rfl) h q
  refine ⟨fun writing => taken (serviceRestart_busy writing), fun idle => ⟨_, taken (serviceRestart_idle idle),
    startValues_enterRun _ _ _, ?_⟩⟩
  obtain ⟨time, timeUs, hplug, reply, store, degraded, figs, trimA, trimB, boxA, boxB⟩ := enterRun_frame
    (readStore comm .clean z.store).comm.ecc .clean (restartInput plug comm z)
  rw [time, timeUs, hplug, reply, store, degraded, figs, trimA, trimB, boxA, boxB, enterRun_faults]
  refine ⟨rfl, rfl, rfl, rfl, rfl, rfl, rfl, startFigures_default, startFigures_stored, rfl, rfl, rfl, rfl, fun first e => ?_⟩
  have corrected : storeReported .storeCorrected
      (blocksShowing (readStore comm .clean z.store).comm.ecc.corrected EccFinding.clean.corrected) z.faults z.time = first :=
    (storeReported_commissioning _ _ _ _).trans e.symm
  exact (storeReported_commissioning .storeInvalid _ _ _).trans (by rw [← corrected]; rfl)

end

section
/-! SUPPORT. The creep controller's rules, each as what it writes to the record of its axle (R25 to R33, R42 to R44). -/

namespace Sys2Proof.Machine

/-! ## The record of an axle -/

@[simp] theorem setCreep_setCreep (s : Station) (x : Axle) (c d : AxleCreep) :
    setCreep (setCreep s x c) x d = setCreep s x d := by simp [setCreep]

@[simp] theorem setCreep_pick (s : Station) (x : Axle) : setCreep s x (pick s.creep x) = s := by simp [setCreep]

@[simp] theorem creepNow_setCreep (s : Station) (x y : Axle) (c : AxleCreep) :
    creepNow (setCreep s x c) y = creepNow s y := rfl

@[simp] theorem targetNow_setCreep (s : Station) (x : Axle) (c : AxleCreep) : targetNow (setCreep s x c) = targetNow s := rfl

@[simp] theorem thresholdNow_setCreep (s : Station) (x : Axle) (c : AxleCreep) :
    thresholdNow (setCreep s x c) = thresholdNow s := rfl

@[simp] theorem demandTotal_setCreep (s : Station) (x y : Axle) (c : AxleCreep) :
    demandTotal (setCreep s x c) y = demandTotal s y := rfl

theorem ceilingOf_setCreep {s : Station} {x : Axle} {c : AxleCreep} (hp : c.preLimit = (pick s.creep x).preLimit)
    (hc : c.ceiling = (pick s.creep x).ceiling) : ceilingOf (setCreep s x c) x = ceilingOf s x := by
  simp only [ceilingOf, reslipForce, uncertainCap, setCreep_creep, pick_put, hp, hc, setCreep_time, setCreep_ref, setCreep_figs]
    <;> rfl

theorem reached_iff (figure : Nat) (t : Option Nat) : reached figure t = true ↔ ∃ n, t = some n ∧ figure ≤ n := by
  cases t <;> simp [reached]

theorem reached_eq_false {figure : Nat} {t : Option Nat} (h : ∀ n, t = some n → n < figure) : reached figure t = false := by
  cases t with
  | none => rfl
  | some n => simpa [reached] using h n rfl

theorem foldr_max_eq {l : List Nat} {m : Nat} (h : ∀ n ∈ l, n ≤ m) (hm : m = 0 ∨ m ∈ l) : l.foldr max 0 = m := by
  have most (l : List Nat) (h : ∀ n ∈ l, n ≤ m) : l.foldr max 0 ≤ m := by
    induction l with
    | nil => exact Nat.zero_le m
    | cons a l ih => exact max_le (h a (by simp)) (ih fun n hn => h n (by simp [hn]))
  have least (l : List Nat) (hm : m ∈ l) : m ≤ l.foldr max 0 := by
    induction l with
    | nil => simp at hm
    | cons a l ih =>
      rcases List.mem_cons.mp hm with rfl | hm
      · exact le_max_left _ _
      · exact le_max_of_le_right (ih hm)
  refine le_antisymm (most l h) ?_
  rcases hm with rfl | hm
  · exact Nat.zero_le _
  · exact least l hm

/-- R22: the peak is the greatest member of the peak history. -/
theorem peakOf_eq {c : AxleCreep} {peak : Nat} (h : ∀ f ∈ c.peaks, f ≤ peak) (hp : peak = 0 ∨ peak ∈ c.peaks) :
    peakOf c = peak := foldr_max_eq h hp

/-! ## REGULATING (R26, R27, R31) -/

theorem calmExpiry_due {x : Axle} {s : Station} {n : Nat} (hs : (pick s.creep x).state = .regulating)
    (hc : (pick s.creep x).calm = some n) (hn : 100 ≤ n) (hd : demandTotal s x ≤ (pick s.creep x).limit) :
    calmExpiry x s = setCreep s x { pick s.creep x with state := .adhering, stateTime := 0, calm := none } :=
  if_pos ⟨hs, (reached_iff _ _).mpr ⟨n, hc, hn⟩, hd⟩

theorem calmExpiry_early {x : Axle} {s : Station} (h : (pick s.creep x).state ≠ .regulating ∨
    (∀ n, (pick s.creep x).calm = some n → n < 100) ∨ (pick s.creep x).limit < demandTotal s x) : calmExpiry x s = s := by
  refine if_neg fun ⟨hs, hc, hd⟩ => ?_
  rcases h with h | h | h
  · exact h hs
  · rw [reached_eq_false h] at hc; cases hc
  · omega

/-- R26, R31: an axle that creeps beyond the target is taken to REGULATING with its limit a step lower. -/
theorem enterRegulating_eq {x : Axle} {s : Station} (h : targetNow s < creepNow s x) :
    enterRegulating x s = setCreep s x { pick s.creep x with
      state := .regulating, stateTime := 0, calm := none, limit := (pick s.creep x).limit - 250 } := by
  have creeps : ¬creepNow s x ≤ targetNow s := not_le.mpr h
  unfold enterRegulating regulatingRule
  rw [calmExpiry_early (.inr (.inl (by simp [creeps, runTimer])))]
  simp [creeps, h, regulatedLimit, runTimer]

/-! ## RECOVERING and REAPPLYING (R30, R31) -/

theorem recoveryHoldExpiry_early {x : Axle} {s : Station} (h : (pick s.creep x).state ≠ .recovering ∨
    (pick s.creep x).stateTime < 200 ∨ thresholdNow s < creepNow s x) : recoveryHoldExpiry x s = s := by
  refine if_neg fun ⟨hs, ht, hc⟩ => ?_
  rcases h with h | h | h
  · exact h hs
  · omega
  · exact not_le.mpr h hc

theorem reapplyingRule_creeps {x : Axle} {s : Station} (h : targetNow s < creepNow s x) :
    reapplyingRule x s = setCreep s x { pick s.creep x with
      state := .regulating, stateTime := 0, calm := none, limit := (pick s.creep x).limit - 250 } :=
  (if_pos h).trans (enterRegulating_eq h)

theorem reapplyingRule_holds {x : Axle} {s : Station} (h : creepNow s x ≤ targetNow s) :
    reapplyingRule x s = setCreep s x (reapplied (min (demandTotal s x) (ceilingOf s x)) (pick s.creep x)) :=
  if_neg (not_lt.mpr h)

/-- R30: RECOVERING has held the limit for its time, and the axle still creeps. -/
theorem recoveryHoldExpiry_creeps {x : Axle} {s : Station} (hs : (pick s.creep x).state = .recovering)
    (ht : 200 ≤ (pick s.creep x).stateTime) (hc : creepNow s x ≤ thresholdNow s) (h : targetNow s < creepNow s x) :
    recoveryHoldExpiry x s = setCreep s x { pick s.creep x with
      state := .regulating, stateTime := 0, calm := none, limit := (pick s.creep x).limit - 250 } := by
  unfold recoveryHoldExpiry
  rw [if_pos ⟨hs, ht, hc⟩, reapplyingRule_creeps (by exact h)]
  simp

/-- R30, R31: RECOVERING has held the limit for its time, and REAPPLYING's rule acts. -/
theorem recoveryHoldExpiry_reapplies {x : Axle} {s : Station} (hs : (pick s.creep x).state = .recovering)
    (ht : 200 ≤ (pick s.creep x).stateTime) (hc : creepNow s x ≤ thresholdNow s) (h : creepNow s x ≤ targetNow s) :
    recoveryHoldExpiry x s = setCreep s x (reapplied (min (demandTotal s x) (ceilingOf s x))
      { pick s.creep x with state := .reapplying, stateTime := 0 }) := by
  unfold recoveryHoldExpiry
  rw [if_pos ⟨hs, ht, hc⟩, reapplyingRule_holds (by exact h), ceilingOf_setCreep (by rfl) (by rfl)]
  simp

/-- R31: the limit rises by a step toward the target. -/
theorem reapplied_below {target : Nat} {c : AxleCreep} (h : raiseToward 150 target c.limit < target) :
    reapplied target c = { c with limit := raiseToward 150 target c.limit } := if_neg (not_le.mpr h)

/-- R31: the axle adheres once its limit has come to the target. -/
theorem reapplied_reaches {target : Nat} {c : AxleCreep} (h : target ≤ raiseToward 150 target c.limit) :
    reapplied target c = { c with limit := raiseToward 150 target c.limit, state := .adhering, stateTime := 0 } := if_pos h

theorem raiseToward_far {step bound limit : Nat} (h : limit + step < bound) : raiseToward step bound limit = limit + step := by
  unfold raiseToward; split <;> omega

theorem raiseToward_near {step bound limit : Nat} (h : bound ≤ limit + step) : raiseToward step bound limit = max bound limit := by
  unfold raiseToward; split <;> omega

/-! ## LOCKED and the re-slip ceiling (R33, R42, R43) -/

theorem lockReached_iff (c : AxleCreep) : lockReached c = true ↔ c.state ≠ .locked ∧ ∃ n, c.lock = some n ∧ 150 ≤ n := by
  simp [lockReached, reached_iff]

theorem lockExpiry_due {x : Axle} {s : Station} (h : lockReached (pick s.creep x) = true) :
    lockExpiry x s = setCreep s x (lockedRecord (pick s.creep x)) := if_pos h

theorem lockExpiry_early {x : Axle} {s : Station} (h : (pick s.creep x).state = .locked ∨
    ∀ n, (pick s.creep x).lock = some n → n < 150) : lockExpiry x s = s := by
  refine if_neg fun hl => ?_
  obtain ⟨hs, n, hn, le⟩ := (lockReached_iff _).mp hl
  rcases h with h | h
  · exact hs h
  · exact absurd (h n hn) (by omega)

theorem reslipExpiry_due {x : Axle} {s : Station} {r : ReslipCeiling} (hr : (pick s.creep x).ceiling = some r)
    (hb : before s.time r.expires = false) : reslipExpiry x s = setCreep s x { pick s.creep x with ceiling := none } := by
  simp [reslipExpiry, hr, hb]

theorem reslipExpiry_early {x : Axle} {s : Station} (h : ∀ r, (pick s.creep x).ceiling = some r → before s.time r.expires = true) :
    reslipExpiry x s = s := by
  cases hr : (pick s.creep x).ceiling with
  | none => simp [reslipExpiry, hr]
  | some r => simp [reslipExpiry, hr, h r hr]

theorem slipPersistent_due {x : Axle} {s : Station} (hs : (pick s.creep x).state = .slipping)
    (ht : 1500 ≤ (pick s.creep x).stateTime) (hr : (pick s.creep x).slipReported = false) : slipPersistent x s =
      report .slipPersistent (some x) none (setCreep s x { pick s.creep x with limit := 0, slipReported := true }) :=
  if_pos ⟨hs, ht, hr⟩

theorem slipPersistent_early {x : Axle} {s : Station} (h : (pick s.creep x).state ≠ .slipping ∨
    (pick s.creep x).stateTime < 1500 ∨ (pick s.creep x).slipReported = true) : slipPersistent x s = s := by
  refine if_neg fun ⟨hs, ht, hr⟩ => ?_
  rcases h with h | h | h
  · exact h hs
  · omega
  · rw [hr] at h; cases h

theorem wheelLockExpiry_due {x : Axle} {s : Station} (hs : (pick s.creep x).state = .locked)
    (ht : 800 ≤ (pick s.creep x).stateTime) (hr : (pick s.creep x).wheelLock = false) : wheelLockExpiry x s =
      report .wheelLock (some x) none (setCreep s x { pick s.creep x with wheelLock := true }) := if_pos ⟨hs, ht, hr⟩

theorem wheelLockExpiry_early {x : Axle} {s : Station} (h : (pick s.creep x).state ≠ .locked ∨
    (pick s.creep x).stateTime < 800 ∨ (pick s.creep x).wheelLock = true) : wheelLockExpiry x s = s := by
  refine if_neg fun ⟨hs, ht, hr⟩ => ?_
  rcases h with h | h | h
  · exact h hs
  · omega
  · rw [hr] at h; cases h

end Sys2Proof.Machine

open Sys2Proof Sys2Proof.Machine

/-- Settles O14: each row is the operation of its timer. -/
theorem creepTimers : Obligations.CreepTimers := by
  intro x q z hz
  have acts {f : Station → Station} {t : Station} (h : f z = t) : actRunning f ⟨q, z⟩ = .next ⟨q, t⟩ := actRunning_eq hz h q
  refine ⟨fun n hs hc hn hd => acts (calmExpiry_due hs hc hn hd), fun h => acts (calmExpiry_early h), ?_,
    fun h => acts (recoveryHoldExpiry_early h), fun n peak hs hl hn hle hpeak => acts ?_, fun h => acts (lockExpiry_early h),
    fun r hr hb => acts (reslipExpiry_due hr hb), fun h => acts (reslipExpiry_early h),
    fun hs ht hr => acts (slipPersistent_due hs ht hr), fun h => acts (slipPersistent_early h),
    fun hs ht hr => acts (wheelLockExpiry_due hs ht hr), fun h => acts (wheelLockExpiry_early h)⟩
  · intro target ceiling creep hs ht hslip hcreep hceil htarget
    have bound : targetNow z = (creep : Int) := by rw [hcreep]; rfl
    have goal : min (demandTotal z x) (ceilingOf z x) = target := by rw [htarget, hceil]; rfl
    rcases lt_or_ge (targetNow z) (creepNow z x) with creeps | holds
    · refine ⟨_, acts (recoveryHoldExpiry_creeps hs ht hslip creeps), rfl, rfl, fun _ => ⟨rfl, rfl, rfl⟩, fun h => ?_⟩
      rw [bound] at creeps
      exact absurd creeps (not_lt.mpr h)
    · have held := recoveryHoldExpiry_reapplies hs ht hslip holds
      rw [goal] at held
      rw [bound] at holds
      rcases lt_or_ge ((pick z.creep x).limit + 150) target with far | near
      · have raised : raiseToward 150 target (pick z.creep x).limit = (pick z.creep x).limit + 150 := raiseToward_far far
        have below := reapplied_below (c := { pick z.creep x with state := .reapplying, stateTime := 0 })
          (show raiseToward 150 target (pick z.creep x).limit < target by omega)
        exact ⟨_, acts (held.trans (congrArg _ below)), rfl, rfl, fun h => absurd h (not_lt.mpr holds),
          fun _ => ⟨rfl, fun _ => ⟨rfl, raised⟩, fun h => by omega⟩⟩
      · have raised : raiseToward 150 target (pick z.creep x).limit = max target (pick z.creep x).limit := raiseToward_near near
        have reaches := reapplied_reaches (c := { pick z.creep x with state := .reapplying, stateTime := 0 })
          (show target ≤ raiseToward 150 target (pick z.creep x).limit by omega)
        exact ⟨_, acts (held.trans (congrArg _ reaches)), rfl, rfl, fun h => absurd h (not_lt.mpr holds),
          fun _ => ⟨rfl, fun h => by omega, fun _ => ⟨rfl, raised⟩⟩⟩
  · rw [lockExpiry_due ((lockReached_iff _).mpr ⟨hs, n, hl, hn⟩), lockedRecord, peakOf_eq hle hpeak]; rfl

end

section
/-! SUPPORT. The route windows and the resolution of the four positions (R47, R56 to R61), and what each operation of the
position unit does to the position. -/

namespace Sys2Proof.Machine

/-! ## The governing window (R56, R57) -/

theorem windowHolds_iff (p : Nat) (w : RouteWindow) : windowHolds p w = true ↔ Contains w p := by
  simp [windowHolds, Contains, and_assoc]

theorem findWindow_first {p n i : Nat} {ws : List RouteWindow} {w : RouteWindow} (hw : ws[i]? = some w) (hold : Contains w p)
    (first : ∀ k u, k < i → ws[k]? = some u → ¬Contains u p) : findWindow p n ws = some (n + i, w) := by
  induction ws generalizing n i with
  | nil => simp at hw
  | cons u us ih =>
    cases i with
    | zero =>
      obtain rfl : u = w := by simpa using hw
      rw [findWindow, if_pos ((windowHolds_iff p u).mpr hold)]; rfl
    | succ i =>
      have skip : ¬windowHolds p u = true := fun h => first 0 u (by omega) rfl ((windowHolds_iff p u).mp h)
      rw [findWindow, if_neg skip, ih hw fun k v hk hv => first (k + 1) v (by omega) (by simpa using hv)]
      simp; omega

theorem findWindow_none {p n : Nat} {ws : List RouteWindow} (h : ∀ w ∈ ws, ¬Contains w p) : findWindow p n ws = none := by
  induction ws generalizing n with
  | nil => rfl
  | cons u us ih =>
    rw [findWindow, if_neg fun hu => h u (by simp) ((windowHolds_iff p u).mp hu)]
    exact ih fun w hw => h w (by simp [hw])

/-- The lowest-numbered window that contains a position governs it. -/
theorem governingWindow_first {figs : Commissioning} {p n : Nat} {w : RouteWindow} (hw : figs.windows[n]? = some w)
    (hold : Contains w p) (first : ∀ k u, k < n → figs.windows[k]? = some u → ¬Contains u p) :
    governingWindow figs p = some (n, w) := by
  rw [governingWindow, findWindow_first hw hold first, Nat.zero_add]

/-! ## The attributes of a position (R57 to R60) -/

theorem attrsAt_position (figs : Commissioning) (st : PosState) (sense : Sense) (p : Nat) :
    (attrsAt figs st sense p).position = p := by
  unfold attrsAt
  split
  · rfl
  all_goals split <;> rfl

theorem attrsAt_known {figs : Commissioning} {st : PosState} (h : st ≠ .lost) (sense : Sense) (p : Nat) :
    attrsAt figs st sense p = attrsAt figs .valid sense p := by
  cases st with
  | lost => exact absurd rfl h
  | valid | deadReckoning => rfl

theorem attrsAt_governed {figs : Commissioning} {p n : Nat} {w : RouteWindow} (h : governingWindow figs p = some (n, w))
    (sense : Sense) : attrsAt figs .valid sense p =
      { position := p, window := some n, gradient := w.gradient, rise := riseOf sense w.gradient,
        sandInhibit := w.sandInhibit, obsInhibit := w.obsInhibit, rateSet := w.rateSet, mapOffset := w.mapOffset,
        mapCell := shiftedCell (routeCell p) w.mapOffset } := by
  unfold attrsAt; rw [h]

theorem attrsAt_outside {figs : Commissioning} {p : Nat} (h : governingWindow figs p = none) (sense : Sense) :
    attrsAt figs .valid sense p =
      { position := p, window := none, gradient := 0, rise := 0, sandInhibit := false, obsInhibit := false, rateSet := 0,
        mapOffset := 0, mapCell := shiftedCell (routeCell p) 0 } := by
  unfold attrsAt; rw [h]

theorem shiftedCell_of {cell : Nat} {offset c : Int} (h : c = (cell : Int) + offset) :
    (0 ≤ c → c ≤ 19999 → shiftedCell cell offset = some c.toNat) ∧ (c < 0 ∨ 19999 < c → shiftedCell cell offset = none) := by
  subst h
  exact ⟨fun h0 h1 => if_pos ⟨h0, h1⟩, fun h => if_neg (by omega)⟩

/-- All attributes formed while the position state is not LOST are those of their governing window. -/
theorem governed_attrsAt (figs : Commissioning) (sense : Sense) (p : Nat) : Governed figs sense (attrsAt figs .valid sense p) := by
  unfold Governed
  rw [attrsAt_position]
  refine ⟨fun n w hw hold first => ?_, fun out => ?_, fun up => ?_, fun down => ?_, fun c hc => ?_⟩
  · rw [attrsAt_governed (governingWindow_first hw hold first)]; exact ⟨rfl, rfl, rfl, rfl, rfl, rfl⟩
  · rw [attrsAt_outside (findWindow_none out)]; exact ⟨rfl, rfl, rfl, rfl, rfl, rfl⟩
  all_goals
    cases hg : governingWindow figs p with
    | none => ?_
    | some g => ?_
  · rw [attrsAt_outside hg]
  · rw [attrsAt_governed hg]; subst up; rfl
  · rw [attrsAt_outside hg]; rfl
  · rw [attrsAt_governed hg]; subst down; rfl
  · rw [attrsAt_outside hg] at hc ⊢; exact shiftedCell_of hc
  · rw [attrsAt_governed hg] at hc ⊢; exact shiftedCell_of hc

theorem lostAttrs_lost (p : Nat) : LostAttrs (lostAttrs p) := ⟨rfl, rfl, rfl, rfl, rfl, rfl, rfl⟩

/-! ## Resolution (R47, R61) -/

theorem clampPosition_eq (p : Int) : clampPosition p = (max 0 (min 100000000 p)).toNat := rfl

/-- A resolution leaves the attributes of the four positions. -/
theorem resolved_resolves (s : Station) : Resolved s.figs (resolved s) := by
  refine ⟨attrsAt_position _ _ _ _, fun half d hhalf hd => ?_, fun a ha => ?_⟩
  · have ahead : aheadOf s.pos.sense s.pos.station (halfBase s) = (max 0 (min 100000000 (s.pos.station + d))).toNat ∧
        aheadOf s.pos.sense s.pos.station (-halfBase s) = (max 0 (min 100000000 (s.pos.station - d))).toNat := by
      have base : halfBase s = half := hhalf.symm
      have dist : d = (match s.pos.sense with | .up => half | .down => -half) := hd
      rw [base, dist]
      cases s.pos.sense <;> simp only [aheadOf, clampPosition_eq, sub_eq_add_neg, and_self]
    have leading : (resolved s).attrLeading.position = leadingPosition s := attrsAt_position _ _ _ _
    have sander (x : Axle) : (pick (resolved s).attrSander x).position = axlePosition s x := by
      cases x <;> exact attrsAt_position _ _ _ _
    refine ⟨leading.trans ahead.1, ?_, ?_⟩
    · exact (sander _).trans ((if_pos (by show (axleOf s.pos.leadingEnd == axleOf s.pos.leadingEnd) = true; simp)).trans ahead.1)
    · refine (sander _).trans ((if_neg ?_).trans ahead.2)
      show ¬(axleOf (otherEnd s.pos.leadingEnd) == axleOf s.pos.leadingEnd) = true
      cases s.pos.leadingEnd <;> decide
  · obtain ⟨p, rfl⟩ : ∃ p, a = attrsAt s.figs s.pos.state s.pos.sense p := by
      simp only [List.mem_cons, List.not_mem_nil, or_false] at ha
      obtain rfl | rfl | rfl | rfl := ha <;> exact ⟨_, rfl⟩
    refine ⟨fun known => ?_, fun lost => ?_⟩
    · have state : s.pos.state ≠ .lost := known
      rw [attrsAt_known state]; exact governed_attrsAt _ _ _
    · have state : s.pos.state = .lost := lost
      rw [state]; exact lostAttrs_lost p

theorem resolveNow_pos (s : Station) : (resolveNow s).pos = resolved s := by
  obtain ⟨_, e⟩ := resolveNow_frame s; rw [e]

/-! ## DEAD_RECKONING_LIMIT (R52, R97) -/

theorem deadReckoningLimit_lost {s : Station} (hr : 500000 < s.pos.reckoned) (hs : s.pos.state ≠ .lost) :
    deadReckoningLimit s = resolveNow (announceLost { s with pos := { s.pos with state := .lost } }) := if_pos ⟨hr, hs⟩

theorem deadReckoningLimit_within {s : Station} (h : s.pos.reckoned ≤ 500000 ∨ s.pos.state = .lost) :
    deadReckoningLimit s = s := by
  refine if_neg fun ⟨hr, hs⟩ => ?_
  rcases h with h | h
  · omega
  · exact hs h

/-- R97: what a resolution that inhibits the leading sander does to the sanders. -/
theorem inhibitTailing_sanders (s : Station) :
    (∀ x, pick (inhibitTailing s).sanders x = pick s.sanders x ∨
      (x = leadingAxle s ∧ (pick (inhibitTailing s).sanders x).state = .tailing)) ∧
    (s.sanding.admitted.emergency = true ∨ s.sanding.admitted.rollback = true → (inhibitTailing s).sanders = s.sanders) := by
  have tails (x : Axle) : pick (tailNow (leadingAxle s) s).sanders x = pick s.sanders x ∨
      (x = leadingAxle s ∧ (pick (tailNow (leadingAxle s) s).sanders x).state = .tailing) := by
    by_cases hx : x = leadingAxle s
    · subst hx
      unfold tailNow
      simp only
      split
      · right; rw [setSander_sanders, pick_put, toTailing_eq]; simp
      · left; rfl
    · obtain rfl : x = otherAxle (leadingAxle s) := by
        revert hx; cases x <;> cases leadingAxle s <;> simp [otherAxle]
      exact .inl (tailNow_other _ s)
  unfold inhibitTailing
  simp only
  split
  · rename_i blocked
    refine ⟨tails, fun admitted => ?_⟩
    rcases admitted with h | h <;> simp [h] at blocked
  · exact ⟨fun x => .inl rfl, fun _ => rfl⟩

theorem tailNow_stops (x : Axle) (s : Station) :
    (sanderAt (tailNow x s) x).state ≠ .filling ∧ (sanderAt (tailNow x s) x).state ≠ .flowing := by
  unfold tailNow
  simp only
  split
  · rw [sanderAt_setSander, toTailing_eq]; exact ⟨nofun, nofun⟩
  · rename_i still
    rw [spreading_iff, not_or] at still
    exact still

theorem inhibitTailing_blocks {s : Station} (lost : s.pos.state = .lost) (he : s.sanding.admitted.emergency = false)
    (hr : s.sanding.admitted.rollback = false) : inhibitTailing s = tailNow (leadingAxle s) s := by
  simp [inhibitTailing, lost, he, hr]

/-! ## Leading end and sense, anchors (R46, R48, R49, R53, R54) -/

/-- The figures that the odometry keeps, with the state. -/
def odometer (p : Position) : Nat × Int × Nat × PosState := (p.station, p.remainder, p.reckoned, p.state)

theorem odometer_resolved (s : Station) : odometer (resolved s) = odometer s.pos := rfl

theorem announceChange_pos (e : CabEnd) (s : Station) : (announceChange e s).pos = s.pos := by
  obtain ⟨_, _, _, _, h⟩ := announceChange_frame e s; rw [h]

theorem announceChange_figs (e : CabEnd) (s : Station) : (announceChange e s).figs = s.figs := by
  obtain ⟨_, _, _, _, h⟩ := announceChange_frame e s; rw [h]

/-- R53: a change taken replaces what is in force, and the position is resolved at once. -/
theorem takeChange_pos (c : EndChange) (s : Station) : ∃ u : Station, u.figs = s.figs ∧
    u.pos = { s.pos with leadingEnd := c.leadingEnd, sense := c.sense, endTaken := true, change := none } ∧
    (takeChange c s).pos = resolved u :=
  ⟨announceChange s.pos.leadingEnd { s with
      pos := { s.pos with leadingEnd := c.leadingEnd, sense := c.sense, endTaken := true, change := none } },
    announceChange_figs _ _, announceChange_pos _ _, resolveNow_pos _⟩

theorem evaluate_pos (arrival : Bool) (s : Station) : (evaluate arrival s).pos = s.pos := by
  obtain ⟨_, _, _, _, e⟩ := evaluate_frame arrival s; rw [e]

/-- R48, R52: a VALID position falls to DEAD_RECKONING, and is resolved at once. -/
theorem deadReckon_pos (s : Station) :
    (s.pos.state = .valid → ∃ u : Station, u.figs = s.figs ∧ u.pos = { s.pos with state := .deadReckoning } ∧
      (deadReckon s).pos = resolved u) ∧
    (s.pos.state ≠ .valid → deadReckon s = s) := by
  refine ⟨fun valid => ⟨{ s with pos := { s.pos with state := .deadReckoning } }, rfl, rfl, ?_⟩, fun h => if_neg h⟩
  rw [deadReckon, if_pos valid, resolveNow_pos]

/-! ## DEMAND_SILENCE (R105, R108, R162) -/

/-- The station as the silence leaves it to the evaluation: no request governs, and a loss is reported once a DEMAND was heard. -/
def silenced (s : Station) : Station := { s with
  port := { s.port with announced := true }
  blend := { s.blend with governing := none, conflict := false }
  faults := if demandHeard s then recordFault s.faults s.time s.pos.attrLeading.mapCell .demandLost none none else s.faults }

theorem announceSilence_eq (s : Station) : announceSilence s = deadReckon (evaluate false (silenced s)) := by
  unfold announceSilence silenced
  cases h : demandHeard s <;> simp [demandHeard] at h <;> simp [demandHeard, h, report]

theorem demandHeard_iff (s : Station) : demandHeard s = true ↔ s.port.demands ≠ ⟨none, none⟩ := by
  unfold demandHeard
  cases s.port.demands with
  | mk a b => cases a <;> cases b <;> simp

theorem evaluate_conflict (arrival : Bool) (s : Station) : (evaluate arrival s).blend.conflict = s.blend.conflict := by
  obtain ⟨_, _, _, _, _, _, _, h⟩ := evaluated_frame arrival s
  rw [evaluate_blend, h]; rfl

/-- R162: what the silence leaves. -/
theorem announceSilence_fields (s : Station) : announceSilence s = { silenced s with
    blend := (evaluate false (silenced s)).blend
    makeUp := { s.makeUp with takes := (evaluate false (silenced s)).makeUp.takes }
    hold := (evaluate false (silenced s)).hold, sanding := (evaluate false (silenced s)).sanding
    pos := (announceSilence s).pos, sanders := (announceSilence s).sanders } := by
  have fields := evaluate_frame_fields false (silenced s)
  obtain ⟨_, _, e⟩ := deadReckon_frame (evaluate false (silenced s))
  rw [announceSilence_eq, e]
  generalize evaluate false (silenced s) = u at fields ⊢
  rw [fields]
  rfl

end Sys2Proof.Machine

open Sys2Proof Sys2Proof.Machine

/-- Settles O16. -/
theorem deadReckoningLimit : Obligations.DeadReckoningLimit := by
  intro q z hz
  refine ⟨fun h => actRunning_eq hz (deadReckoningLimit_within h) q, fun hr hs => ?_⟩
  have row := deadReckoningLimit_lost hr hs
  obtain ⟨unmoved, admitted⟩ := inhibitTailing_sanders
    { announceLost { z with pos := { z.pos with state := .lost } } with
      pos := resolved (announceLost { z with pos := { z.pos with state := .lost } }) }
  refine ⟨_, actRunning_eq hz row q, ?_, ?_, unmoved, fun he hb => ?_, admitted⟩
  · obtain ⟨_, e⟩ := resolveNow_frame (announceLost { z with pos := { z.pos with state := .lost } })
    rw [e]; rfl
  · rw [resolveNow_pos]
    intro a ha
    simp only [List.mem_cons, List.not_mem_nil, or_false] at ha
    obtain rfl | rfl | rfl | rfl := ha <;> exact ⟨rfl, rfl, rfl, rfl, rfl, rfl, rfl, rfl⟩
  · rw [resolveNow, inhibitTailing_blocks (by rfl) (by exact he) (by exact hb)]
    exact tailNow_stops _ _

/-- Settles O43: the silence is an evaluation without a governing request, after which a VALID position is reckoned on. -/
theorem demandSilence : Obligations.DemandSilence := by
  intro q z hz
  refine ⟨fun h => actRunning_eq hz (if_neg ?_) q, fun quiet due => ?_⟩
  · rcases h with h | h
    · simp [silenceDue, h]
    · rw [silenceDue, Bool.and_eq_true, decide_eq_true_eq]; exact fun due => absurd due.2 (not_le.mpr h)
  have row : Machine.demandSilence z = announceSilence z :=
    if_pos (by rw [silenceDue, quiet, Bool.and_eq_true, decide_eq_true_eq]; exact ⟨rfl, due⟩)
  have frame := announceSilence_fields z
  have blend : (announceSilence z).blend = (evaluate false (silenced z)).blend := by rw [frame]
  have faults : (announceSilence z).faults = (silenced z).faults := by rw [frame]
  have pos : (evaluate false (silenced z)).pos = z.pos := evaluate_pos _ _
  have figs : (evaluate false (silenced z)).figs = z.figs := by rw [evaluate_frame_fields]; rfl
  obtain ⟨valid, other⟩ := deadReckon_pos (evaluate false (silenced z))
  rw [← announceSilence_eq, pos, figs] at valid
  rw [← announceSilence_eq, pos] at other
  have eff := evaluate_effMode false (silenced z)
  refine ⟨_, actRunning_eq hz row q, ?_, ?_, ?_, ?_, ?_, ?_, ?_, ?_, ?_, ?_, ?_, ?_⟩
  · exact frame.trans (by rw [blend, frame]; rfl)
  · rw [blend, evaluate_governing]; rfl
  · rw [blend, evaluate_conflict]; rfl
  · rintro (hopen | ⟨emergency, moving⟩) <;> rw [blend, eff]
    · exact nextEffMode_emergency (.inl ((loopIsOpen_iff _).mpr hopen))
    · exact nextEffMode_emergency (.inr ⟨emergency, .inl moving⟩)
  · intro closed ended
    have lost : (evaluate false (silenced z)).blend.effMode = .lineLoss := by
      refine eff.trans ((nextEffMode_requested (s := silenced z) (Bool.eq_false_iff.mpr fun h => closed ((loopIsOpen_iff _).mp h)) ?_).trans
        (requestedMode_none (by rfl)))
      exact ended.imp id fun still => ⟨still, rfl⟩
    rw [blend, evaluate_served, evaluate_accel, lost]
    exact ⟨rfl, rfl, rfl⟩
  · intro changed
    have loss : lossMode (evaluate false (silenced z)).blend.effMode = true := by
      rw [eff, lossMode_iff]
      exact (nextEffMode_eq (silenced z)).symm.imp (fun h => h.trans (requestedMode_none (by rfl))) id
    rw [blend, evaluate_rearm]
    exact nextRearm_entry false loss (by rw [← blend]; exact changed)
  · split
    · rename_i h
      obtain ⟨u, _, hu, e⟩ := valid h
      exact (congrArg Position.state e).trans (congrArg Position.state hu :)
    · rename_i h
      rw [other h, pos]
  · by_cases h : z.pos.state = .valid
    · obtain ⟨u, _, hu, e⟩ := valid h
      exact (congrArg Position.station e).trans (congrArg Position.station hu :)
    · rw [other h, pos]
  · intro h
    obtain ⟨u, hfigs, _, e⟩ := valid h
    rw [e, ← hfigs]; exact resolved_resolves u
  · intro h; rw [other h, pos]
  · intro unheard
    rw [faults]
    exact if_neg fun h => (demandHeard_iff z).mp h unheard
  · intro heard
    rw [faults]
    exact if_pos ((demandHeard_iff z).mpr heard)

end

section
/-! SUPPORT. The track brake's timers and step 1 of a blend event (R118 to R121), and the peer records (R133, R135, R163,
R164). -/

namespace Sys2Proof.Machine

/-! ## The timers (R118, R119, R120) -/

theorem escalationMode_iff (m : EffMode) : escalationMode m = true ↔ m = .brake ∨ m = .lineLoss := by
  cases m <;> simp [escalationMode]

theorem escalationExpiry_due {s : Station} {n : Nat} (line : escalationMode s.blend.effMode = true)
    (strap : s.plug.trackBrake = true) (up : s.blend.mtb = .up) (he : s.blend.escalation = some n) (hn : 1000 ≤ n) :
    escalationExpiry s = commandDown s := if_pos ⟨strap, up, line, (reached_iff _ _).mpr ⟨n, he, hn⟩⟩

theorem escalationExpiry_early {s : Station} (h : escalationMode s.blend.effMode = false ∨ s.plug.trackBrake = false ∨
    s.blend.mtb ≠ .up ∨ ∀ n, s.blend.escalation = some n → n < 1000) : escalationExpiry s = s := by
  refine if_neg fun ⟨strap, up, line, he⟩ => ?_
  rcases h with h | h | h | h
  · rw [line] at h; cases h
  · rw [strap] at h; cases h
  · exact h up
  · rw [reached_eq_false h] at he; cases he

theorem mtbReleaseExpiry_due {s : Station} {n : Nat} (line : escalationMode s.blend.effMode = true)
    (down : s.blend.mtb ≠ .up) (hr : s.blend.release = some n) (hn : 2000 ≤ n) : mtbReleaseExpiry s = commandUp s :=
  if_pos ⟨down, line, (reached_iff _ _).mpr ⟨n, hr, hn⟩⟩

theorem mtbReleaseExpiry_early {s : Station} (h : escalationMode s.blend.effMode = false ∨ s.blend.mtb = .up ∨
    ∀ n, s.blend.release = some n → n < 2000) : mtbReleaseExpiry s = s := by
  refine if_neg fun ⟨down, line, hr⟩ => ?_
  rcases h with h | h | h
  · rw [line] at h; cases h
  · exact down h
  · rw [reached_eq_false h] at hr; cases hr

theorem loweringExpiry_due {s : Station} {m : Millis} (lowering : s.blend.mtb = .lowering)
    (since : s.blend.loweringSince = some m) (hm : 500 ≤ age s.time m) : loweringExpiry s =
      report .mtbNotDown none none { s with blend := { s.blend with mtb := .unconfirmed, loweringSince := none } } := by
  unfold loweringExpiry
  rw [lowering, since]
  exact if_pos hm

theorem loweringExpiry_early {s : Station} (h : s.blend.mtb ≠ .lowering ∨
    ∀ m, s.blend.loweringSince = some m → age s.time m < 500) : loweringExpiry s = s := by
  unfold loweringExpiry
  split
  · rename_i m lowering since
    rcases h with h | h
    · exact absurd lowering h
    · exact if_neg (not_le.mpr (h m since))
  · rfl

/-! ## Step 1 of a blend event (R118, R120, R121) -/

/-- The track brake and its timers: the state, the contactor, escalation, release and lowering. -/
def brakeOf (b : Blend) : TrackBrake × Bool × Option Nat × Option Nat × Option Millis :=
  (b.mtb, b.contactorClosed, b.escalation, b.release, b.loweringSince)

theorem brakeOf_eq_iff (b : Blend) (u : TrackBrake) (c : Bool) (l : Option Millis) : brakeOf b = (u, c, none, none, l) ↔
    b.mtb = u ∧ b.contactorClosed = c ∧ b.loweringSince = l ∧ b.escalation = none ∧ b.release = none := by
  simp only [brakeOf, Prod.mk.injEq]
  constructor
  · rintro ⟨mtb, contactor, escalation, release, lowering⟩; exact ⟨mtb, contactor, lowering, escalation, release⟩
  · rintro ⟨mtb, contactor, lowering, escalation, release⟩; exact ⟨mtb, contactor, escalation, release, lowering⟩

/-- Steps 2 to 6 of a blend event leave the track brake. -/
theorem brakeOf_blendEvent (s : Station) : brakeOf (blendEvent s).blend =
    brakeOf (trackBrakeStep { s with blend := { s.blend with lastBlend := s.time } }).blend := by
  have massed (t : Station) : brakeOf (massStep t).blend = brakeOf t.blend := rfl
  have forced (t : Station) : brakeOf (forceStep t).blend = brakeOf t.blend := rfl
  have made (t : Station) : brakeOf (makeUpStep t).blend = brakeOf t.blend := by
    obtain ⟨_, e⟩ := makeUpStep_frame t; rw [e]
  have demanded (t : Station) : brakeOf (demandStep t).blend = brakeOf t.blend := rfl
  have split (t : Station) : brakeOf (splitStep t).blend = brakeOf t.blend := rfl
  unfold blendEvent
  simp only
  rw [split, demanded, made, forced, massed]

theorem trackBrakeStep_escalates {s : Station} (line : escalationMode s.blend.effMode = true) (up : s.blend.mtb = .up) :
    trackBrakeStep s = escalationTest s := by
  unfold trackBrakeStep
  rcases (escalationMode_iff _).mp line with h | h <;> rw [h] <;> exact if_pos up

theorem trackBrakeStep_releases {s : Station} (line : escalationMode s.blend.effMode = true) (down : s.blend.mtb ≠ .up) :
    trackBrakeStep s = releaseTest s := by
  unfold trackBrakeStep
  rcases (escalationMode_iff _).mp line with h | h <;> rw [h] <;> exact if_neg down

theorem trackBrakeStep_emergency {s : Station} (h : s.blend.effMode = .emergency) : trackBrakeStep s = emergencyTest s := by
  unfold trackBrakeStep; rw [h]

theorem trackBrakeStep_other {s : Station} (line : escalationMode s.blend.effMode = false) (h : s.blend.effMode ≠ .emergency) :
    trackBrakeStep s = clearMtbTimers s := by
  unfold trackBrakeStep
  split
  all_goals
    rename_i hm
    rw [hm] at line h
  · cases line
  · cases line
  · exact absurd rfl h

/-- The escalation timer of a blend event, before its expiry is tested. -/
def escalating (s : Station) : Station := { s with blend := { s.blend with
  release := none
  escalation := runTimer 20 (s.plug.trackBrake && escalationCondition s) s.blend.escalation } }

theorem escalationTest_eq (s : Station) : escalationTest s = escalationExpiry (escalating s) := rfl

theorem escalationCondition_iff (s : Station) : escalationCondition s = true ↔
    1500 < s.ref.speed ∧ 150 * s.blend.nominalView < s.blend.residualView * 1000 := by simp [escalationCondition]

theorem releaseCondition_iff (s : Station) : releaseCondition s = true ↔
    s.blend.residualView = 0 ∨ s.blend.residualView * 1000 < 50 * s.blend.nominalView := by simp [releaseCondition]

theorem escalating_timer {s : Station} (strap : s.plug.trackBrake = true) (he : escalationCondition s = true) :
    (escalating s).blend.escalation = runTimer 20 true s.blend.escalation := by
  show runTimer 20 (s.plug.trackBrake && escalationCondition s) s.blend.escalation = _
  rw [strap, he]; rfl

theorem escalating_stops {s : Station} (h : s.plug.trackBrake = false ∨ escalationCondition s = false) :
    (escalating s).blend.escalation = none := by
  show runTimer 20 (s.plug.trackBrake && escalationCondition s) s.blend.escalation = _
  rcases h with h | h <;> simp [h, runTimer]

/-- The release timer of a blend event, before its expiry is tested. -/
def releasing (s : Station) : Station := { s with blend := { s.blend with
  escalation := none, release := runTimer 20 (releaseCondition s) s.blend.release } }

theorem releaseTest_slow {s : Station} (h : s.ref.speed < 800) : releaseTest s = commandUp s := if_pos h

theorem releaseTest_fast {s : Station} (h : 800 ≤ s.ref.speed) : releaseTest s = mtbReleaseExpiry (releasing s) :=
  if_neg (not_lt.mpr h)

theorem releasing_timer (s : Station) : (releasing s).blend.release = runTimer 20 (releaseCondition s) s.blend.release := rfl

theorem runTimer_none (k : Nat) : runTimer k true none = some 0 := rfl

theorem runTimer_some (k n : Nat) : runTimer k true (some n) = some (n + k) := rfl

theorem runTimer_stop (k : Nat) (t : Option Nat) : runTimer k false t = none := rfl

/-- R118: the escalation timer runs, and commands down at its figure. -/
theorem escalates {s : Station} (line : escalationMode s.blend.effMode = true) (up : s.blend.mtb = .up)
    (strap : s.plug.trackBrake = true) (he : escalationCondition s = true) :
    (s.blend.escalation = none → (trackBrakeStep s).blend.mtb = .up ∧ (trackBrakeStep s).blend.escalation = some 0) ∧
    (∀ n, s.blend.escalation = some n → n + 20 < 1000 →
      (trackBrakeStep s).blend.mtb = .up ∧ (trackBrakeStep s).blend.escalation = some (n + 20)) ∧
    (∀ n, s.blend.escalation = some n → 1000 ≤ n + 20 → trackBrakeStep s = commandDown (escalating s)) := by
  have timer := escalating_timer strap he
  have waits {n : Nat} (hn : (escalating s).blend.escalation = some n) (early : n < 1000) :
      (trackBrakeStep s).blend.mtb = .up ∧ (trackBrakeStep s).blend.escalation = some n := by
    rw [trackBrakeStep_escalates line up, escalationTest_eq, escalationExpiry_early
      (.inr (.inr (.inr fun m hm => by rw [hn] at hm; cases hm; exact early)))]
    exact ⟨up, hn⟩
  refine ⟨fun h => waits (by rw [timer, h, runTimer_none]) (by omega), fun n h early => waits (by rw [timer, h, runTimer_some]) early,
    fun n h due => ?_⟩
  rw [trackBrakeStep_escalates line up, escalationTest_eq,
    escalationExpiry_due (by exact line) (by exact strap) (by exact up) (by rw [timer, h, runTimer_some]) due]

/-- R118: without its condition the escalation timer stops. -/
theorem escalation_stops {s : Station} (line : escalationMode s.blend.effMode = true) (up : s.blend.mtb = .up)
    (h : s.plug.trackBrake = false ∨ escalationCondition s = false) :
    (trackBrakeStep s).blend.mtb = .up ∧ (trackBrakeStep s).blend.escalation = none := by
  have stopped := escalating_stops h
  rw [trackBrakeStep_escalates line up, escalationTest_eq, escalationExpiry_early
    (.inr (.inr (.inr fun m hm => by rw [stopped] at hm; cases hm)))]
  exact ⟨up, stopped⟩

/-- R120: the release timer runs while its condition holds, and commands up at its figure. -/
theorem releases {s : Station} (line : escalationMode s.blend.effMode = true) (down : s.blend.mtb ≠ .up)
    (fast : 800 ≤ s.ref.speed) :
    (releaseCondition s = true → s.blend.release = none →
      (trackBrakeStep s).blend.mtb = s.blend.mtb ∧ (trackBrakeStep s).blend.release = some 0) ∧
    (releaseCondition s = true → ∀ n, s.blend.release = some n → n + 20 < 2000 →
      (trackBrakeStep s).blend.mtb = s.blend.mtb ∧ (trackBrakeStep s).blend.release = some (n + 20)) ∧
    (releaseCondition s = true → ∀ n, s.blend.release = some n → 2000 ≤ n + 20 →
      trackBrakeStep s = commandUp (releasing s)) ∧
    (releaseCondition s = false → (trackBrakeStep s).blend.mtb = s.blend.mtb ∧ (trackBrakeStep s).blend.release = none) := by
  have step : trackBrakeStep s = mtbReleaseExpiry (releasing s) :=
    (trackBrakeStep_releases line down).trans (releaseTest_fast fast)
  have waits {t : Option Nat} (ht : (releasing s).blend.release = t) (early : ∀ n, t = some n → n < 2000) :
      (trackBrakeStep s).blend.mtb = s.blend.mtb ∧ (trackBrakeStep s).blend.release = t := by
    rw [step, mtbReleaseExpiry_early (.inr (.inr fun n hn => early n (ht.symm.trans hn)))]
    exact ⟨rfl, ht⟩
  refine ⟨fun hr h => waits (by rw [releasing_timer, hr, h, runTimer_none]) (by simp),
    fun hr n h early => waits (by rw [releasing_timer, hr, h, runTimer_some]) (by simpa using early), fun hr n h due => ?_,
    fun hr => waits (by rw [releasing_timer, hr, runTimer_stop]) (by simp)⟩
  rw [step, mtbReleaseExpiry_due (by exact line) (by exact down) (by rw [releasing_timer, hr, h, runTimer_some]) due]

/-- R121: an EMERGENCY above 300 mm/s commands a fitted track brake down, one at 300 mm/s or below up. -/
theorem emergencyTest_cases (s : Station) :
    (s.plug.trackBrake = true → s.blend.mtb = .up → 300 < s.ref.speed → emergencyTest s = commandDown s) ∧
    (s.blend.mtb ≠ .up → s.ref.speed ≤ 300 → emergencyTest s = commandUp s) ∧
    ((s.blend.mtb = .up ↔ s.ref.speed ≤ 300) ∨ (s.plug.trackBrake = false ∧ s.blend.mtb = .up) →
      emergencyTest s = clearMtbTimers s) := by
  have stays (h : ¬(s.plug.trackBrake = true ∧ s.blend.mtb = .up ∧ 300 < s.ref.speed)) :
      emergencyTest s = if s.ref.speed ≤ 300 ∧ s.blend.mtb ≠ .up then commandUp s else clearMtbTimers s :=
    if_neg fun hd => h ((emergencyDown_iff s).mp hd)
  refine ⟨fun strap up fast => if_pos ((emergencyDown_iff s).mpr ⟨strap, up, fast⟩), fun down slow => ?_, fun h => ?_⟩
  · exact (stays fun hd => down hd.2.1).trans (if_pos ⟨slow, down⟩)
  · rcases h with h | ⟨unfitted, up⟩
    · exact (stays fun ⟨_, up, fast⟩ => not_le.mpr fast (h.mp up)).trans (if_neg fun ⟨slow, down⟩ => down (h.mpr slow))
    · exact (stays fun ⟨strap, _⟩ => by rw [strap] at unfitted; cases unfitted).trans (if_neg fun ⟨_, down⟩ => down up)

end Sys2Proof.Machine

open Sys2Proof Sys2Proof.Machine

/-- Settles O37. -/
theorem trackBrakeTimers : Obligations.TrackBrakeTimers := by
  intro q z line hz hline
  rw [← escalationMode_iff] at hline
  have offLine (h : ¬line) : escalationMode z.blend.effMode = false := Bool.eq_false_iff.mpr fun hm => h (hline.mpr hm)
  exact ⟨fun n hl strap up he hn => actRunning_eq hz (escalationExpiry_due (hline.mp hl) strap up he hn) q,
    fun h => actRunning_eq hz (escalationExpiry_early (h.imp_left offLine)) q,
    fun n hl down hr hn => actRunning_eq hz (mtbReleaseExpiry_due (hline.mp hl) down hr hn) q,
    fun h => actRunning_eq hz (mtbReleaseExpiry_early (h.imp_left offLine)) q,
    fun m lowering since hm => actRunning_eq hz (loweringExpiry_due lowering since hm) q,
    fun h => actRunning_eq hz (loweringExpiry_early h) q⟩

/-- Settles O36: step 1 of a blend event, mode by mode. -/
theorem blendTrackBrake : Obligations.BlendTrackBrake := by
  intro q z hz
  refine ⟨_, actRunning_eq hz rfl q, fun down up esc rel line hdown hup hline hesc hrel => ?_⟩
  have brake := brakeOf_blendEvent z
  generalize hs : ({ z with blend := { z.blend with lastBlend := z.time } } : Station) = s at brake
  have state : (blendEvent z).blend.mtb = (trackBrakeStep s).blend.mtb := congrArg (·.1) brake
  have escalation : (blendEvent z).blend.escalation = (trackBrakeStep s).blend.escalation := congrArg (·.2.2.1) brake
  have release : (blendEvent z).blend.release = (trackBrakeStep s).blend.release := congrArg (·.2.2.2.1) brake
  rw [← brakeOf_eq_iff, brake] at hdown hup
  rw [state, escalation, release]
  have mtb : s.blend.mtb = z.blend.mtb := by rw [← hs]
  have speed : s.ref.speed = z.ref.speed := by rw [← hs]
  have strapped : s.plug.trackBrake = z.plug.trackBrake := by rw [← hs]
  have timer : s.blend.escalation = z.blend.escalation := by rw [← hs]
  have timer' : s.blend.release = z.blend.release := by rw [← hs]
  have effMode : s.blend.effMode = z.blend.effMode := by rw [← hs]
  have time : s.time = z.time := by rw [← hs]
  rw [← effMode, ← escalationMode_iff] at hline
  have esc_iff : escalationCondition s = true ↔ esc := by rw [escalationCondition_iff, hesc, ← hs]
  have rel_iff : releaseCondition s = true ↔ rel := by rw [releaseCondition_iff, hrel, ← hs]
  rw [← mtb, ← speed, ← strapped, ← timer, ← timer', ← effMode]
  rw [← time] at hdown
  have lowered : trackBrakeStep s = commandDown s → down := fun h => hdown.mpr (by rw [h]; rfl)
  have raised : trackBrakeStep s = commandUp s → up := fun h => hup.mpr (by rw [h]; rfl)
  refine ⟨fun hl up strap he => ?_, fun hl up h => escalation_stops (hline.mp hl) up
      (h.imp_right fun he => Bool.eq_false_iff.mpr fun hc => he (esc_iff.mp hc)), fun hl down slow => raised ?_,
    fun hl down fast => ?_, fun emergency => ?_, fun hl other => ?_⟩
  · obtain ⟨first, runs, due⟩ := escalates (hline.mp hl) up strap (esc_iff.mpr he)
    exact ⟨first, runs, fun n hn figure => lowered (by rw [due n hn figure]; rfl)⟩
  · exact (trackBrakeStep_releases (hline.mp hl) down).trans (releaseTest_slow slow)
  · obtain ⟨first, runs, due, stops⟩ := releases (hline.mp hl) down fast
    exact ⟨fun hr => first (rel_iff.mpr hr), fun hr => runs (rel_iff.mpr hr),
      fun hr n hn figure => raised (by rw [due (rel_iff.mpr hr) n hn figure]; rfl),
      fun hr => stops (Bool.eq_false_iff.mpr fun hc => hr (rel_iff.mp hc))⟩
  · obtain ⟨fast, slow, stays⟩ := emergencyTest_cases s
    rw [trackBrakeStep_emergency emergency] at lowered raised ⊢
    refine ⟨fun strap up speed => lowered (fast strap up speed), fun down speed => raised (slow down speed), fun h => ?_⟩
    rw [stays h]
    exact ⟨rfl, rfl, rfl⟩
  · rw [trackBrakeStep_other (Bool.eq_false_iff.mpr fun hm => hl (hline.mpr hm)) other]; rfl

end

section
/-! SUPPORT. The peer records (R133, R135, R163, R164) and the content of a STATUS (R128, R166, R181). -/

namespace Sys2Proof.Machine

/-! ## STATUS arrivals (R133, R163) -/

/-- The takes that lapse at an accepted STATUS: those on its sender, when outdated or when a FRESH sender parks. -/
def lapsesAt (s : Station) (n : Nat) (c : StatusContent) (k : Take) : Bool :=
  k.peer == n && (outdated s c k || ((peerAt s n).state == .fresh && c.parked))

theorem acceptStatus_eq (n : Nat) (c : StatusContent) (q : BitVec 8) (s : Station) : acceptStatus n c q s = { s with
    port := { s.port with peers := s.port.peers.set n ⟨if c.parked then .parked else .fresh, some ⟨c, s.time, q⟩⟩ }
    makeUp := { s.makeUp with takes := lapseWhere (lapsesAt s n c) s.makeUp.takes } } := by
  have station (l m : List Take) (h : l = m) : ({ s with
      port := { s.port with peers := s.port.peers.set n ⟨if c.parked then .parked else .fresh, some ⟨c, s.time, q⟩⟩ }
      makeUp := { s.makeUp with takes := l } } : Station) = { s with
      port := { s.port with peers := s.port.peers.set n ⟨if c.parked then .parked else .fresh, some ⟨c, s.time, q⟩⟩ }
      makeUp := { s.makeUp with takes := m } } := by rw [h]
  unfold acceptStatus
  simp only
  split
  · rename_i parks
    obtain ⟨fresh, parked⟩ := parks
    refine station _ _ ?_
    show lapseWhere (fun t => t.peer == n) (lapseWhere (fun t => t.peer == n && outdated s c t) s.makeUp.takes) = _
    rw [lapseWhere, lapseWhere, lapseWhere, List.map_map]
    refine List.map_congr_left fun t _ => ?_
    by_cases hp : t.peer = n
    · cases hout : outdated s c t <;> simp [lapsesAt, hp, hout, fresh, parked]
    · simp [lapsesAt, hp]
  · rename_i stays
    refine station _ _ ?_
    show lapseWhere (fun t => t.peer == n && outdated s c t) s.makeUp.takes = _
    refine List.map_congr_left fun t _ => ?_
    have parks : ((peerAt s n).state == .fresh && c.parked) = false := by
      rw [Bool.eq_false_iff, ne_eq, Bool.and_eq_true, beq_iff_eq]; exact stays
    simp [lapsesAt, parks]

theorem outdated_iff (s : Station) (c : StatusContent) (k : Take) : outdated s c k = true ↔
    c.generation ≠ k.generation ∨ ¬(c.short = true ∧ 0 < c.balance) ∨ senseOf c.served ≠ effortSense s ∨
      senseOf c.served = .none := by
  have short : shortfallOf c = 0 ↔ ¬(c.short = true ∧ 0 < c.balance) := by
    unfold shortfallOf; split <;> simp_all
  simp only [outdated, Bool.or_eq_true, bne_iff_ne, beq_iff_eq, short, or_assoc]

theorem lapsesAt_iff (s : Station) (n : Nat) (c : StatusContent) (k : Take) : lapsesAt s n c k = true ↔
    k.peer = n ∧ (c.generation ≠ k.generation ∨ ¬(c.short = true ∧ 0 < c.balance) ∨ senseOf c.served ≠ effortSense s ∨
      senseOf c.served = .none ∨ ((peerAt s n).state = .fresh ∧ c.parked = true)) := by
  simp only [lapsesAt, Bool.and_eq_true, beq_iff_eq, Bool.or_eq_true, outdated_iff, or_assoc]

theorem getElem?_lapseWhere {p : Take → Bool} {l : List Take} {i : Nat} {k : Take} (h : l[i]? = some k) :
    (lapseWhere p l)[i]? = some (if p k then { k with applied := false } else k) := by simp [lapseWhere, h]

theorem statusArrival_accepted {f : Frame} {n : Nat} {c : StatusContent} {s : Station} (hf : checkStatus f = some (n, c))
    (own : n ≠ s.plug.number.val) (fresh : ∀ l, (peerAt s n).latest = some l → l.sequence ≠ f.sequence) :
    statusArrival f s = acceptStatus n c f.sequence s := by
  have news : repeatsStatus s n f.sequence = false := by
    unfold repeatsStatus
    split
    · rename_i l hl; simpa using fresh l hl
    · rfl
  unfold statusArrival
  rw [hf]
  simp [own, news]

/-! ## Ageing (R135, R164) -/

theorem olderThan_iff (s : Station) (n figure : Nat) : olderThan s n figure = true ↔
    ∃ l, (peerAt s n).latest = some l ∧ figure < age s.time l.arrived := by
  unfold olderThan peerAge
  cases (peerAt s n).latest <;> simp

theorem olderThan_eq_false {s : Station} {n figure : Nat}
    (h : ∀ l, (peerAt s n).latest = some l → age s.time l.arrived ≤ figure) : olderThan s n figure = false := by
  rw [Bool.eq_false_iff, ne_eq, olderThan_iff]
  rintro ⟨l, hl, old⟩
  exact absurd old (not_lt.mpr (h l hl))

theorem peerSilent_due {s : Station} {n : Nat} (fresh : (peerAt s n).state = .fresh) (old : olderThan s n 60 = true) :
    peerSilent n s = lapseOn n (setPeer n { peerAt s n with state := .silent } s) := if_pos (by simp [silentDue, fresh, old])

theorem peerSilent_early {s : Station} {n : Nat} (h : (peerAt s n).state ≠ .fresh ∨ olderThan s n 60 = false) :
    peerSilent n s = s := by
  refine if_neg ?_
  rcases h with h | h <;> simp [silentDue, h]

theorem lostDue_iff (s : Station) (n : Nat) : lostDue s n = true ↔
    ((peerAt s n).state = .silent ∧ olderThan s n 2000 = true) ∨ ((peerAt s n).state = .parked ∧ olderThan s n 5000 = true) := by
  simp [lostDue]

theorem peerLost_due {s : Station} {n : Nat} (h : lostDue s n = true) : peerLost n s =
    report .peerLost none (some (.peer n)) (setPeer n { peerAt s n with state := .lost } s) := if_pos h

theorem peerLost_early {s : Station} {n : Nat} (h : lostDue s n = false) : peerLost n s = s := if_neg (by simp [h])

/-! ## The oldest fault (R181) -/

theorem mem_of_oldestFault {now : Millis} {l : List (Option FaultRecord)} {q : FaultRecord} (h : oldestFault now l = some q) :
    some q ∈ l := by
  induction l with
  | nil => cases h
  | cons o l ih =>
    cases o with
    | none => exact List.mem_cons_of_mem _ (ih h)
    | some r =>
      rw [oldestFault] at h
      split at h
      · rename_i p hp
        split at h
        · cases h; exact List.mem_cons_of_mem _ (ih hp)
        · cases h; exact List.mem_cons_self
      · cases h; exact List.mem_cons_self

theorem oldestFault_none {now : Millis} {l : List (Option FaultRecord)} (h : ∀ r ∈ l, r = none) : oldestFault now l = none := by
  cases ho : oldestFault now l with
  | none => rfl
  | some q => exact absurd (h _ (mem_of_oldestFault ho)) nofun

/-- A record at least as old as every later one is the oldest of them. -/
theorem oldestFault_head {now : Millis} {l : List (Option FaultRecord)} {r : FaultRecord}
    (h : ∀ o, some o ∈ l → age now o.first ≤ age now r.first) : oldestFault now (some r :: l) = some r := by
  rw [oldestFault]
  split
  · rename_i q hq
    exact if_neg (not_lt.mpr (h q (mem_of_oldestFault hq)))
  · rfl

/-- Younger records before it do not change which is the oldest. -/
theorem oldestFault_append {now : Millis} {l : List (Option FaultRecord)} {r : FaultRecord}
    (b : List (Option FaultRecord)) (h : ∀ o, some o ∈ b → age now o.first < age now r.first)
    (hl : oldestFault now l = some r) : oldestFault now (b ++ l) = some r := by
  induction b with
  | nil => exact hl
  | cons o b ih =>
    have later := ih fun o ho => h o (List.mem_cons_of_mem _ ho)
    cases o with
    | none => exact later
    | some p =>
      rw [List.cons_append, oldestFault, later]
      exact if_pos (h p List.mem_cons_self)

theorem oldestCode_of {now : Millis} {t : FaultTable} {r : FaultRecord} (h : oldestFault now t.records = some r) :
    oldestCode now t = faultCode r.kind := by rw [oldestCode, h]

/-! ## The make-up figures of a STATUS (R128) -/

theorem shownFigure_active {s : Station} (h : s.makeUp.standing = .active) (figure : Nat) : shownFigure s figure = figure :=
  if_pos h

theorem shownFigure_idle {s : Station} (h : s.makeUp.standing ≠ .active) (figure : Nat) : shownFigure s figure = 0 := if_neg h

theorem statusContent_short (s : Station) : (statusContent s).short = decide (0 < shownFigure s s.makeUp.shortfall) := rfl

theorem statusContent_balance (s : Station) : (statusContent s).balance =
    min (if decide (0 < shownFigure s s.makeUp.shortfall) then shownFigure s s.makeUp.shortfall
      else shownFigure s s.makeUp.spare) 131071 := rfl

theorem statusContent_covered (s : Station) : (statusContent s).covered = min (shownFigure s s.makeUp.covered) 131071 := rfl

end Sys2Proof.Machine

open Sys2Proof Sys2Proof.Machine

/-- Settles O44. -/
theorem peerRecords : Obligations.PeerRecords := by
  intro q z hz
  refine ⟨fun f n c hf own fresh => ⟨_, actRunning_eq hz ((statusArrival_accepted hf own fresh).trans (acceptStatus_eq _ _ _ _)) q,
      rfl, by simp [lapseWhere], fun i k out hk hout => ?_⟩,
    fun n old fresh => ⟨_, actRunning_eq hz (peerSilent_due fresh ((olderThan_iff _ _ _).mpr old)) q, ?_⟩,
    fun n h => actRunning_eq hz (peerSilent_early (h.imp_right olderThan_eq_false)) q,
    fun n old => actRunning_eq hz (peerLost_due ?_) q, fun n young => actRunning_eq hz (peerLost_early ?_) q⟩
  · rw [← lapsesAt_iff] at hout
    have lapsed := getElem?_lapseWhere (p := lapsesAt z n c) hk
    exact ⟨fun ho => by rw [if_pos (hout.mp ho)] at lapsed; exact lapsed,
      fun ho => by rw [if_neg fun h => ho (hout.mpr h)] at lapsed; exact lapsed⟩
  · simp [lapseOn, lapseWhere, setPeer]
  · obtain ⟨l, hl, ⟨state, old⟩ | ⟨state, old⟩⟩ := old
    · exact (lostDue_iff _ _).mpr (.inl ⟨state, (olderThan_iff _ _ _).mpr ⟨l, hl, old⟩⟩)
    · exact (lostDue_iff _ _).mpr (.inr ⟨state, (olderThan_iff _ _ _).mpr ⟨l, hl, old⟩⟩)
  · rw [Bool.eq_false_iff, ne_eq, lostDue_iff]
    rintro (⟨state, old⟩ | ⟨state, old⟩) <;> obtain ⟨l, hl, old⟩ := (olderThan_iff _ _ _).mp old
    · exact absurd old (not_lt.mpr ((young l hl).1 state))
    · exact absurd old (not_lt.mpr ((young l hl).2 state))

/-- Settles O45. -/
theorem statusBuild : Obligations.StatusBuild := by
  intro q z hz
  refine ⟨statusContent z, actRunning_eq hz rfl q, beq_iff_eq, rfl, rfl, beq_iff_eq, fun active short => ?_, fun active none => ?_,
    fun idle => ?_, rfl, rfl, rfl, rfl, rfl, fun active => ?_, rfl, rfl, rfl, rfl, rfl, fun none => ?_, fun l hl => ?_, rfl, rfl,
    fun free => ?_, fun before r after' split younger older => ?_, rfl, rfl, rfl⟩
  · rw [statusContent_short, statusContent_balance, shownFigure_active active, if_pos (decide_eq_true short)]
    exact ⟨decide_eq_true short, rfl⟩
  · rw [statusContent_short, statusContent_balance, shownFigure_active active, shownFigure_active active, none]
    exact ⟨rfl, rfl⟩
  · simp only [statusContent_short, statusContent_balance, statusContent_covered, shownFigure_idle idle]
    exact ⟨rfl, rfl, rfl⟩
  · rw [statusContent_covered, shownFigure_active active]
  · simp [statusContent, none, clearKindOf]
  · have kind : (statusContent z).clearKind = clearKindOf z.map.lastClear := rfl
    refine ⟨by simp [statusContent, hl], kind.trans ?_⟩
    obtain ⟨id, actual⟩ := l
    rw [hl]
    cases actual <;> rfl
  · have oldest : oldestCode z.time z.faults = 0 := by rw [oldestCode, oldestFault_none free]
    exact oldest
  · exact oldestCode_of (by rw [split]; exact oldestFault_append before younger (oldestFault_head older))

end

section
/-! SUPPORT. What an input has to pass (R159, R173, R185), the plant records and the debounced inputs (R174, R176, R178), and
the commands of the service connector. -/

namespace Sys2Proof.Machine

/-! ## Requests (R184, R185) -/

theorem sumOk_iff (code : Byte) (r : Request) : sumOk code r = true ↔ r.sum = byteSum (code :: r.args) := beq_iff_eq

theorem taken_discarded {code : Byte} {r : Request} (h : r.sum ≠ byteSum (code :: r.args)) (f : Station → Station)
    (z : Station) : taken code r f z = { z with reply := none } :=
  if_pos (Bool.eq_false_iff.mpr fun hs => h ((sumOk_iff code r).mp hs))

theorem taken_refused {code : Byte} {r : Request} (hs : r.sum = byteSum (code :: r.args))
    (hl : argLength code.toNat ≠ some r.args.length) (f : Station → Station) (z : Station) :
    taken code r f z = { z with reply := some ⟨code, .badRequest, .empty⟩ } := by
  rw [taken, if_neg (by rw [(sumOk_iff code r).mpr hs]; nofun), if_neg hl]; rfl

/-- What a request that fails a check is answered, whatever the command does. -/
theorem request_fails {code : Byte} {r : Request} {f : Station → Station} {z : Station} (hz : running z = true)
    (q : List Instr) :
    (r.sum ≠ byteSum (code :: r.args) → actRunning (taken code r f) ⟨q, z⟩ = .next ⟨q, { z with reply := none }⟩) ∧
    (r.sum = byteSum (code :: r.args) → argLength code.toNat ≠ some r.args.length →
      actRunning (taken code r f) ⟨q, z⟩ = .next ⟨q, { z with reply := some ⟨code, .badRequest, .empty⟩ }⟩) :=
  ⟨fun h => actRunning_eq hz (taken_discarded h f z) q, fun hs hl => actRunning_eq hz (taken_refused hs hl f z) q⟩

theorem argLength_unknown {code : Byte} (h : code = 0 ∨ 10 < code.toNat) : argLength code.toNat = none := by
  rcases h with rfl | h
  · rfl
  · generalize code.toNat = n at h
    unfold argLength
    split <;> simp at h ⊢

/-! ## Frames (R159) -/

theorem lengthIs_iff {f : Frame} (hf : f.bits.length = 8 * f.length.toNat) (n : Nat) : lengthIs f n = true ↔ f.length.toNat = n := by
  simp only [lengthIs, Bool.and_eq_true, beq_iff_eq]
  exact ⟨And.left, fun h => ⟨h, h ▸ hf⟩⟩

theorem cabOf_none_iff (b : BitVec 4) : cabOf b = none ↔ 8 ≠ b ∧ 9 ≠ b := by
  unfold cabOf
  split
  · rename_i h; exact iff_of_false nofun fun ⟨ne, _⟩ => ne h.symm
  · rename_i h
    split
    · rename_i h'; exact iff_of_false nofun fun ⟨_, ne⟩ => ne h'.symm
    · rename_i h'; exact iff_of_true rfl ⟨fun e => h e.symm, fun e => h' e.symm⟩

theorem stationOf_none_iff (b : BitVec 4) : stationOf b = none ↔ 8 ≤ b.toNat := by
  unfold stationOf; split <;> simp <;> omega

theorem decodeDemand_none_iff (bits : List Bool) : decodeDemand bits = none ↔ 5 ≤ field bits 0 3 := by
  have mode (n : Nat) : demandModeOf n = none ↔ 5 ≤ n := by
    rcases n with _ | _ | _ | _ | _ | n <;> simp [demandModeOf]
  unfold decodeDemand
  rw [← mode]
  cases demandModeOf (field bits 0 3) <;> simp

theorem checkDemand_none_iff {f : Frame} (hf : f.bits.length = 8 * f.length.toNat) : checkDemand f = none ↔
    (8 ≠ f.sender ∧ 9 ≠ f.sender) ∨ f.length ≠ 6 ∨ 5 ≤ field f.bits 0 3 := by
  have length : lengthIs f 6 = true ↔ f.length = 6 := by
    rw [lengthIs_iff hf]; exact ⟨fun h => BitVec.eq_of_toNat_eq h, fun h => by rw [h]; rfl⟩
  rw [← cabOf_none_iff, ← decodeDemand_none_iff, ne_eq, ← length]
  unfold checkDemand
  cases lengthIs f 6 <;> cases cabOf f.sender <;> cases decodeDemand f.bits <;> simp

theorem servedOf_none_iff (n : Nat) : servedOf n = none ↔ 6 ≤ n := by
  rcases n with _ | _ | _ | _ | _ | _ | n <;> simp [servedOf]

theorem creepOf_none_iff (n : Nat) : creepOf n = none ↔ 6 ≤ n := by
  rcases n with _ | _ | _ | _ | _ | _ | n <;> simp [creepOf]

theorem sanderOf_none_iff (n : Nat) : sanderOf n = none ↔ 5 ≤ n := by
  rcases n with _ | _ | _ | _ | _ | n <;> simp [sanderOf]

theorem decodeStatus_none_iff (n : Nat) (bits : List Bool) : decodeStatus n bits = none ↔ 6 ≤ field bits 1 3 ∨
    6 ≤ field bits 40 3 ∨ 6 ≤ field bits 44 3 ∨ 5 ≤ field bits 186 3 ∨ 5 ≤ field bits 189 3 := by
  rw [← servedOf_none_iff, ← creepOf_none_iff, ← creepOf_none_iff, ← sanderOf_none_iff, ← sanderOf_none_iff]
  unfold decodeStatus
  cases servedOf (field bits 1 3) <;> cases creepOf (field bits 40 3) <;> cases creepOf (field bits 44 3) <;>
    cases sanderOf (field bits 186 3) <;> cases sanderOf (field bits 189 3) <;> simp

theorem takesOfLength_none_iff {f : Frame} (hf : f.bits.length = 8 * f.length.toNat) :
    takesOfLength f = none ↔ ∀ n < 8, f.length.toNat ≠ 28 + 4 * n := by
  simp [takesOfLength, lengthIs_iff hf]

theorem checkStatus_none_iff {f : Frame} (hf : f.bits.length = 8 * f.length.toNat) : checkStatus f = none ↔
    8 ≤ f.sender.toNat ∨ (∀ n < 8, f.length.toNat ≠ 28 + 4 * n) ∨ 6 ≤ field f.bits 1 3 ∨ 6 ≤ field f.bits 40 3 ∨
      6 ≤ field f.bits 44 3 ∨ 5 ≤ field f.bits 186 3 ∨ 5 ≤ field f.bits 189 3 := by
  rw [← stationOf_none_iff, ← takesOfLength_none_iff hf]
  unfold checkStatus
  cases stationOf f.sender with
  | none => simp
  | some n =>
    cases takesOfLength f with
    | none => simp
    | some k => simp [decodeStatus_none_iff]

theorem checkRail_none_iff (now : Millis) {f : Frame} (hf : f.bits.length = 8 * f.length.toNat) :
    checkRail now f = none ↔ 8 ≤ f.sender.toNat ∨ ∀ n, 1 ≤ n → n ≤ 6 → f.length.toNat ≠ 4 * n := by
  have lengths : (List.range 7).find? (fun n => n != 0 && lengthIs f (4 * n)) = none ↔
      ∀ n, 1 ≤ n → n ≤ 6 → f.length.toNat ≠ 4 * n := by
    rw [List.find?_eq_none]
    simp only [List.mem_range, Bool.and_eq_true, bne_iff_ne, ne_eq, lengthIs_iff hf, not_and]
    exact ⟨fun h n h1 h6 => h n (by omega) (by omega), fun h n h7 h0 => h n (by omega) (by omega)⟩
  rw [← stationOf_none_iff, ← lengths]
  unfold checkRail
  cases stationOf f.sender <;> cases (List.range 7).find? (fun n => n != 0 && lengthIs f (4 * n)) <;> simp

theorem checkClear_none_iff {f : Frame} (hf : f.bits.length = 8 * f.length.toNat) :
    checkClear f = none ↔ 10 ≤ f.sender.toNat ∨ f.length ≠ 6 := by
  have length : lengthIs f 6 = true ↔ f.length = 6 := by
    rw [lengthIs_iff hf]; exact ⟨fun h => BitVec.eq_of_toNat_eq h, fun h => by rw [h]; rfl⟩
  rw [ne_eq, ← length]
  unfold checkClear
  split
  · rename_i h; simp [h]
  · rename_i h
    rw [not_and_or] at h
    exact ⟨fun _ => h.imp_left (by omega), fun _ => rfl⟩

/-! ## Arrivals that fail a check (R159, R160, R165) -/

theorem demandArrival_discards {f : Frame} {z : Station} (h : checkDemand f = none ∨ ∃ cab d r, checkDemand f = some (cab, d) ∧
    pick z.port.demands (axleOf cab) = some r ∧ r.sequence = f.sequence) : demandArrival f z = z := by
  unfold demandArrival
  obtain h | ⟨cab, d, r, hf, hr, hq⟩ := h
  · rw [h]
  · rw [hf]
    exact if_pos (by rw [repeatsDemand, hr]; simpa using hq)

theorem statusArrival_discards {f : Frame} {z : Station} (h : checkStatus f = none ∨ ∃ n c l, checkStatus f = some (n, c) ∧
    n ≠ z.plug.number.val ∧ (peerAt z n).latest = some l ∧ l.sequence = f.sequence) : statusArrival f z = z := by
  unfold statusArrival
  obtain h | ⟨n, c, l, hf, own, hl, hq⟩ := h
  · rw [h]
  · rw [hf]
    simp [own, repeatsStatus, hl, hq]

theorem statusArrival_own {f : Frame} {z : Station} {c : StatusContent} (h : checkStatus f = some (z.plug.number.val, c)) :
    statusArrival f z = duplicate z := by
  unfold statusArrival
  rw [h]
  exact if_pos rfl

theorem duplicate_again {z : Station} (h : z.port.dupSeen = true) : duplicate z = z := if_pos h

/-- R138, R165: the first STATUS with the own number is reported, and withdraws the make-up unit. -/
theorem duplicate_first {z : Station} (h : z.port.dupSeen = false) : duplicate z = { z with
    port := { z.port with dupSeen := true }
    makeUp := { z.makeUp with withdrawn := true, standing := .withdrawn, takes := [] }
    faults := recordFault z.faults z.time z.pos.attrLeading.mapCell .duplicateStation none none } := by
  rw [duplicate, if_neg (by simp [h])]; rfl

theorem messageOk_iff (n : Nat) (b : List Byte) : messageOk n b = true ↔ b.length = n ∧ b.getLast? = some (byteSum b.dropLast) := by
  simp [messageOk]

theorem inverterReport_discards {b : List Byte} {z : Station}
    (h : b.length ≠ 16 ∨ z.plug.kind = .trailer ∨ b.getLast? ≠ some (byteSum b.dropLast)) : inverterReport b z = z := by
  unfold inverterReport
  split
  · rename_i r motor decoded
    unfold decodeInverter at decoded
    split at decoded
    · rename_i ok
      obtain ⟨length, sum⟩ := (messageOk_iff _ _).mp ok
      obtain h | h | h := h
      · exact absurd length h
      · rw [h] at motor; cases motor
      · exact absurd sum h
    · cases decoded
  · rfl

theorem brakeReport_discards {b : List Byte} {z : Station} (h : b.length ≠ 10 ∨ b.getLast? ≠ some (byteSum b.dropLast)) :
    brakeReport b z = z := by
  have wrong : decodeBrake b = none := if_neg fun ok => by
    obtain ⟨length, sum⟩ := (messageOk_iff _ _).mp ok
    exact h.elim (fun h => h length) fun h => h sum
  unfold brakeReport
  rw [wrong]

/-! ## Plant records (R173, R174, R176) -/

theorem inverterReport_accepted {b : List Byte} {r : InverterReport} {z : Station} (motor : z.plug.kind = .motor)
    (h : decodeInverter b = some r) :
    inverterReport b z = { z with link := { z.link with inverter := acceptInverter z.time r z.link.inverter } } := by
  unfold inverterReport; rw [motor, h]

theorem brakeReport_accepted {b : List Byte} {r : BrakeReport} {z : Station} (h : decodeBrake b = some r) :
    brakeReport b z = { z with link := { z.link with
      brake := acceptBrake z.time r z.link.brake
      loads := loadsAfter z.figs r (acceptBrake z.time r z.link.brake) } } := by
  unfold brakeReport; rw [h]

theorem acceptInverter_present (now : Millis) (r : InverterReport) {u : InverterRec} (h : u.state = .present) :
    acceptInverter now r u = { u with report := some r, silentSince := now } := by unfold acceptInverter; rw [h]

theorem acceptInverter_lost (now : Millis) (r : InverterReport) {u : InverterRec} (h : u.state = .lost) (hr : u.returns < 2) :
    acceptInverter now r u = { u with report := some r, silentSince := now, returns := u.returns + 1 } := by
  unfold acceptInverter; rw [h]; exact if_neg (by omega)

theorem acceptInverter_returns (now : Millis) (r : InverterReport) {u : InverterRec} (h : u.state = .lost) (hr : 2 ≤ u.returns) :
    acceptInverter now r u =
      { u with state := .present, report := some r, silentSince := now, returns := 3, lossReported := false } := by
  unfold acceptInverter; rw [h]; exact if_pos (by omega)

theorem acceptBrake_present (now : Millis) (r : BrakeReport) {u : BrakeRec} (h : u.state = .present) :
    acceptBrake now r u = { u with report := some r, silentSince := now } := by unfold acceptBrake; rw [h]

theorem acceptBrake_lost (now : Millis) (r : BrakeReport) {u : BrakeRec} (h : u.state = .lost) (hr : u.returns < 2) :
    acceptBrake now r u = { u with report := some r, silentSince := now, returns := u.returns + 1 } := by
  unfold acceptBrake; rw [h]; exact if_neg (by omega)

theorem acceptBrake_returns (now : Millis) (r : BrakeReport) {u : BrakeRec} (h : u.state = .lost) (hr : 2 ≤ u.returns) :
    acceptBrake now r u =
      { u with state := .present, report := some r, silentSince := now, returns := 3, lossReported := false } := by
  unfold acceptBrake; rw [h]; exact if_pos (by omega)

/-- R173: an accepted report is the latest, and the silence starts again. -/
theorem acceptInverter_report (now : Millis) (r : InverterReport) (u : InverterRec) :
    (acceptInverter now r u).report = some r ∧ (acceptInverter now r u).silentSince = now := by
  unfold acceptInverter
  split
  · exact ⟨rfl, rfl⟩
  · split <;> exact ⟨rfl, rfl⟩

theorem acceptBrake_report (now : Millis) (r : BrakeReport) (u : BrakeRec) :
    (acceptBrake now r u).report = some r ∧ (acceptBrake now r u).silentSince = now := by
  unfold acceptBrake
  split
  · exact ⟨rfl, rfl⟩
  · split <;> exact ⟨rfl, rfl⟩

theorem loadsAfter_present (figs : Commissioning) (r : BrakeReport) {u : BrakeRec} (h : u.state = .present) (x : Axle) :
    pick (loadsAfter figs r u) x = max figs.emptyLoad (min figs.crushLoad (pick r.load x)) := by
  unfold loadsAfter; rw [h]; cases x <;> rfl

theorem loadsAfter_lost (figs : Commissioning) (r : BrakeReport) {u : BrakeRec} (h : u.state = .lost) :
    loadsAfter figs r u = ⟨figs.crushLoad, figs.crushLoad⟩ := by unfold loadsAfter; rw [h]; rfl

theorem silenceActs_young {now since : Millis} (h : age now since < 30) (st : UnitState) (n : Nat) (b : Bool) :
    silenceActs now since st n b = false := by
  unfold silenceActs; rw [decide_eq_false (not_le.mpr h)]; rfl

theorem silenceActs_old {now since : Millis} (h : 30 ≤ age now since) {st : UnitState} {n : Nat} {b : Bool} :
    silenceActs now since st n b = true ↔ st = .present ∨ n ≠ 0 ∨ b = false := by
  unfold silenceActs; rw [decide_eq_true h]; cases st <;> simp

theorem unitState_lost {u : UnitState} (h : u ≠ .present) : u = .lost := by cases u with
  | present => exact absurd rfl h
  | lost => rfl

/-- R174: after its silence the inverter is LOST; a unit already LOST, counted 0 and reported is as it was. -/
theorem inverterSilence_old {s : Station} (h : 30 ≤ age s.time s.link.inverter.silentSince) : inverterSilence s = { s with
    link := { s.link with inverter := { s.link.inverter with state := .lost, returns := 0, lossReported := true } }
    faults := if s.link.inverter.state = .present ∨ s.link.inverter.lossReported = false then
      recordFault s.faults s.time s.pos.attrLeading.mapCell .plantLinkLost none none else s.faults } := by
  have acts := silenceActs_old h (st := s.link.inverter.state) (n := s.link.inverter.returns) (b := s.link.inverter.lossReported)
  unfold inverterSilence
  simp only
  split
  · split <;> rfl
  · rename_i idle
    rw [acts, not_or, not_or] at idle
    obtain ⟨lost, none, reported⟩ := idle
    have unit : s.link.inverter = { s.link.inverter with state := .lost, returns := 0, lossReported := true } := by
      rw [← unitState_lost lost, ← not_not.mp none, ← (Bool.not_eq_false _).mp reported]
    rw [← unit, if_neg (by rw [not_or]; exact ⟨lost, reported⟩)]

theorem inverterSilence_young {s : Station} (h : age s.time s.link.inverter.silentSince < 30) : inverterSilence s = s :=
  if_neg (by rw [silenceActs_young h]; nofun)

theorem brakeSilence_old {s : Station} (h : 30 ≤ age s.time s.link.brake.silentSince)
    (acts : s.link.brake.state = .present ∨ s.link.brake.returns ≠ 0 ∨ s.link.brake.lossReported = false) : brakeSilence s = { s with
    link := { s.link with
      brake := { s.link.brake with state := .lost, returns := 0, lossReported := true }
      loads := ⟨s.figs.crushLoad, s.figs.crushLoad⟩ }
    faults := if s.link.brake.state = .present ∨ s.link.brake.lossReported = false then
      recordFault s.faults s.time s.pos.attrLeading.mapCell .brakeUnitLost none none else s.faults } := by
  unfold brakeSilence
  simp only
  rw [if_pos ((silenceActs_old h).mpr acts)]
  split <;> rfl

theorem brakeSilence_young {s : Station} (h : age s.time s.link.brake.silentSince < 30) : brakeSilence s = s :=
  if_neg (by rw [silenceActs_young h]; nofun)

end Sys2Proof.Machine

open Sys2Proof Sys2Proof.Machine

/-- Settles O47. -/
theorem discardedInputs : Obligations.DiscardedInputs := by
  intro q z hz
  refine ⟨fun f h => actRunning_eq hz (demandArrival_discards h) q, fun f hf => checkDemand_none_iff hf,
    fun f hf => checkStatus_none_iff hf, fun now f hf => checkRail_none_iff now hf,
    fun f h => actRunning_eq hz (statusArrival_discards h) q,
    fun f c h => ⟨fun seen => actRunning_eq hz ((statusArrival_own h).trans (duplicate_again seen)) q,
      fun unseen => actRunning_eq hz ((statusArrival_own h).trans (duplicate_first unseen)) q⟩,
    fun f h => actRunning_eq hz (by rw [railReportArrival, h]) q, fun f h => actRunning_eq hz (by rw [mapClearArrival, h]) q,
    fun f hf => checkClear_none_iff hf, fun b h => actRunning_eq hz (inverterReport_discards h) q,
    fun b h => actRunning_eq hz (brakeReport_discards h) q, fun code req c h => ?_,
    fun req plug comm => ⟨(request_fails hz q).1, fun hs hl => (request_fails hz q).2 hs ?_⟩, fun code h => argLength_unknown h⟩
  · obtain listed | ⟨rfl, -⟩ := h
    · simp only [List.mem_cons, List.not_mem_nil, or_false, Prod.mk.injEq] at listed
      obtain ⟨rfl, rfl⟩ | ⟨rfl, rfl⟩ | ⟨rfl, rfl⟩ | ⟨rfl, rfl⟩ | ⟨rfl, rfl⟩ | ⟨rfl, rfl⟩ | ⟨rfl, rfl⟩ | ⟨rfl, rfl⟩ |
        ⟨rfl, rfl⟩ := listed <;> exact request_fails hz q
    · exact request_fails hz q
  · intro length
    exact hl (List.length_eq_zero_iff.mp (Option.some.inj length).symm)

/-- Settles O48. -/
theorem plantRecords : Obligations.PlantRecords := by
  intro q z hz
  refine ⟨fun b r motor hr => ⟨_, actRunning_eq hz (inverterReport_accepted motor hr) q, (acceptInverter_report _ _ _).1,
      (acceptInverter_report _ _ _).2, acceptInverter_present _ _, fun lost early => ?_, fun lost due => ?_⟩,
    fun b r hr => ⟨_, _, actRunning_eq hz (brakeReport_accepted hr) q, (acceptBrake_report _ _ _).1, (acceptBrake_report _ _ _).2,
      fun h => ?_, fun lost early => ?_, fun lost due => ?_⟩,
    fun old => actRunning_eq hz (inverterSilence_old old) q, fun acts old => actRunning_eq hz (brakeSilence_old old acts) q,
    fun young => actRunning_eq hz (inverterSilence_young young) q, fun young => actRunning_eq hz (brakeSilence_young young) q⟩
  · rw [acceptInverter_lost _ _ lost early]; exact ⟨lost, rfl, rfl⟩
  · rw [acceptInverter_returns _ _ lost due]; exact ⟨rfl, rfl⟩
  · have present : (acceptBrake z.time r z.link.brake).state = .present := by
      by_cases hp : z.link.brake.state = .present
      · rw [acceptBrake_present _ _ hp]; exact hp
      · rw [acceptBrake_returns _ _ (unitState_lost hp) (h.resolve_left hp)]
    exact ⟨present, loadsAfter_present _ _ present⟩
  · have stays : (acceptBrake z.time r z.link.brake).state = .lost := by rw [acceptBrake_lost _ _ lost early]; exact lost
    refine ⟨stays, ?_, loadsAfter_lost _ _ stays⟩
    rw [acceptBrake_lost _ _ lost early]
  · rw [acceptBrake_returns _ _ lost due]

end

section
/-! SUPPORT. The debounced inputs (R178), what the service connector reads and clears (R181, R184, R185), and the commissioning
write (R186). -/

namespace Sys2Proof.Machine

/-! ## Raw levels (R178) -/

theorem loopRaw_same {l : LoopLevel} {s : Station} (h : s.link.loop.raw = l) : loopRaw l s = s := if_pos h

theorem loopRaw_changes {l : LoopLevel} {s : Station} (h : s.link.loop.raw ≠ l) : loopRaw l s =
    { s with link := { s.link with loop := { s.link.loop with raw := l, changedAt := s.time } } } := if_neg h

theorem shoeRaw_same {l : ShoeLevel} {s : Station} (h : s.link.shoe.raw = l) : shoeRaw l s = s := if_pos h

theorem shoeRaw_changes {l : ShoeLevel} {s : Station} (h : s.link.shoe.raw ≠ l) : shoeRaw l s =
    { s with link := { s.link with shoe := { s.link.shoe with raw := l, changedAt := s.time } } } := if_neg h

/-! ## Delivery of the loop (R155, R178) -/

theorem loopDue_iff (s : Station) : loopDue s = true ↔
    10 ≤ age s.time s.link.loop.changedAt ∧ s.link.loop.delivered ≠ some s.link.loop.raw := by
  rw [loopDue, Bool.and_eq_true, decide_eq_true_eq, bne_iff_ne]

theorem shoeDue_iff (s : Station) : shoeDue s = true ↔
    10 ≤ age s.time s.link.shoe.changedAt ∧ s.link.shoe.delivered ≠ some s.link.shoe.raw := by
  rw [shoeDue, Bool.and_eq_true, decide_eq_true_eq, bne_iff_ne]

/-- The station with the loop delivered, as the evaluation finds it. -/
def loopDelivered (s : Station) : Station :=
  { s with link := { s.link with loop := { s.link.loop with delivered := some s.link.loop.raw } } }

theorem loopDelivery_due {s : Station} (h : 10 ≤ age s.time s.link.loop.changedAt)
    (hd : s.link.loop.delivered ≠ some s.link.loop.raw) : loopDelivery s = wake (evaluate false (loopDelivered s)) :=
  if_pos ((loopDue_iff s).mpr ⟨h, hd⟩)

theorem loopDelivery_early {s : Station} (h : age s.time s.link.loop.changedAt < 10 ∨
    s.link.loop.delivered = some s.link.loop.raw) : loopDelivery s = s := by
  refine if_neg fun due => ?_
  obtain ⟨old, undelivered⟩ := (loopDue_iff s).mp due
  exact h.elim (fun young => not_lt.mpr old young) undelivered

/-- R155, R166: a wake leaves the station in RUN and, from PARKED, builds a STATUS. -/
theorem wake_eq {s : Station} (h : running s = true) :
    (s.life = .parked → wake s = buildStatus { s with life := .run }) ∧ (s.life ≠ .parked → wake s = s ∧ s.life = .run) := by
  refine ⟨fun parked => ?_, fun other => ?_⟩
  · simp [wake, announced, rouse, parked]
  · refine ⟨by simp [wake, announced, rouse, other], ?_⟩
    unfold running at h
    cases hl : s.life with
    | run => rfl
    | parked => exact absurd hl other
    | off | start => rw [hl] at h; cases h

/-- What a wake writes. -/
theorem wake_frame_port {s : Station} (h : running s = true) : wake s = { s with
    life := .run
    port := { s.port with
      seqStatus := (wake s).port.seqStatus, statusSlot := (wake s).port.statusSlot, lastStatus := (wake s).port.lastStatus } } := by
  obtain ⟨parked, other⟩ := wake_eq h
  by_cases hl : s.life = .parked
  · rw [parked hl]; rfl
  · obtain ⟨stays, run⟩ := other hl
    rw [stays, ← run]

theorem running_evaluate (arrival : Bool) (s : Station) : running (evaluate arrival s) = running s := by
  obtain ⟨_, _, _, _, e⟩ := evaluate_frame arrival s; rw [e]; rfl

/-- R143, R145: under a governing request that is none or PARK a HOLDING station stays HOLDING. -/
theorem evaluate_parked (arrival : Bool) {s : Station} (holding : s.hold.state = .holding)
    (park : ∀ g, s.blend.governing = some g → g.mode = .park) : (evaluate arrival s).hold.state = .holding := by
  have mode : nextEffMode s ≠ .drive := by
    rcases nextEffMode_eq s with h | h
    · rw [h]; nofun
    · rw [h]
      cases hg : s.blend.governing with
      | none => rw [requestedMode_none hg]; nofun
      | some g => rw [requestedMode_some hg, park g hg]; nofun
  have idle : driveRequest (evaluate arrival s) = false := by
    rw [Bool.eq_false_iff, ne_eq, driveRequest_iff]
    rintro ⟨served, -⟩
    rw [evaluate_served, evaluate_effMode] at served
    exact mode (servedFor_eq_drive served).1
  have state : (evaluated arrival s).hold.state = .holding := by rw [(evaluated_unread arrival s).1]; exact holding
  rw [evaluate_noDrive idle, holdNoDrive_held (.inl state), state]

/-! ## Delivery of the shoe-down sensor (R119, R178) -/

/-- The station with the sensor's level shown. -/
def shoeShown (s : Station) : Station :=
  { s with link := { s.link with shoe := { s.link.shoe with delivered := some s.link.shoe.raw } } }

theorem shoeDelivery_due {s : Station} (h : 10 ≤ age s.time s.link.shoe.changedAt)
    (hd : s.link.shoe.delivered ≠ some s.link.shoe.raw) :
    shoeDelivery s = if s.plug.trackBrake then shoeDelivered s.link.shoe.raw (shoeShown s) else shoeShown s :=
  if_pos ((shoeDue_iff s).mpr ⟨h, hd⟩)

theorem shoeDelivery_early {s : Station} (h : age s.time s.link.shoe.changedAt < 10 ∨
    s.link.shoe.delivered = some s.link.shoe.raw) : shoeDelivery s = s := by
  refine if_neg fun due => ?_
  obtain ⟨old, undelivered⟩ := (shoeDue_iff s).mp due
  exact h.elim (fun young => not_lt.mpr old young) undelivered

theorem shoeDelivered_down {s : Station} (h : s.blend.mtb = .lowering ∨ s.blend.mtb = .unconfirmed) :
    shoeDelivered .down s = { s with blend := { s.blend with mtb := .down, loweringSince := none } } := by
  unfold shoeDelivered
  rcases h with h | h <;> rw [h]

theorem shoeDelivered_lost {s : Station} (h : s.blend.mtb = .down) : shoeDelivered .notDown s =
    report .mtbNotDown none none { s with blend := { s.blend with mtb := .unconfirmed } } := by
  unfold shoeDelivered; rw [h]

theorem shoeDelivered_none {l : ShoeLevel} {s : Station} (h : s.blend.mtb = .up ∨ (l = .down ↔ s.blend.mtb = .down)) :
    shoeDelivered l s = s := by
  unfold shoeDelivered
  split <;> rename_i mtb <;> simp [mtb] at h <;> rfl

/-! ## The replies (R184, R185) -/

theorem readMap_frames (now : Millis) (es : List MapEntry) (box : List OutboxItem) :
    (es.map (entryItems now)).map (·.cell) = es.map (·.cell) ∧
    (es.map (entryItems now)).map (·.peak) = es.map (fun e => e.peak.map fun p => (p.mu, age now p.time)) ∧
    (box.map (outboxItems now)).map (·.obs) = box.map (·.obs) ∧
    (box.map (outboxItems now)).map (·.inFrame) = box.map (·.inFrame) ∧
    (box.map (outboxItems now)).map (·.age) = box.map (fun o => age now o.obs.time) := by
  simp only [List.map_map]
  exact ⟨rfl, rfl, rfl, rfl, rfl⟩

/-! ## WRITE COMMISSIONING (R184, R186) -/

@[simp] theorem length_decodeFields (n : Nat) (b : List Byte) : (decodeFields n b).length = n := by
  induction n generalizing b with
  | zero => rfl
  | succ n ih => simp [decodeFields, ih]

theorem getElem?_decodeFields {n i : Nat} (hi : i < n) (b : List Byte) :
    (decodeFields n b)[i]? = some (asSigned 32 (bytesAt b (4 * i) 4)) := by
  induction n generalizing i b with
  | zero => omega
  | succ n ih =>
    cases i with
    | zero => rfl
    | succ i =>
      rw [decodeFields, List.getElem?_cons_succ, ih (by omega), bytesAt, bytesAt, List.drop_drop,
        show 4 + 4 * i = 4 * (i + 1) by omega]

theorem length_blockRanges : blockRanges.length = 262 := by
  unfold blockRanges copies
  simp only [List.length_append, List.length_flatten, List.map_replicate, List.sum_replicate]
  rfl

/-- Check 4 of R186: every figure lies in its range. -/
theorem blockInRange_iff {fields : List Int} (h : fields.length = 262) : blockInRange fields = true ↔
    ∀ (i : Nat) (r : FigureRange) (v : Int), blockRanges[i]? = some r → fields[i]? = some v → inRange r v = true := by
  have length : (fields.length == blockRanges.length) = true := by rw [h, length_blockRanges]; rfl
  rw [blockInRange, length, Bool.true_and, List.all_eq_true]
  constructor
  · intro all i r v hr hv
    refine all (inRange r v) (List.mem_of_getElem? (i := i) ?_)
    rw [List.getElem?_zipWith, hr, hv]
  · intro all b hb
    obtain ⟨i, hi⟩ := List.mem_iff_getElem?.mp hb
    obtain ⟨r, v, hr, hv, rfl⟩ := List.getElem?_zipWith_eq_some.mp hi
    exact all i r v hr hv

theorem writeCommissioning_refuses {req : Request} {s : Station} {rc : ReplyCode} (hrc : rc ≠ .ok)
    (h : writeCheck (decodeFields 262 req.args) s = rc) :
    writeCommissioning req s = { s with reply := some ⟨9, rc, .empty⟩ } := by
  unfold writeCommissioning
  simp only
  rw [h]
  cases rc with
  | ok => exact absurd rfl hrc
  | refusedLocked | refusedMotion | busy | badValue | badRequest => rfl

theorem writeCommissioning_writes {req : Request} {s : Station} (h : writeCheck (decodeFields 262 req.args) s = .ok) :
    writeCommissioning req s = { s with
      store := { s.store with write := some (.commissioning (decodeFields 262 req.args) s.time) }
      reply := some ⟨9, .ok, .empty⟩ } := by
  unfold writeCommissioning
  simp only
  rw [h]
  rfl

end Sys2Proof.Machine

open Sys2Proof Sys2Proof.Machine

/-- Settles O49. -/
theorem plantInputs : Obligations.PlantInputs := by
  refine ⟨fun l q z => ⟨fun h => ?_, fun h => ?_⟩, fun l q z => ⟨fun h => ?_, fun h => ?_⟩,
    fun q z hz => ⟨fun h => actRunning_eq hz (loopDelivery_early h) q, fun old undelivered => ?_,
      fun h => actRunning_eq hz (shoeDelivery_early h) q, fun link old undelivered hlink => ?_⟩⟩
  · exact congrArg (fun s => Host.Outcome.next (⟨q, s⟩ : State)) (loopRaw_same h)
  · exact congrArg (fun s => Host.Outcome.next (⟨q, s⟩ : State)) (loopRaw_changes h)
  · exact congrArg (fun s => Host.Outcome.next (⟨q, s⟩ : State)) (shoeRaw_same h)
  · exact congrArg (fun s => Host.Outcome.next (⟨q, s⟩ : State)) (shoeRaw_changes h)
  · have run : running (evaluate false (loopDelivered z)) = true := (running_evaluate _ _).trans hz
    have fields := evaluate_frame_fields false (loopDelivered z)
    have frame := wake_frame_port run
    have eff := evaluate_effMode false (loopDelivered z)
    have blend : (wake (evaluate false (loopDelivered z))).blend = (evaluate false (loopDelivered z)).blend := by rw [frame]
    have hold : (wake (evaluate false (loopDelivered z))).hold = (evaluate false (loopDelivered z)).hold := by rw [frame]
    refine ⟨_, actRunning_eq hz (loopDelivery_due old undelivered) q, by rw [frame], by rw [frame, fields]; rfl, fun isOpen => ?_,
      fun _ emergency moving => ?_, fun parked law => ?_, ?_⟩
    · have entered : (evaluate false (loopDelivered z)).blend.effMode = .emergency :=
        eff.trans (nextEffMode_emergency (.inl ((loopIsOpen_iff _).mpr (congrArg some isOpen))))
      rw [blend, evaluate_served, evaluate_accel, entered]
      exact ⟨rfl, rfl, rfl⟩
    · rw [blend, eff]
      exact nextEffMode_emergency (.inr ⟨emergency, .inl moving⟩)
    · obtain ⟨holding, park⟩ := law.parked parked
      have life : (evaluate false (loopDelivered z)).life = .parked := by rw [fields]; exact parked
      have seq : (evaluate false (loopDelivered z)).port = z.port := by rw [fields]; rfl
      refine ⟨by rw [hold]; exact evaluate_parked false (by exact holding) (by exact park), ?_⟩
      rw [(wake_eq run).1 life, ← seq]; rfl
    · generalize evaluate false (loopDelivered z) = u at fields frame
      rw [frame, fields]
      rfl
  · have due := shoeDelivery_due old undelivered
    have shown : shoeShown z = { z with link := link } := by rw [hlink]; rfl
    rw [shown] at due
    refine ⟨fun strap raw mtb => actRunning_eq hz ?_ q, fun strap raw mtb => actRunning_eq hz ?_ q,
      fun h => actRunning_eq hz ?_ q⟩
    · rw [due, if_pos strap, raw]; exact shoeDelivered_down mtb
    · rw [due, if_pos strap, raw]; exact shoeDelivered_lost mtb
    · rw [due]
      split
      · rename_i strap
        exact shoeDelivered_none (h.resolve_left (by simp [strap]))
      · rfl

/-- Settles O50. -/
theorem readsAndFaultCommands : Obligations.ReadsAndFaultCommands := by
  intro req q z hz
  have one (n : Nat) (h : req.args.length = n) : some n = some req.args.length := congrArg some h.symm
  have none' (h : req.args = []) : some 0 = some req.args.length := one 0 (by rw [h]; rfl)
  obtain ⟨cells, peaks, obs, marks, ages⟩ := readMap_frames z.time z.map.entries z.map.outbox
  refine ⟨fun sum len => ⟨statusItems z, actRunning_taken hz sum (none' len) rfl q, rfl, rfl, rfl, fun x => ?_, rfl, rfl, rfl, rfl, rfl⟩,
    fun sum len => actRunning_taken hz sum (none' len) rfl q,
    fun sum len => ⟨mapItems z, actRunning_taken hz sum (none' len) rfl q, cells, rfl, obs, marks, ages, peaks⟩,
    fun n sum len hn => ⟨fun low => actRunning_taken hz sum (one 1 len) ?_ q, fun high => actRunning_taken hz sum (one 1 len) ?_ q⟩,
    fun sum len => actRunning_taken hz sum (none' len) rfl q, fun sum len => actRunning_taken hz sum (none' len) rfl q⟩
  · cases x <;> exact ⟨rfl, rfl, rfl, rfl, rfl, rfl⟩
  · have number : argByte req 0 = n := hn.symm
    rw [number, clearFault, if_pos low]; rfl
  · have number : argByte req 0 = n := hn.symm
    rw [number, clearFault, if_neg (not_le.mpr high)]; rfl

/-- Settles O53: the four checks in their order. -/
theorem writeCommissioning : Obligations.WriteCommissioning := by
  intro req fields ok answer q z hz sum len hfields hok hanswer
  subst hfields hanswer
  have length : (decodeFields 262 req.args).length = 262 := length_decodeFields _ _
  rw [← blockInRange_iff length] at hok
  have taken {t : Station} (h : Machine.writeCommissioning req z = t) :
      exec (.writeCommissioning req) ⟨q, z⟩ = .next ⟨q, t⟩ := actRunning_taken hz sum (by rw [len]; rfl) h q
  refine ⟨length, fun i hi => getElem?_decodeFields hi _, fun locked => ?_, fun strap moving => ?_, fun strap held busy => ?_,
    fun strap held idle bad => ?_, fun strap held idle good => ?_⟩
  · exact taken (writeCommissioning_refuses nofun (by simp [writeCheck, locked]))
  · exact taken (writeCommissioning_refuses nofun (by simp [writeCheck, strap, moving]))
  · exact taken (writeCommissioning_refuses nofun (by simp [writeCheck, strap, held, Option.isSome_iff_ne_none, busy]))
  · exact taken (writeCommissioning_refuses nofun (by simp [writeCheck, strap, held, idle, mt hok.mpr bad]))
  · exact taken (writeCommissioning_writes (by simp [writeCheck, strap, held, idle, hok.mp good]))

end

section
/-! SUPPORT. A speed sample stage by stage: what its stages hand on. -/

namespace Sys2Proof.Machine

/-! ## The stages of a sample (R5) -/

/-- R5: the station after steps 1 to 3. -/
def measured (s : Station) : Station := measure { s with lastSample := s.time }

/-- R5: the station after steps 1 to 5. -/
def learned (s : Station) : Station := learnSample .b (learnSample .a (moveReference (measured s)))

/-- R5: the station as the creep controller finds it. -/
def held (s : Station) : Station := holdSample (positionSample (learned s))

theorem sampleSteps_eq (s : Station) : sampleSteps s = command (seeds (measured s)) (held s) := rfl

theorem measured_frame (s : Station) :
    ∃ r a c f, measured s = { s with lastSample := s.time, ref := r, axles := a, creep := c, faults := f } :=
  measure_frame { s with lastSample := s.time }

theorem learned_frame (s : Station) :
    ∃ r a c f, learned s = { s with lastSample := s.time, ref := r, axles := a, creep := c, faults := f } := by
  obtain ⟨_, _, c, _, e⟩ := measured_frame s
  obtain ⟨r, f, e1⟩ := moveReference_frame (measured s)
  obtain ⟨_, e2⟩ := learnSample_frame .a (moveReference (measured s))
  obtain ⟨a, e3⟩ := learnSample_frame .b (learnSample .a (moveReference (measured s)))
  exact ⟨r, a, c, f, by rw [learned, e3, e2, e1, e]⟩

/-! ## Odometry (R50, R52) -/

/-- R50: what odometry leaves, before the limit of R52. -/
theorem odometer_advanceOdometry (s : Station) : odometer (advanceOdometry s).pos =
    (clampPosition (movedBy s.pos.sense s.pos.station ((s.ref.speed * 5 + s.pos.remainder).tdiv 1000)),
     (if decide (0 ≤ movedBy s.pos.sense s.pos.station ((s.ref.speed * 5 + s.pos.remainder).tdiv 1000)) &&
        decide (movedBy s.pos.sense s.pos.station ((s.ref.speed * 5 + s.pos.remainder).tdiv 1000) ≤ 100000000)
      then (s.ref.speed * 5 + s.pos.remainder).tmod 1000 else 0),
     s.pos.reckoned + ((s.ref.speed * 5 + s.pos.remainder).tdiv 1000).natAbs, s.pos.state) := rfl

theorem odometer_deadReckoningLimit (s : Station) : odometer (deadReckoningLimit s).pos =
    (s.pos.station, s.pos.remainder, s.pos.reckoned, if 500000 < s.pos.reckoned then .lost else s.pos.state) := by
  by_cases far : 500000 < s.pos.reckoned
  · rw [if_pos far]
    by_cases lost : s.pos.state = .lost
    · rw [deadReckoningLimit_within (.inr lost), ← lost]; rfl
    · rw [deadReckoningLimit_lost far lost, resolveNow_pos, odometer_resolved]; rfl
  · rw [if_neg far, deadReckoningLimit_within (.inl (by omega))]; rfl

theorem deadReckoningLimit_figs (s : Station) : (deadReckoningLimit s).figs = s.figs := by
  obtain ⟨_, _, _, _, e⟩ := deadReckoningLimit_frame s; rw [e]

theorem positionSample_pos (s : Station) : (positionSample s).pos = resolved (deadReckoningLimit (advanceOdometry s)) := rfl

theorem positionSample_figs (s : Station) : (positionSample s).figs = s.figs := by
  obtain ⟨_, _, _, _, e⟩ := positionSample_frame s; rw [e]

theorem positionSample_resolves (s : Station) : Resolved s.figs (positionSample s).pos := by
  have figs : (deadReckoningLimit (advanceOdometry s)).figs = s.figs := deadReckoningLimit_figs _
  rw [positionSample_pos, ← figs]
  exact resolved_resolves _

theorem odometer_positionSample (s : Station) : odometer (positionSample s).pos =
    odometer (deadReckoningLimit (advanceOdometry s)).pos := rfl

/-! ## The hold unit's part and the position (R54, R141) -/

/-- R141: only the standstill test, through a pending change, reaches the position. -/
theorem holdSample_pos (s : Station) : (holdSample s).pos = (stillTest s).pos := by
  have wheel (t : Station) : (wheelWake t).pos = t.pos := by
    obtain ⟨_, _, _, _, _, _, e⟩ := wheelWake_frame t; rw [e]
  have rollback (t : Station) : (rollbackTest t).pos = t.pos := by
    obtain ⟨_, _, _, _, _, _, e⟩ := rollbackTest_frame t; rw [e]
  have forward (t : Station) : (releaseForward t).pos = t.pos := by
    obtain ⟨_, _, e⟩ := releaseForward_frame t; rw [e]
  have level (b : Bool) (t : Station) : (levelStart b t).pos = t.pos := by
    obtain ⟨_, e⟩ := levelStart_frame b t; rw [e]
  have hill (t : Station) : (hillSample t).pos = t.pos := by
    obtain ⟨_, e⟩ := hillSample_frame t; rw [e]
  have park (t : Station) : (parkTest t).pos = t.pos := by
    obtain ⟨_, _, _, _, e⟩ := parkTest_frame t; rw [e]
  have publish (t : Station) : (holdPublish t).pos = t.pos := rfl
  unfold holdSample
  simp only [publish, park, hill, level, forward, rollback, wheel]

/-- What a stage of a sample does to the position when it at most takes a pending change. -/
def TakesAtMost (s t : Station) : Prop :=
  t.pos = s.pos ∨ ∃ c : EndChange, s.pos.change = some c ∧ ∃ u : Station, u.figs = s.figs ∧
    u.pos = { s.pos with leadingEnd := c.leadingEnd, sense := c.sense, endTaken := true, change := none } ∧
    t.pos = resolved u

theorem takePending_pos (s : Station) : TakesAtMost s (takePending s) := by
  unfold takePending
  split
  · rename_i c hc
    exact .inr ⟨c, hc, takeChange_pos c s⟩
  · exact .inl rfl

theorem beginStandstill_pos (s : Station) : TakesAtMost s (beginStandstill s) := by
  have taken := takePending_pos (evaluate false (stood s))
  obtain ⟨_, standing⟩ := stood_frame s
  have pos : (evaluate false (stood s)).pos = s.pos := by rw [evaluate_pos, standing]
  have figs : (evaluate false (stood s)).figs = s.figs := by
    obtain ⟨_, _, _, _, e⟩ := evaluate_frame false (stood s)
    rw [e, standing]
  unfold TakesAtMost at taken ⊢
  rw [pos, figs] at taken
  exact taken

theorem stillTest_pos (s : Station) : TakesAtMost s (stillTest s) := by
  unfold stillTest
  simp only
  split
  · unfold standstillExpiry
    split
    · exact beginStandstill_pos _
    · exact .inl rfl
  · split
    · exact .inl (evaluate_pos _ _)
    · exact .inl rfl

theorem TakesAtMost.odometer {s t : Station} (h : TakesAtMost s t) : odometer t.pos = odometer s.pos := by
  rcases h with h | ⟨_, _, u, _, pos, h⟩
  · rw [h]
  · rw [h, odometer_resolved, pos]; rfl

theorem TakesAtMost.resolves {s t : Station} (h : TakesAtMost s t) (hs : Resolved s.figs s.pos) : Resolved s.figs t.pos := by
  rcases h with h | ⟨_, _, u, figs, _, h⟩
  · rw [h]; exact hs
  · rw [h, ← figs]; exact resolved_resolves u

/-! ## The creep controller's part and the position -/

theorem command_pos (seeded : Bool) (s : Station) : (command seeded s).pos = s.pos := by
  obtain ⟨_, _, _, _, _, _, _, _, e⟩ := creepSample_frame seeded s
  unfold command sendOrders flagCandidates
  rw [e]

theorem speedSample_pos (s : Station) : (speedSample s).pos = (held s).pos := by
  obtain ⟨_, e⟩ := announced_frame sampleSteps s
  have steps : (speedSample s).pos = (sampleSteps s).pos := by unfold speedSample; rw [e]
  rw [steps, sampleSteps_eq, command_pos]

/-- R5: after its step 4 a sample does not move the reference. -/
theorem speedSample_ref (s : Station) : (speedSample s).ref = (moveReference (measured s)).ref := by
  have judged (t : Station) : (holdSample (positionSample (learnSample .b (learnSample .a t)))).ref = t.ref := by
    obtain ⟨_, _, _, _, _, _, _, _, _, _, _, _, h⟩ := holdSample_frame (positionSample (learnSample .b (learnSample .a t)))
    obtain ⟨_, _, _, _, p⟩ := positionSample_frame (learnSample .b (learnSample .a t))
    obtain ⟨_, b⟩ := learnSample_frame .b (learnSample .a t)
    obtain ⟨_, a⟩ := learnSample_frame .a t
    rw [h, p, b, a]
  have commanded (b : Bool) (t : Station) : (command b t).ref = t.ref := by
    obtain ⟨_, _, _, _, _, _, _, _, e⟩ := creepSample_frame b t
    unfold command sendOrders flagCandidates
    rw [e]
  obtain ⟨_, e⟩ := announced_frame sampleSteps s
  have steps : (speedSample s).ref = (sampleSteps s).ref := by unfold speedSample; rw [e]
  rw [steps, sampleSteps_eq, commanded]
  exact judged _

theorem learned_ref (s : Station) : (learned s).ref = (moveReference (measured s)).ref := by
  obtain ⟨_, b⟩ := learnSample_frame .b (learnSample .a (moveReference (measured s)))
  obtain ⟨_, a⟩ := learnSample_frame .a (moveReference (measured s))
  rw [learned, b, a]

theorem learned_pos (s : Station) : (learned s).pos = s.pos := by
  obtain ⟨_, _, _, _, e⟩ := learned_frame s; rw [e]

theorem learned_figs (s : Station) : (learned s).figs = s.figs := by
  obtain ⟨_, _, _, _, e⟩ := learned_frame s; rw [e]

/-- R50, R52: what a whole sample leaves of the odometer. -/
theorem odometer_speedSample (s : Station) : odometer (speedSample s).pos =
    odometer (deadReckoningLimit (advanceOdometry (learned s))).pos := by
  rw [speedSample_pos, held, holdSample_pos, (stillTest_pos _).odometer, odometer_positionSample]

theorem speedSample_resolves (s : Station) : Resolved s.figs (speedSample s).pos := by
  have figs : (positionSample (learned s)).figs = s.figs := (positionSample_figs _).trans (learned_figs s)
  have resolves := (stillTest_pos (positionSample (learned s))).resolves (by
    rw [positionSample_figs]; exact positionSample_resolves _)
  rw [figs] at resolves
  rw [speedSample_pos, held, holdSample_pos]
  exact resolves

end Sys2Proof.Machine

open Sys2Proof Sys2Proof.Machine

/-- Settles O15: of the stages after the odometry only the standstill test reaches the position, by taking a pending change,
and that keeps the odometer. -/
theorem sampleOdometry : Obligations.SampleOdometry := by
  intro q z hz
  refine ⟨speedSample z, actRunning_running speedSample ⟨q, z⟩ hz, fun sum moved hsum hmoved => ?_⟩
  have odo := odometer_speedSample z
  rw [odometer_deadReckoningLimit] at odo
  have advanced := odometer_advanceOdometry (learned z)
  rw [learned_pos, learned_ref, ← speedSample_ref, ← hsum] at advanced
  have moves : movedBy z.pos.sense z.pos.station (sum.tdiv 1000) = moved := hmoved ▸ by
    cases z.pos.sense <;> rfl
  rw [moves] at advanced
  generalize (advanceOdometry (learned z)).pos = u at odo advanced
  simp only [odometer, Prod.mk.injEq] at odo advanced
  obtain ⟨ustation, uremainder, ureckoned, ustate⟩ := advanced
  obtain ⟨station, remainder, reckoned, state⟩ := odo
  rw [ustation, clampPosition_eq] at station
  rw [uremainder] at remainder
  rw [ureckoned] at reckoned
  rw [ureckoned, ustate, ← reckoned] at state
  refine ⟨reckoned, fun low high => ?_, fun low => ?_, fun high => ?_, fun far => ?_, fun near => ?_, speedSample_resolves z⟩
  · rw [remainder, if_pos (by simp [low, high]), station]
    exact ⟨by omega, rfl⟩
  · rw [remainder, if_neg (by simp; omega), station]
    exact ⟨by omega, rfl⟩
  · rw [remainder, if_neg (by simp; omega), station]
    exact ⟨by omega, rfl⟩
  · rw [state, if_pos far]
  · rw [state, if_neg (not_lt.mpr near)]

end

section
/-! SUPPORT. A DEMAND at the position unit (R46, R48, R49, R53) and at the blend unit (R105, R155, R160 to R162). -/

namespace Sys2Proof.Machine

/-! ## The leading end and sense (R48, R53) -/

theorem namesInForce_iff (s : Station) (d : DemandContent) :
    namesInForce s d = true ↔ d.leadingEnd = s.pos.leadingEnd ∧ d.sense = s.pos.sense := by simp [namesInForce]

theorem competing_iff (s : Station) (cab : CabEnd) (d : DemandContent) : competing s cab d = true ↔
    ∃ l, s.pos.lastTaken = some l ∧ l.cab ≠ cab ∧ age s.time l.time < 100 ∧
      ¬(d.leadingEnd = s.pos.leadingEnd ∧ d.sense = s.pos.sense) := by
  unfold competing
  rw [← namesInForce_iff]
  cases s.pos.lastTaken with
  | none => simp
  | some l =>
    simp only [Bool.and_eq_true, Bool.not_eq_true', bne_iff_ne, ne_eq, Option.some.injEq, exists_eq_left', and_assoc,
      decide_eq_true_eq, Bool.not_eq_true]

/-- What of the position an anchor leaves alone. -/
def endInForce (p : Position) : CabEnd × Sense × Option EndChange × Option LastTaken × Bool :=
  (p.leadingEnd, p.sense, p.change, p.lastTaken, p.endTaken)

theorem anchor_pos (a : Nat) (s : Station) : ∃ u : Station, u.figs = s.figs ∧
    u.pos = { s.pos with station := a, remainder := 0, reckoned := 0, state := .valid } ∧ (anchor a s).pos = resolved u := by
  unfold anchor
  simp only
  split
  · exact ⟨announceJump { s with pos := { s.pos with station := a, remainder := 0, reckoned := 0, state := .valid } }, rfl, rfl,
      resolveNow_pos _⟩
  · exact ⟨{ s with pos := { s.pos with station := a, remainder := 0, reckoned := 0, state := .valid } }, rfl, rfl,
      resolveNow_pos _⟩

theorem endInForce_anchor (a : Nat) (s : Station) : endInForce (anchor a s).pos = endInForce s.pos := by
  obtain ⟨u, _, pos, e⟩ := anchor_pos a s
  calc endInForce (anchor a s).pos = endInForce u.pos := by rw [e]; rfl
    _ = endInForce s.pos := by rw [pos]; rfl

theorem endInForce_deadReckon (s : Station) : endInForce (deadReckon s).pos = endInForce s.pos := by
  obtain ⟨falls, stays⟩ := deadReckon_pos s
  by_cases valid : s.pos.state = .valid
  · obtain ⟨u, _, pos, e⟩ := falls valid
    calc endInForce (deadReckon s).pos = endInForce u.pos := by rw [e]; rfl
      _ = endInForce s.pos := by rw [pos]; rfl
  · rw [stays valid]

/-- What a change of leading end or sense empties. -/
def Spoiled (s : Station) : Prop :=
  s.cellRec = none ∧ s.sanding.aim = none ∧ s.creep.a.history = [] ∧ s.creep.b.history = []

theorem spoiled_resolveNow {s : Station} (h : Spoiled s) : Spoiled (resolveNow s) := by
  obtain ⟨_, e⟩ := resolveNow_frame s; rw [e]; exact h

theorem spoiled_takeChange (c : EndChange) (s : Station) : Spoiled (takeChange c s) := by
  refine spoiled_resolveNow ?_
  unfold announceChange
  simp only
  split
  · exact ⟨rfl, rfl, rfl, rfl⟩
  · obtain ⟨_, e⟩ := tailNow_frame (axleOf s.pos.leadingEnd) (cancelAim (spoilCell (emptyHistories { s with
      pos := { s.pos with leadingEnd := c.leadingEnd, sense := c.sense, endTaken := true, change := none } })))
    rw [e]
    exact ⟨rfl, rfl, rfl, rfl⟩

theorem spoiled_anchor (a : Nat) {s : Station} (h : Spoiled s) : Spoiled (anchor a s) := by
  obtain ⟨cell, aim, ha, hb⟩ := h
  refine spoiled_resolveNow ?_
  split
  · exact ⟨rfl, rfl, ha, hb⟩
  · exact ⟨cell, aim, ha, hb⟩

theorem spoiled_deadReckon {s : Station} (h : Spoiled s) : Spoiled (deadReckon s) := by
  obtain ⟨_, _, e⟩ := deadReckon_frame s; rw [e]; exact h

theorem settleEnd_named {d : DemandContent} {s : Station} (h : d.leadingEnd = s.pos.leadingEnd ∧ d.sense = s.pos.sense) :
    settleEnd d s = { s with pos := { s.pos with change := none, endTaken := true } } :=
  if_pos ((namesInForce_iff s d).mpr h)

theorem settleEnd_other {d : DemandContent} {s : Station} (h : ¬(d.leadingEnd = s.pos.leadingEnd ∧ d.sense = s.pos.sense)) :
    settleEnd d s = if s.pos.endTaken = false ∨ s.ref.speed.natAbs < 300 then takeChange ⟨d.leadingEnd, d.sense⟩ s
      else { s with pos := { s.pos with change := some ⟨d.leadingEnd, d.sense⟩ } } :=
  if_neg fun named => h ((namesInForce_iff s d).mp named)

theorem odometer_settleEnd (d : DemandContent) (s : Station) : odometer (settleEnd d s).pos = odometer s.pos := by
  unfold settleEnd
  split
  · rfl
  · split
    · obtain ⟨u, _, pos, e⟩ := takeChange_pos ⟨d.leadingEnd, d.sense⟩ s
      rw [e, odometer_resolved, pos]; rfl
    · rfl

/-- A change that is taken leaves the position resolved. -/
theorem takeChange_resolves (c : EndChange) (s : Station) : Resolved s.figs (takeChange c s).pos := by
  obtain ⟨u, figs, _, e⟩ := takeChange_pos c s
  rw [e, ← figs]
  exact resolved_resolves u

theorem anchor_resolves (a : Nat) (s : Station) : Resolved s.figs (anchor a s).pos := by
  obtain ⟨u, figs, _, e⟩ := anchor_pos a s
  rw [e, ← figs]
  exact resolved_resolves u

theorem deadReckon_resolves {s : Station} (h : s.pos.state = .valid) : Resolved s.figs (deadReckon s).pos := by
  obtain ⟨u, figs, _, e⟩ := (deadReckon_pos s).1 h
  rw [e, ← figs]
  exact resolved_resolves u

/-! ## Anchors (R46, R48, R49) -/

/-- The station with a frame taken, its leading end and sense settled. -/
def tookFrame (cab : CabEnd) (d : DemandContent) (s : Station) : Station :=
  settleEnd d { s with pos := { s.pos with lastTaken := some ⟨cab, s.time⟩ } }

theorem positionDemand_competing {cab : CabEnd} {d : DemandContent} {s : Station} (h : competing s cab d = true) :
    positionDemand cab d s = s := if_pos h

theorem positionDemand_taken {cab : CabEnd} {d : DemandContent} {s : Station} (h : competing s cab d = false) :
    positionDemand cab d s = if anchors (tookFrame cab d s) d then anchor (anchorOf (tookFrame cab d s) d).toNat (tookFrame cab d s)
      else deadReckon (tookFrame cab d s) := if_neg (by rw [h]; nofun)

theorem endInForce_positionDemand {cab : CabEnd} {d : DemandContent} {s : Station} (h : competing s cab d = false) :
    endInForce (positionDemand cab d s).pos = endInForce (tookFrame cab d s).pos := by
  rw [positionDemand_taken h]
  split
  · exact endInForce_anchor _ _
  · exact endInForce_deadReckon _

theorem spoiled_positionDemand {cab : CabEnd} {d : DemandContent} {s : Station} (h : competing s cab d = false)
    (spoiled : Spoiled (tookFrame cab d s)) : Spoiled (positionDemand cab d s) := by
  rw [positionDemand_taken h]
  split
  · exact spoiled_anchor _ spoiled
  · exact spoiled_deadReckon spoiled

theorem odometer_tookFrame (cab : CabEnd) (d : DemandContent) (s : Station) :
    odometer (tookFrame cab d s).pos = odometer s.pos := odometer_settleEnd d _

theorem tookFrame_frame (cab : CabEnd) (d : DemandContent) (s : Station) :
    ∃ p k r a e, tookFrame cab d s = { s with pos := p, creep := k, cellRec := r, sanding := a, sanders := e } := by
  obtain ⟨p, k, r, a, e, h⟩ := settleEnd_frame d { s with pos := { s.pos with lastTaken := some ⟨cab, s.time⟩ } }
  exact ⟨p, k, r, a, e, h⟩

theorem tookFrame_named {cab : CabEnd} {d : DemandContent} {s : Station}
    (h : d.leadingEnd = s.pos.leadingEnd ∧ d.sense = s.pos.sense) :
    endInForce (tookFrame cab d s).pos = (s.pos.leadingEnd, s.pos.sense, none, some ⟨cab, s.time⟩, true) := by
  rw [tookFrame, settleEnd_named (by exact h)]; rfl

theorem tookFrame_takes {cab : CabEnd} {d : DemandContent} {s : Station}
    (h : ¬(d.leadingEnd = s.pos.leadingEnd ∧ d.sense = s.pos.sense)) (free : s.pos.endTaken = false ∨ s.ref.speed.natAbs < 300) :
    endInForce (tookFrame cab d s).pos = (d.leadingEnd, d.sense, none, some ⟨cab, s.time⟩, true) ∧
      Spoiled (tookFrame cab d s) ∧ Resolved s.figs (tookFrame cab d s).pos := by
  have takes : tookFrame cab d s = takeChange ⟨d.leadingEnd, d.sense⟩
      { s with pos := { s.pos with lastTaken := some ⟨cab, s.time⟩ } } := (settleEnd_other (by exact h)).trans (if_pos free)
  rw [takes]
  have resolves := takeChange_resolves ⟨d.leadingEnd, d.sense⟩
    { s with pos := { s.pos with lastTaken := some ⟨cab, s.time⟩ } }
  refine ⟨?_, spoiled_takeChange _ _, resolves⟩
  obtain ⟨u, _, pos, e⟩ := takeChange_pos ⟨d.leadingEnd, d.sense⟩
    { s with pos := { s.pos with lastTaken := some ⟨cab, s.time⟩ } }
  rw [e]
  calc endInForce (resolved u) = endInForce u.pos := rfl
    _ = _ := by rw [pos]; rfl

theorem tookFrame_waits {cab : CabEnd} {d : DemandContent} {s : Station}
    (h : ¬(d.leadingEnd = s.pos.leadingEnd ∧ d.sense = s.pos.sense)) (ended : s.pos.endTaken = true)
    (moves : 300 ≤ s.ref.speed.natAbs) : endInForce (tookFrame cab d s).pos =
      (s.pos.leadingEnd, s.pos.sense, some ⟨d.leadingEnd, d.sense⟩, some ⟨cab, s.time⟩, true) := by
  have held : ¬(s.pos.endTaken = false ∨ s.ref.speed.natAbs < 300) := by rw [ended]; simp; omega
  rw [tookFrame, settleEnd_other (by exact h), if_neg held, ← ended]; rfl

theorem tookFrame_taken (cab : CabEnd) (d : DemandContent) (s : Station) :
    (tookFrame cab d s).pos.lastTaken = some ⟨cab, s.time⟩ ∧ (tookFrame cab d s).pos.endTaken = true := by
  have read {l : CabEnd} {e : Sense} {c : Option EndChange}
      (h : endInForce (tookFrame cab d s).pos = (l, e, c, some ⟨cab, s.time⟩, true)) :
      (tookFrame cab d s).pos.lastTaken = some ⟨cab, s.time⟩ ∧ (tookFrame cab d s).pos.endTaken = true :=
    ⟨congrArg (·.2.2.2.1) h, congrArg (·.2.2.2.2) h⟩
  by_cases named : d.leadingEnd = s.pos.leadingEnd ∧ d.sense = s.pos.sense
  · exact read (tookFrame_named named)
  · by_cases free : s.pos.endTaken = false ∨ s.ref.speed.natAbs < 300
    · exact read (tookFrame_takes named free).1
    · rw [not_or, Bool.not_eq_false, not_lt] at free
      exact read (tookFrame_waits named free.1 free.2)

theorem tookFrame_figs (cab : CabEnd) (d : DemandContent) (s : Station) : (tookFrame cab d s).figs = s.figs := by
  obtain ⟨_, _, _, _, _, e⟩ := tookFrame_frame cab d s; rw [e]

/-- A position that the frame left resolved stays resolved. -/
theorem positionDemand_resolves {cab : CabEnd} {d : DemandContent} {s : Station} (h : competing s cab d = false)
    (resolved : Resolved s.figs (tookFrame cab d s).pos) : Resolved s.figs (positionDemand cab d s).pos := by
  have figs := tookFrame_figs cab d s
  rw [positionDemand_taken h]
  rw [← figs] at resolved ⊢
  split
  · exact anchor_resolves _ _
  · by_cases valid : (tookFrame cab d s).pos.state = .valid
    · exact deadReckon_resolves valid
    · rw [(deadReckon_pos _).2 valid]; exact resolved

/-- R46: the anchor reads the plug and the tram length alone. -/
theorem anchorOf_tookFrame (cab : CabEnd) (d : DemandContent) (s : Station) : anchorOf (tookFrame cab d s) d = anchorOf s d := by
  obtain ⟨_, _, _, _, _, e⟩ := tookFrame_frame cab d s
  rw [e]; rfl

theorem anchorOf_eq (s : Station) (d : DemandContent) {off anchor : Int}
    (ho : off = (match d.leadingEnd with
      | .end1 => ((min s.plug.d1 s.figs.tramLength : Nat) : Int)
      | .end2 => (s.figs.tramLength : Int) - (min s.plug.d1 s.figs.tramLength : Nat)))
    (ha : anchor = (match d.sense with | .up => (d.chainage : Int) * 100 - off | .down => (d.chainage : Int) * 100 + off)) :
    anchorOf s d = anchor := by
  have offset : endOffset s d.leadingEnd = off := by rw [ho]; cases d.leadingEnd <;> rfl
  unfold anchorOf
  cases hs : d.sense <;> simp only [hs, ha, offset]

theorem anchors_iff (s : Station) (d : DemandContent) : anchors s d = true ↔ d.chainageValid = true ∧ 0 ≤ anchorOf s d ∧
    anchorOf s d ≤ 100000000 ∧ d.leadingEnd = s.pos.leadingEnd ∧ d.sense = s.pos.sense := by
  unfold anchors
  rw [Bool.and_eq_true, Bool.and_eq_true, Bool.and_eq_true, decide_eq_true_eq, decide_eq_true_eq, namesInForce_iff, and_assoc,
    and_assoc]

/-- R49: an anchor that jumps removes pre-limits, cell record and aim. -/
theorem anchor_jumps {a : Nat} {s : Station} (h : s.pos.state = .lost ∨ 2000 < ((a : Int) - s.pos.station).natAbs) :
    (anchor a s).creep.a.preLimit = none ∧ (anchor a s).creep.b.preLimit = none ∧ (anchor a s).cellRec = none ∧
      (anchor a s).sanding.aim = none := by
  have jump : jumps s a = true := by simpa [jumps] using h
  unfold anchor
  simp only [jump, if_true]
  obtain ⟨_, e⟩ := resolveNow_frame (announceJump
    { s with pos := { s.pos with station := a, remainder := 0, reckoned := 0, state := .valid } })
  rw [e]
  exact ⟨rfl, rfl, rfl, rfl⟩

/-! ## Acceptance (R105, R155, R160 to R162) -/

theorem demandArrival_accepted {f : Frame} {cab : CabEnd} {d : DemandContent} {s : Station} (hf : checkDemand f = some (cab, d))
    (fresh : repeatsDemand s cab f.sequence = false) : demandArrival f s = acceptDemand cab d f.sequence s := by
  simp [demandArrival, hf, fresh]

/-- R105: the station with the request settled, before the evaluation. -/
def settledDemand (cab : CabEnd) (d : DemandContent) (q : BitVec 8) (s : Station) : Station :=
  settleGoverning cab (recordDemand cab d q s)

/-- R106: the station as the blend unit leaves it to the position unit. -/
def evaluatedDemand (cab : CabEnd) (d : DemandContent) (q : BitVec 8) (s : Station) : Station :=
  evaluate true (settledDemand cab d q s)

theorem acceptDemand_eq (cab : CabEnd) (d : DemandContent) (q : BitVec 8) (s : Station) :
    acceptDemand cab d q s = demandWake (positionDemand cab d (evaluatedDemand cab d q s)) := rfl

theorem settledDemand_frame (cab : CabEnd) (d : DemandContent) (q : BitVec 8) (s : Station) :
    ∃ g k f, settledDemand cab d q s = { recordDemand cab d q s with
      blend := { s.blend with governing := g, conflict := k }, faults := f } := by
  unfold settledDemand settleGoverning
  split
  · simp only
    split <;> exact ⟨_, _, _, rfl⟩
  all_goals exact ⟨_, _, _, rfl⟩

theorem evaluatedDemand_frame (cab : CabEnd) (d : DemandContent) (q : BitVec 8) (s : Station) :
    evaluatedDemand cab d q s = { recordDemand cab d q s with
      blend := (evaluatedDemand cab d q s).blend, faults := (settledDemand cab d q s).faults
      makeUp := { s.makeUp with takes := (evaluatedDemand cab d q s).makeUp.takes }
      hold := (evaluatedDemand cab d q s).hold
      sanding := { s.sanding with hillExpiry := (evaluatedDemand cab d q s).sanding.hillExpiry } } := by
  have fields := evaluate_frame_fields true (settledDemand cab d q s)
  obtain ⟨g, k, f, settled⟩ := settledDemand_frame cab d q s
  unfold evaluatedDemand
  generalize evaluate true (settledDemand cab d q s) = u at fields ⊢
  rw [fields, settled]
  rfl

/-- R161: what the position unit reads at a DEMAND arrival stands as it stood. -/
theorem evaluatedDemand_unread (cab : CabEnd) (d : DemandContent) (q : BitVec 8) (s : Station) :
    (evaluatedDemand cab d q s).pos = s.pos ∧ (evaluatedDemand cab d q s).plug = s.plug ∧
      (evaluatedDemand cab d q s).figs = s.figs ∧ (evaluatedDemand cab d q s).time = s.time ∧
      (evaluatedDemand cab d q s).ref = s.ref := by
  rw [evaluatedDemand_frame]; exact ⟨rfl, rfl, rfl, rfl, rfl⟩

theorem demandWake_cases (s : Station) : demandWake s = s ∨ demandWake s = wake s := by
  unfold demandWake
  split
  · split
    · exact .inl rfl
    · exact .inr rfl
  · exact .inl rfl

/-- R155: what a DEMAND's wake writes. -/
theorem demandWake_frame_port {s : Station} (h : running s = true) : demandWake s = { s with
    life := (demandWake s).life
    port := { s.port with seqStatus := (demandWake s).port.seqStatus, statusSlot := (demandWake s).port.statusSlot
                          lastStatus := (demandWake s).port.lastStatus } } := by
  rcases demandWake_cases s with e | e
  · rw [e]
  · have frame := wake_frame_port h
    rw [e]
    generalize wake s = u at frame
    rw [frame]

theorem running_evaluatedDemand {cab : CabEnd} {d : DemandContent} {q : BitVec 8} {s : Station} (h : running s = true) :
    running (positionDemand cab d (evaluatedDemand cab d q s)) = true := by
  obtain ⟨_, _, _, _, _, e⟩ := positionDemand_frame cab d (evaluatedDemand cab d q s)
  rw [e, evaluatedDemand_frame]
  exact h

/-- R155: the life state and the governing request after a DEMAND's wake. -/
theorem demandWake_life {s : Station} {g : Governing} (h : running s = true) (hg : s.blend.governing = some g)
    (parked : s.life = .parked) : (demandWake s).life = if g.mode = .park then .parked else .run := by
  unfold demandWake
  rw [hg]
  simp only
  split
  · exact parked
  · rw [(wake_eq h).1 parked]; rfl

theorem demandWake_run {s : Station} (h : s.life = .run) : (demandWake s).life = .run := by
  rcases demandWake_cases s with e | e
  · rw [e, h]
  · rw [e]; simp [wake, announced, rouse, h]

/-! ## The governing request (R105) -/

theorem currentDemand_recorded (cab : CabEnd) (d : DemandContent) (q : BitVec 8) (s : Station) :
    currentDemand (recordDemand cab d q s) cab = some ⟨d, s.time, q⟩ := by
  have young : age s.time s.time < 100 := by rw [age_self]; omega
  simp only [currentDemand, recordDemand, pick_put, if_true, young]

theorem currentDemand_other (cab : CabEnd) (d : DemandContent) (q : BitVec 8) (s : Station) :
    currentDemand (recordDemand cab d q s) (otherEnd cab) = currentDemand s (otherEnd cab) := by
  unfold currentDemand recordDemand
  cases cab <;> rfl

theorem currentDemand_iff (s : Station) (cab : CabEnd) (r : DemandRec) : currentDemand s cab = some r ↔
    pick s.port.demands (axleOf cab) = some r ∧ age s.time r.arrived < 100 := by
  unfold currentDemand
  split
  · rename_i o ho
    rw [ho]
    split
    · rename_i young
      constructor
      · intro h; obtain rfl := Option.some.inj h; exact ⟨rfl, young⟩
      · rintro ⟨h, -⟩; exact h
    · rename_i old
      constructor
      · nofun
      · rintro ⟨h, young⟩; obtain rfl := Option.some.inj h; exact absurd young old
  · rename_i none'
    rw [none']
    constructor
    · nofun
    · rintro ⟨h, -⟩; exact h

theorem settledDemand_alone {cab : CabEnd} {d : DemandContent} {q : BitVec 8} {s : Station}
    (h : currentDemand s (otherEnd cab) = none) : settledDemand cab d q s = { recordDemand cab d q s with
      blend := { s.blend with governing := some (requestOf cab ⟨d, s.time, q⟩), conflict := false } } := by
  simp only [settledDemand, settleGoverning, currentDemand_recorded, currentDemand_other, h]
  rfl

theorem settledDemand_both {cab : CabEnd} {d : DemandContent} {q : BitVec 8} {s : Station} {o : DemandRec}
    (h : currentDemand s (otherEnd cab) = some o) : settledDemand cab d q s = { recordDemand cab d q s with
      blend := { s.blend with
        governing := some (governs (requestOf cab ⟨d, s.time, q⟩) (requestOf (otherEnd cab) o)), conflict := true }
      faults := if s.blend.conflict then s.faults
        else recordFault s.faults s.time s.pos.attrLeading.mapCell .demandConflict none none } := by
  simp only [settledDemand, settleGoverning, currentDemand_recorded, currentDemand_other, h]
  cases hc : s.blend.conflict <;> simp [recordDemand, hc, report]

theorem settledDemand_governed (cab : CabEnd) (d : DemandContent) (q : BitVec 8) (s : Station) :
    ∃ g, (settledDemand cab d q s).blend.governing = some g := by
  cases h : currentDemand s (otherEnd cab) with
  | none => rw [settledDemand_alone h]; exact ⟨_, rfl⟩
  | some o => rw [settledDemand_both h]; exact ⟨_, rfl⟩

theorem lossMode_effOf (m : DemandMode) : lossMode (effOf m) = false := by cases m <;> rfl

theorem effOf_eq_drive {m : DemandMode} : effOf m = .drive ↔ m = .drive := by cases m <;> simp [effOf]

/-- R109: re-arm after a DEMAND arrival whose request gives the mode. -/
theorem nextRearm_request {b : Blend} {g : Governing} (h : b.governing = some g) :
    (effOf g.mode = .drive → nextRearm true b (effOf g.mode) = b.rearm) ∧
    (effOf g.mode ≠ .drive → nextRearm true b (effOf g.mode) = false) := by
  refine ⟨fun drive => nextRearm_kept (lossMode_effOf _) (.inr ((governingDrive_iff b).mpr ⟨g, h, effOf_eq_drive.mp drive⟩)),
    fun other => nextRearm_cleared (lossMode_effOf _) ?_⟩
  rw [Bool.eq_false_iff, ne_eq, governingDrive_iff, h]
  rintro ⟨g', hg, drive⟩
  obtain rfl := Option.some.inj hg
  exact other (effOf_eq_drive.mpr drive)

theorem governs_new {new old : Governing} (h : new.accel < old.accel ∨ (new.accel = old.accel ∧
    modeRank new.mode ≤ modeRank old.mode)) : governs new old = new := by
  unfold governs
  rcases h with h | ⟨h, hr⟩
  · rw [if_neg (by omega), if_pos h]
  · rw [if_neg (by omega), if_neg (by omega), if_neg (by omega)]

theorem governs_old {new old : Governing} (h : old.accel < new.accel ∨ (new.accel = old.accel ∧
    modeRank old.mode < modeRank new.mode)) : governs new old = old := by
  unfold governs
  rcases h with h | ⟨h, hr⟩
  · rw [if_pos h]
  · rw [if_neg (by omega), if_neg (by omega), if_pos hr]

/-- R106, R107, R109: the mode and re-arm that a DEMAND leaves. -/
theorem evaluatedDemand_mode (cab : CabEnd) (d : DemandContent) (q : BitVec 8) (s : Station) :
    (s.link.loop.delivered = some .loopOpen → (evaluatedDemand cab d q s).blend.effMode = .emergency) ∧
    (s.link.loop.delivered ≠ some .loopOpen → s.blend.effMode ≠ .emergency →
      (evaluatedDemand cab d q s).blend.effMode = requestedMode (evaluatedDemand cab d q s).blend ∧
      ((evaluatedDemand cab d q s).blend.effMode = .drive → (evaluatedDemand cab d q s).blend.rearm = s.blend.rearm) ∧
      ((evaluatedDemand cab d q s).blend.effMode ≠ .drive → (evaluatedDemand cab d q s).blend.rearm = false)) := by
  have eff : (evaluatedDemand cab d q s).blend.effMode = nextEffMode (settledDemand cab d q s) := evaluate_effMode true _
  have rearm : (evaluatedDemand cab d q s).blend.rearm = nextRearm true (settledDemand cab d q s).blend
    (evaluatedDemand cab d q s).blend.effMode := evaluate_rearm true _
  have governing : (evaluatedDemand cab d q s).blend.governing = (settledDemand cab d q s).blend.governing :=
    evaluate_governing true _
  obtain ⟨g, hg⟩ := settledDemand_governed cab d q s
  obtain ⟨_, _, _, settled⟩ := settledDemand_frame cab d q s
  have loop : loopIsOpen (settledDemand cab d q s) = loopIsOpen s := by rw [settled]; rfl
  have latch : (settledDemand cab d q s).blend.effMode = s.blend.effMode := by rw [settled]
  have former : (settledDemand cab d q s).blend.rearm = s.blend.rearm := by rw [settled]
  rw [rearm, requestedMode_congr governing, eff]
  refine ⟨fun isOpen => nextEffMode_emergency (.inl (loop.trans ((loopIsOpen_iff s).mpr isOpen))), fun closed unlatched => ?_⟩
  have shut : loopIsOpen (settledDemand cab d q s) = false := by
    rw [loop, Bool.eq_false_iff, ne_eq, loopIsOpen_iff]; exact closed
  rw [nextEffMode_requested shut (.inl (by rw [latch]; exact unlatched)), requestedMode_some hg, ← former]
  exact ⟨rfl, nextRearm_request hg⟩

end Sys2Proof.Machine

open Sys2Proof Sys2Proof.Machine

/-- Settles O17: the position unit finds the position as it stood, takes the frame, and anchors or falls to DEAD_RECKONING;
neither moves what the frame settled. -/
theorem demandAnchors : Obligations.DemandAnchors := by
  intro f cab d off anchor' q z hz hf fresh hoff hanchor
  obtain ⟨pos, plug, figs, time, ref⟩ := evaluatedDemand_unread cab d f.sequence z
  refine ⟨Machine.demandArrival f z, actRunning_running (Machine.demandArrival f) ⟨q, z⟩ hz, ?_⟩
  rw [demandArrival_accepted hf fresh, acceptDemand_eq, demandWake_frame_port (running_evaluatedDemand hz)]
  generalize evaluatedDemand cab d f.sequence z = s at pos plug figs time ref
  have value : anchorOf s d = anchor' := anchorOf_eq s d (by rw [plug, figs]; exact hoff) hanchor
  rw [← pos, ← figs, ← time, ← ref]
  have free (h : ∀ l, s.pos.lastTaken = some l → l.cab = cab ∨ 100 ≤ age s.time l.time ∨
      (d.leadingEnd = s.pos.leadingEnd ∧ d.sense = s.pos.sense)) : competing s cab d = false := by
    rw [Bool.eq_false_iff, ne_eq, competing_iff]
    rintro ⟨l, hl, other, young, names⟩
    rcases h l hl with h | h | h
    · exact other h
    · exact not_lt.mpr h young
    · exact names h
  refine ⟨fun h => by rw [positionDemand_competing ((competing_iff s cab d).mpr h)], fun h => ?_⟩
  have taken := free h
  dsimp only
  have ends := endInForce_positionDemand taken
  obtain ⟨lastTaken, endTaken⟩ := tookFrame_taken cab d s
  have odo := odometer_tookFrame cab d s
  have offers := anchorOf_tookFrame cab d s
  rw [value] at offers
  have inForce {l : CabEnd} {e : Sense} {c : Option EndChange} {k : Option LastTaken} {b : Bool}
      (h : endInForce (tookFrame cab d s).pos = (l, e, c, k, b)) : (positionDemand cab d s).pos.leadingEnd = l ∧
      (positionDemand cab d s).pos.sense = e ∧ (positionDemand cab d s).pos.change = c := by
    rw [← ends] at h
    exact ⟨congrArg (·.1) h, congrArg (·.2.1) h, congrArg (·.2.2.1) h⟩
  have leads : (positionDemand cab d s).pos.leadingEnd = (tookFrame cab d s).pos.leadingEnd := congrArg (·.1) ends
  have senses : (positionDemand cab d s).pos.sense = (tookFrame cab d s).pos.sense := congrArg (·.2.1) ends
  have state : (tookFrame cab d s).pos.state = s.pos.state := congrArg (·.2.2.2) odo
  have station : (tookFrame cab d s).pos.station = s.pos.station := congrArg (·.1) odo
  refine ⟨(congrArg (·.2.2.2.1) ends :).trans lastTaken, (congrArg (·.2.2.2.2) ends :).trans endTaken,
    fun named => inForce (tookFrame_named named), fun other moves => ?_, fun other ended moves =>
    inForce (tookFrame_waits other ended moves), fun valid low high lead sense => ?_, fun none' => ?_⟩
  · obtain ⟨settled, spoiled, resolved⟩ := tookFrame_takes (cab := cab) other moves
    obtain ⟨lead, sense, change⟩ := inForce settled
    obtain ⟨cell, aim, ha, hb⟩ := spoiled_positionDemand taken spoiled
    exact ⟨lead, sense, change, cell, aim, ha, hb, positionDemand_resolves taken resolved⟩
  · have anchored : anchors (tookFrame cab d s) d = true :=
      (anchors_iff _ _).mpr ⟨valid, by rw [offers]; exact low, by rw [offers]; exact high, lead.trans leads, sense.trans senses⟩
    rw [positionDemand_taken taken, if_pos anchored, offers]
    obtain ⟨u, _, upos, e⟩ := anchor_pos anchor'.toNat (tookFrame cab d s)
    have odometer' : odometer (anchor anchor'.toNat (tookFrame cab d s)).pos = (anchor'.toNat, 0, 0, .valid) := by
      rw [e, odometer_resolved, upos]; rfl
    have resolves := anchor_resolves anchor'.toNat (tookFrame cab d s)
    rw [tookFrame_figs] at resolves
    have stands : (anchor anchor'.toNat (tookFrame cab d s)).pos.station = anchor'.toNat := congrArg (·.1) odometer'
    have at' : ((anchor anchor'.toNat (tookFrame cab d s)).pos.station : Int) = anchor' := by
      rw [stands]; exact Int.toNat_of_nonneg low
    refine ⟨at', (congrArg (·.2.1) odometer' :), (congrArg (·.2.2.1) odometer' :), (congrArg (·.2.2.2) odometer' :), resolves,
      fun jump => anchor_jumps ?_⟩
    rw [state, station, Int.toNat_of_nonneg low]
    exact jump
  · have stays : anchors (tookFrame cab d s) d = false := by
      rw [Bool.eq_false_iff, ne_eq, anchors_iff, offers, ← leads, ← senses]
      rintro ⟨valid, low, high, lead, sense⟩
      rcases none' with h | h | h | h | h
      · rw [h] at valid; cases valid
      · omega
      · omega
      · exact h lead
      · exact h sense
    rw [positionDemand_taken taken, if_neg (by rw [stays]; nofun)]
    have figs := tookFrame_figs cab d s
    by_cases valid : (tookFrame cab d s).pos.state = .valid
    · obtain ⟨u, _, upos, e⟩ := (deadReckon_pos (tookFrame cab d s)).1 valid
      have odometer' : odometer (deadReckon (tookFrame cab d s)).pos =
          (s.pos.station, s.pos.remainder, s.pos.reckoned, .deadReckoning) := by
        rw [e, odometer_resolved, upos]
        exact congrArg (fun o : Nat × Int × Nat × PosState => (o.1, o.2.1, o.2.2.1, PosState.deadReckoning)) odo
      rw [state] at valid
      rw [valid, if_pos rfl]
      refine ⟨(congrArg (·.1) odometer' :), (congrArg (·.2.1) odometer' :), (congrArg (·.2.2.1) odometer' :),
        (congrArg (·.2.2.2) odometer' :), fun _ => ?_⟩
      rw [← figs]
      exact deadReckon_resolves (state.trans valid)
    · rw [(deadReckon_pos _).2 valid, ← state, if_neg valid]
      exact ⟨station, (congrArg (·.2.1) odo :), (congrArg (·.2.2.1) odo :), rfl, fun h => absurd h valid⟩

/-- Settles O42: the request settled before the evaluation governs it, and what follows the evaluation writes neither the modes nor
the fault table. -/
theorem demandAccepted : Obligations.DemandAccepted := by
  intro f cab d new old rank both q z hz hf fresh hnew hboth hold hrank
  have frame := evaluatedDemand_frame cab d f.sequence z
  have governing : (evaluatedDemand cab d f.sequence z).blend.governing = (settledDemand cab d f.sequence z).blend.governing :=
    evaluate_governing true _
  have conflict : (evaluatedDemand cab d f.sequence z).blend.conflict = (settledDemand cab d f.sequence z).blend.conflict :=
    evaluate_conflict true _
  obtain ⟨opens, requests⟩ := evaluatedDemand_mode cab d f.sequence z
  obtain ⟨_, _, _, _, _, posed⟩ := positionDemand_frame cab d (evaluatedDemand cab d f.sequence z)
  have run := running_evaluatedDemand (cab := cab) (d := d) (q := f.sequence) hz
  have woken := demandWake_frame_port run
  refine ⟨Machine.demandArrival f z, actRunning_running (Machine.demandArrival f) ⟨q, z⟩ hz, ?_⟩
  rw [demandArrival_accepted hf fresh, acceptDemand_eq]
  have life : (positionDemand cab d (evaluatedDemand cab d f.sequence z)).life = z.life := by rw [posed, frame]; rfl
  have hblend : (demandWake (positionDemand cab d (evaluatedDemand cab d f.sequence z))).blend =
      (evaluatedDemand cab d f.sequence z).blend := by rw [woken, posed]
  have hgov : (positionDemand cab d (evaluatedDemand cab d f.sequence z)).blend.governing =
      (evaluatedDemand cab d f.sequence z).blend.governing := by rw [posed]
  have hfaults : (demandWake (positionDemand cab d (evaluatedDemand cab d f.sequence z))).faults =
      (settledDemand cab d f.sequence z).faults := by rw [woken, posed, frame]
  have hport : (demandWake (positionDemand cab d (evaluatedDemand cab d f.sequence z))).port.demands =
      put z.port.demands (axleOf cab) (some ⟨d, z.time, f.sequence⟩) := by rw [woken, posed, frame]; rfl
  have hquiet : (demandWake (positionDemand cab d (evaluatedDemand cab d f.sequence z))).port.announced = false ∧
      (demandWake (positionDemand cab d (evaluatedDemand cab d f.sequence z))).port.heardAt = z.time := by
    rw [woken, posed, frame]; exact ⟨rfl, rfl⟩
  have requested : requestOf cab ⟨d, z.time, f.sequence⟩ = new := by rw [hnew]; rfl
  refine ⟨hport, hquiet.1, hquiet.2, fun one => ?_, fun two => ?_, ?_, ?_, fun g hg parked => ?_, fun h => ?_, ?_⟩
  · rw [hblend, governing, conflict, hfaults]
    have none' : currentDemand z (otherEnd cab) = none := by
      cases h : currentDemand z (otherEnd cab) with
      | none => rfl
      | some o => exact absurd (hboth.mpr ⟨o, (currentDemand_iff z _ o).mp h⟩) one
    rw [settledDemand_alone none', requested]
    exact ⟨rfl, rfl, rfl⟩
  · rw [hblend, governing, conflict, hfaults]
    obtain ⟨o, kept, young⟩ := hboth.mp two
    have other : requestOf (otherEnd cab) o = old := by rw [hold o kept]; rfl
    rw [settledDemand_both ((currentDemand_iff z _ o).mpr ⟨kept, young⟩), requested, other]
    have ranks : rank = modeRank := by rw [hrank]; funext m; cases m <;> rfl
    rw [ranks]
    exact ⟨rfl, rfl, fun h => congrArg some (governs_new (.inl h)), fun h => congrArg some (governs_old (.inl h)),
      fun h hr => congrArg some (governs_new (.inr ⟨h, hr⟩)), fun h hr => congrArg some (governs_old (.inr ⟨h, hr⟩))⟩
  · rw [hblend]; exact opens
  · rw [hblend]; exact requests
  · rw [hblend] at hg
    exact demandWake_life run (hgov.trans hg) (life.trans parked)
  · exact demandWake_run (life.trans h)
  · generalize demandWake (positionDemand cab d (evaluatedDemand cab d f.sequence z)) = w at woken hfaults
    generalize positionDemand cab d (evaluatedDemand cab d f.sequence z) = p at posed woken
    generalize evaluatedDemand cab d f.sequence z = e at frame posed
    rw [woken, posed, frame]
    rfl

end

section
/-! SUPPORT. Sensor failure as a row of its own (R17, R41, R44), the reference (R6 to R13) and the trim (R14, R15). -/

namespace Sys2Proof.Machine

/-! ## Sensor failure (R17, R41, R44) -/

theorem outsideBraking_iff (s : Station) : outsideBraking s = true ↔
    (s.blend.served = .drive ∨ s.blend.served = .coast ∨ s.blend.served = .hold) ∧ s.hold.state ≠ .rollback := by
  simp [outsideBraking, or_assoc]

theorem sensorSilent_iff (s : Station) (x : Axle) : sensorSilent s x = true ↔
    (pick s.axles x).sensor = .ok ∧ 1000 ≤ age s.time (pick s.axles x).quietSince ∧
      (pick s.axles (otherAxle x)).sensor = .ok ∧ 2000 < (pick s.axles (otherAxle x)).speed.natAbs ∧
      (s.blend.served = .drive ∨ s.blend.served = .coast ∨ s.blend.served = .hold) ∧ s.hold.state ≠ .rollback := by
  rw [← outsideBraking_iff]
  unfold sensorSilent
  simp only [Bool.and_eq_true, decide_eq_true_eq, beq_iff_eq, and_assoc]

theorem releaseReached_iff (c : AxleCreep) : releaseReached c = true ↔
    c.state = .locked ∧ c.wheelLock = true ∧ ∃ n, c.release = some n ∧ 1000 ≤ n := by
  unfold releaseReached
  rw [Bool.and_eq_true, Bool.and_eq_true, beq_iff_eq, reached_iff, and_assoc]

/-- R17, R44: what a declared failure leaves, before the axle follows its partner. -/
theorem failSensor_eq (x : Axle) (s : Station) : failSensor x s = { s with
    axles := put s.axles x { pick s.axles x with sensor := .failed, candidate := false }
    creep := put s.creep x (clearMachine (pick s.creep x))
    faults := recordFault s.faults s.time s.pos.attrLeading.mapCell .speedSensor (some x) none } := rfl

/-- R41: with the partner's sensor OK a failed axle takes its state and limit, and nothing else moves. -/
theorem followPartners_one {x : Axle} {s : Station} (failed : (pick s.axles x).sensor = .failed)
    (ok : (pick s.axles (otherAxle x)).sensor = .ok) : followPartners s = setCreep s x { pick s.creep x with
      state := (pick s.creep (otherAxle x)).state, limit := (pick s.creep (otherAxle x)).limit } := by
  cases x <;> simp_all [followPartners, followPartner, bothFailed, otherAxle, pick, setCreep, put]

theorem followPartners_two {s : Station} (a : s.axles.a.sensor = .failed) (b : s.axles.b.sensor = .failed) :
    followPartners s = { s with creep :=
      ⟨{ s.creep.a with state := .adhering, limit := uncertainForce s.figs },
       { s.creep.b with state := .adhering, limit := uncertainForce s.figs }⟩ } := by
  simp [followPartners, followPartner, bothFailed, otherAxle, pick, a, b]

theorem silenceRow_due {x : Axle} {s : Station} (h : sensorSilent s x = true) : silenceRow x s = failAndFollow x s := if_pos h

theorem silenceRow_early {x : Axle} {s : Station} (h : sensorSilent s x = false) : silenceRow x s = s := if_neg (by simp [h])

theorem releaseRow_due {x : Axle} {s : Station} (h : releaseReached (pick s.creep x) = true) :
    releaseRow x s = failAndFollow x s := if_pos h

theorem releaseRow_early {x : Axle} {s : Station} (h : releaseReached (pick s.creep x) = false) : releaseRow x s = s :=
  if_neg (by simp [h])

/-- R41: the axle that fails follows the partner whose sensor is OK. -/
theorem failAndFollow_one {x : Axle} {s : Station} (ok : (pick s.axles (otherAxle x)).sensor = .ok) :
    failAndFollow x s = { s with
      axles := put s.axles x { pick s.axles x with sensor := .failed, candidate := false }
      creep := put s.creep x { clearMachine (pick s.creep x) with
        state := (pick s.creep (otherAxle x)).state, limit := (pick s.creep (otherAxle x)).limit }
      faults := recordFault s.faults s.time s.pos.attrLeading.mapCell .speedSensor (some x) none } := by
  have failed : (pick (failSensor x s).axles x).sensor = .failed := by rw [failSensor_eq]; simp
  have partner : (pick (failSensor x s).axles (otherAxle x)).sensor = .ok := by
    rw [failSensor_eq]
    cases x <;> exact ok
  rw [failAndFollow, followPartners_one failed partner, failSensor_eq]
  cases x <;> rfl

/-- R41: the second axle that fails leaves both at 300‰ of the axle maximum. -/
theorem failAndFollow_two {x : Axle} {s : Station} (other : (pick s.axles (otherAxle x)).sensor = .failed) :
    failAndFollow x s = { failSensor x s with creep :=
      ⟨{ (failSensor x s).creep.a with state := .adhering, limit := uncertainForce s.figs },
       { (failSensor x s).creep.b with state := .adhering, limit := uncertainForce s.figs }⟩ } := by
  have both : (failSensor x s).axles.a.sensor = .failed ∧ (failSensor x s).axles.b.sensor = .failed := by
    rw [failSensor_eq]
    cases x
    · exact ⟨rfl, other⟩
    · exact ⟨other, rfl⟩
  exact followPartners_two both.1 both.2

/-! ## Steps 1 to 3 of a sample (R4, R5, R17) -/

/-- R5: the station with the speeds of the sample, before step 3 declares an axle failed. -/
def sped (s : Station) : Station := axleSample .b (axleSample .a (negateReference { s with lastSample := s.time }))

theorem measured_eq (s : Station) : measured s = sensorSilence .b (sensorSilence .a (sped s)) := rfl

theorem sped_frame (s : Station) : ∃ r a, sped s = { s with lastSample := s.time, ref := r, axles := a } := by
  obtain ⟨r, e⟩ := negateReference_frame { s with lastSample := s.time }
  exact ⟨r, _, by rw [sped, e]; rfl⟩

theorem sped_axles (s : Station) (x : Axle) : pick (sped s).axles x = sampledAxle s x := by
  obtain ⟨r, e⟩ := negateReference_frame { s with lastSample := s.time }
  rw [sped, e]
  cases x <;> rfl

theorem sped_ref (s : Station) : (sped s).ref = (negateReference s).ref := by
  unfold sped negateReference axleSample setAxle
  simp only
  split <;> rfl

theorem negateReference_same {s : Station} (h : s.ref.heldFor = s.pos.leadingEnd) : (negateReference s).ref = s.ref := by
  rw [negateReference, if_pos h]

theorem negateReference_turned {s : Station} (h : s.ref.heldFor ≠ s.pos.leadingEnd) : (negateReference s).ref =
    { s.ref with speed := -s.ref.speed, lastChange := -s.ref.lastChange, heldFor := s.pos.leadingEnd } := by
  rw [negateReference, if_neg h]

theorem sensorSilence_due {x : Axle} {s : Station} (h : sensorSilent s x = true) : sensorSilence x s = failSensor x s := if_pos h

theorem sensorSilence_early {x : Axle} {s : Station} (h : sensorSilent s x = false) : sensorSilence x s = s :=
  if_neg (by simp [h])

/-- R17: axle A comes first, and an axle beside a failed one is not declared. -/
theorem sensorSilent_failed (s : Station) : sensorSilent (failSensor .a s) .b = false := by
  rw [Bool.eq_false_iff, ne_eq, sensorSilent_iff]
  rintro ⟨-, -, partner, -⟩
  cases partner

/-- R17: what step 3 does: axle A fails, or else axle B fails, or else neither does. -/
theorem measured_cases (s : Station) :
    (sensorSilent (sped s) .a = true ∧ measured s = failSensor .a (sped s)) ∨
    (sensorSilent (sped s) .a = false ∧ sensorSilent (sped s) .b = true ∧ measured s = failSensor .b (sped s)) ∨
    (sensorSilent (sped s) .a = false ∧ sensorSilent (sped s) .b = false ∧ measured s = sped s) := by
  rw [measured_eq]
  cases a : sensorSilent (sped s) .a with
  | true =>
    left
    rw [sensorSilence_due a, sensorSilence_early (sensorSilent_failed _)]
    exact ⟨rfl, rfl⟩
  | false =>
    right
    rw [sensorSilence_early a]
    cases b : sensorSilent (sped s) .b with
    | true => left; rw [sensorSilence_due b]; exact ⟨rfl, rfl, rfl⟩
    | false => right; rw [sensorSilence_early b]; exact ⟨rfl, rfl, rfl⟩

/-- What step 3 leaves of a station whatever it declares. -/
theorem measured_unread (s : Station) : (measured s).ref = (negateReference s).ref ∧
    (∀ x, (pick (measured s).axles x) = { sampledAxle s x with
      sensor := (pick (measured s).axles x).sensor, candidate := (pick (measured s).axles x).candidate }) ∧
    (∀ x, (pick (measured s).creep x).state = (pick s.creep x).state) := by
  have ref := sped_ref s
  have axles := sped_axles s
  obtain ⟨_, _, e⟩ := sped_frame s
  have creep : (sped s).creep = s.creep := by rw [e]
  have fails (y : Axle) : (failSensor y (sped s)).ref = (negateReference s).ref ∧
      (∀ x, (pick (failSensor y (sped s)).axles x) = { sampledAxle s x with
        sensor := (pick (failSensor y (sped s)).axles x).sensor
        candidate := (pick (failSensor y (sped s)).axles x).candidate }) ∧
      (∀ x, (pick (failSensor y (sped s)).creep x).state = (pick s.creep x).state) := by
    rw [failSensor_eq, ← creep]
    refine ⟨ref, fun x => ?_, fun x => by cases x <;> cases y <;> rfl⟩
    rw [← axles x]
    cases x <;> cases y <;> rfl
  rcases measured_cases s with ⟨-, h⟩ | ⟨-, -, h⟩ | ⟨-, -, h⟩
  · rw [h]; exact fails .a
  · rw [h]; exact fails .b
  · rw [h, creep]
    exact ⟨ref, fun x => by rw [axles x], fun _ => rfl⟩

/-! ## The reference (R9 to R13) -/

theorem budgetSpent_due {s : Station} (status : s.ref.status = .extrapolating) (spent : 400 ≤ s.ref.extrapTime) :
    budgetSpent s = { s with
      ref := { s.ref with status := .uncertain, lastChange := 0, capApplied := true }
      faults := recordFault s.faults s.time s.pos.attrLeading.mapCell .referenceUncertain none none } :=
  if_pos ⟨status, spent⟩

theorem budgetSpent_early {s : Station} (h : s.ref.status ≠ .extrapolating ∨ s.ref.extrapTime < 400) : budgetSpent s = s :=
  if_neg fun ⟨status, spent⟩ => h.elim (fun h => h status) fun h => not_le.mpr h spent

/-! ## Trim learning (R14, R15) -/

theorem trimExpiry_due {x : Axle} {s : Station} {d : Deviation} (sense : (pick s.axles x).learnSense = some d)
    (time : 2000 ≤ (pick s.axles x).learnTime) : trimExpiry x s =
      setAxle s x { pick s.axles x with trim := stepTrim d (pick s.axles x).trim, learnTime := 0 } := by
  unfold trimExpiry
  simp only [sense]
  exact if_pos time

theorem trimExpiry_early {x : Axle} {s : Station} (h : (pick s.axles x).learnSense = none ∨ (pick s.axles x).learnTime < 2000) :
    trimExpiry x s = s := by
  unfold trimExpiry
  simp only
  split
  · rename_i d sense
    refine if_neg fun time => ?_
    rcases h with h | h
    · rw [h] at sense; cases sense
    · exact not_le.mpr h time
  · rfl

/-- R14, R15: an axle unit after step 5 of a sample that finds it deviating in a sense. -/
def trained (d : Option Deviation) (a : AxleUnit) : AxleUnit :=
  match d with
  | none => { a with learnTime := 0, learnSense := none }
  | some v =>
    if a.learnSense = some v then
      if 2000 ≤ a.learnTime + 5 then { a with trim := stepTrim v a.trim, learnTime := 0 } else { a with learnTime := a.learnTime + 5 }
    else { a with learnTime := 0, learnSense := some v }

theorem learnSample_own (x : Axle) (s : Station) :
    pick (learnSample x s).axles x = trained (learningSense s x) (pick s.axles x) := by
  unfold learnSample trained advanceLearning
  cases learningSense s x with
  | none => rw [trimExpiry_early (.inl (by simp [setAxle]))]; simp [setAxle]
  | some v =>
    simp only
    by_cases same : (pick s.axles x).learnSense = some v
    · rw [if_pos same, if_pos same]
      by_cases spent : 2000 ≤ (pick s.axles x).learnTime + 5
      · rw [if_pos spent, trimExpiry_due (d := v) (by simp [setAxle, same]) (by simpa [setAxle] using spent)]
        simp [setAxle]
      · rw [if_neg spent, trimExpiry_early (.inr (by simp [setAxle]; omega))]
        simp [setAxle]
    · rw [if_neg same, if_neg same, trimExpiry_early (.inr (by simp [setAxle]))]
      simp [setAxle]

theorem pick_setAxle_other {x y : Axle} (h : y ≠ x) (s : Station) (a : AxleUnit) : pick (setAxle s x a).axles y = pick s.axles y := by
  cases x <;> cases y
  · exact absurd rfl h
  · rfl
  · rfl
  · exact absurd rfl h

theorem learnSample_other {x y : Axle} (h : y ≠ x) (s : Station) : pick (learnSample x s).axles y = pick s.axles y := by
  have advanced := pick_setAxle_other h s (advanceLearning (learningSense s x) (pick s.axles x))
  unfold learnSample trimExpiry
  simp only
  split
  · split
    · exact (pick_setAxle_other h _ _).trans advanced
    · exact advanced
  · exact advanced

/-- R14: of the axle units the learning conditions read the sensor status and the forward speed. -/
theorem learningSense_axles {s : Station} {u : PerAxle AxleUnit}
    (same : ∀ x, (pick u x).sensor = (pick s.axles x).sensor ∧ (pick u x).forward = (pick s.axles x).forward) (y : Axle) :
    learningSense { s with axles := u } y = learningSense s y := by
  have own (x : Axle) : ownCandidate { s with axles := u } x = ownCandidate s x := by
    simp only [ownCandidate, (same x).1]
  have fa : u.a.forward = s.axles.a.forward := (same .a).2
  have fb : u.b.forward = s.axles.b.forward := (same .b).2
  have set : candidateSet { s with axles := u } = candidateSet s := by
    simp only [candidateSet, ownCandidates, own, fa, fb]; rfl
  have holds : learningHolds { s with axles := u } = learningHolds s := rfl
  simp only [learningSense, set, own, holds, (same y).2]

/-- R14: the trims do not enter the learning conditions. -/
theorem learningSense_learned (s : Station) : learningSense (learnSample .a s) .b = learningSense s .b := by
  have same (y : Axle) : (pick (learnSample .a s).axles y).sensor = (pick s.axles y).sensor ∧
      (pick (learnSample .a s).axles y).forward = (pick s.axles y).forward := by
    obtain ⟨_, _, _, h⟩ := learnSample_axle .a y s
    rw [h]; exact ⟨rfl, rfl⟩
  obtain ⟨_, e⟩ := learnSample_frame .a s
  rw [e] at same ⊢
  exact learningSense_axles same .b

/-- R14, R15: step 5 of a sample for both axles. -/
theorem learned_axle (s : Station) (x : Axle) : pick (learnSample .b (learnSample .a s)).axles x =
    trained (learningSense s x) (pick s.axles x) := by
  cases x with
  | a => rw [learnSample_other (by nofun), learnSample_own]
  | b => rw [learnSample_own, learningSense_learned, learnSample_other (by nofun)]

/-- R14, R15: an axle that begins to deviate, or does not. -/
theorem trained_begins {d : Option Deviation} {a : AxleUnit} (h : d = none ∨ d ≠ a.learnSense) :
    (trained d a).learnTime = 0 ∧ (trained d a).learnSense = d ∧ (trained d a).trim = a.trim := by
  unfold trained
  cases d with
  | none => exact ⟨rfl, rfl, rfl⟩
  | some v =>
    rcases h with h | h
    · cases h
    · simp only
      rw [if_neg fun e => h e.symm]
      exact ⟨rfl, rfl, rfl⟩

/-- R14, R15: an axle that goes on deviating. -/
theorem trained_continues {v : Deviation} {a : AxleUnit} (h : a.learnSense = some v) : (trained (some v) a).learnSense = some v ∧
    (a.learnTime + 5 < 2000 → (trained (some v) a).learnTime = a.learnTime + 5 ∧ (trained (some v) a).trim = a.trim) ∧
    (2000 ≤ a.learnTime + 5 → (trained (some v) a).learnTime = 0 ∧ (trained (some v) a).trim = stepTrim v a.trim) := by
  unfold trained
  simp only
  rw [if_pos h]
  refine ⟨?_, fun young => ?_, fun old => ?_⟩
  · split <;> exact h
  · rw [if_neg (by omega)]; exact ⟨rfl, rfl⟩
  · rw [if_pos old]; exact ⟨rfl, rfl⟩

theorem learningHolds_iff (s : Station) : learningHolds s = true ↔ s.blend.served = .coast ∧ s.hold.state = .free ∧
    s.ref.status = .tracking ∧ 4000 ≤ s.ref.speed ∧ s.ref.speed ≤ 11000 ∧ s.pos.state ≠ .lost ∧
    s.pos.attrStation.rise.natAbs < 10 ∧ 3 ≤ (peerCandidates s).length := by
  unfold learningHolds riseHere
  simp only [Bool.and_eq_true, decide_eq_true_eq, beq_iff_eq, bne_iff_ne, and_assoc]

theorem ownCandidate_iff (s : Station) (x : Axle) : ownCandidate s x = true ↔ (pick s.axles x).sensor = .ok ∧
    ((pick s.creep x).state = .adhering ∨ (pick s.creep x).state = .regulating) := by simp [ownCandidate]

theorem deviationOf_cases (forward m : Int) : (m ≤ 0 ∨ (-2 ≤ ((forward - m) * 1000).tdiv m ∧ ((forward - m) * 1000).tdiv m ≤ 2) →
      deviationOf forward m = none) ∧
    (0 < m → 2 < ((forward - m) * 1000).tdiv m → deviationOf forward m = some .high) ∧
    (0 < m → ((forward - m) * 1000).tdiv m < -2 → deviationOf forward m = some .low) := by
  unfold deviationOf
  refine ⟨fun h => ?_, fun hm hd => ?_, fun hm hd => ?_⟩
  · split
    · simp only
      rw [if_neg (by omega), if_neg (by omega)]
    · rfl
  · rw [if_pos hm]; simp only; rw [if_pos hd]
  · rw [if_pos hm]; simp only; rw [if_neg (by omega), if_pos hd]

theorem candidateSet_moveReference (s : Station) : candidateSet (moveReference s) = candidateSet s := by
  obtain ⟨_, _, e⟩ := moveReference_frame s; rw [e]; rfl

/-- R14: the conditions as step 5 of a sample finds them. -/
theorem learning_moved (s : Station) (x : Axle) :
    (learningHolds (moveReference (measured s)) && ownCandidate (moveReference (measured s)) x) = true ↔
      s.blend.served = .coast ∧ s.hold.state = .free ∧ (speedSample s).ref.status = .tracking ∧
        4000 ≤ (speedSample s).ref.speed ∧ (speedSample s).ref.speed ≤ 11000 ∧ s.pos.state ≠ .lost ∧
        s.pos.attrStation.rise.natAbs < 10 ∧ 3 ≤ ((freshPeers s).flatMap fun p => candidatesOf p.2).length ∧
        (pick (measured s).axles x).sensor = .ok ∧
        ((pick s.creep x).state = .adhering ∨ (pick s.creep x).state = .regulating) := by
  obtain ⟨-, -, states⟩ := measured_unread s
  obtain ⟨_, _, _, _, e⟩ := measured_frame s
  obtain ⟨_, _, e'⟩ := moveReference_frame (measured s)
  have peers : peerCandidates (moveReference (measured s)) = (freshPeers s).flatMap fun p => candidatesOf p.2 := by
    rw [e', e]; rfl
  have pos : (moveReference (measured s)).pos = s.pos := by rw [e', e]
  have blend : (moveReference (measured s)).blend = s.blend := by rw [e', e]
  have hold : (moveReference (measured s)).hold = s.hold := by rw [e', e]
  have axles : (moveReference (measured s)).axles = (measured s).axles := by rw [e']
  have creep : (moveReference (measured s)).creep = (measured s).creep := by rw [e']
  rw [Bool.and_eq_true, learningHolds_iff, ownCandidate_iff, peers, pos, blend, hold, axles, creep, states, ← speedSample_ref]
  simp only [and_assoc]

end Sys2Proof.Machine

open Sys2Proof Sys2Proof.Machine

/-- Settles O11: each row declares under its condition, and the axle that it declares follows in the row itself. -/
theorem sensorFailure : Obligations.SensorFailure := by
  intro x q z hz
  refine ⟨fun ok quiet partner moves served state => actRunning_eq hz ?_ q, fun h => actRunning_eq hz (silenceRow_early ?_) q,
    fun n state flag release old => ⟨failAndFollow x z, actRunning_eq hz (releaseRow_due
      ((releaseReached_iff _).mpr ⟨state, flag, n, release, old⟩)) q, ?_⟩, fun h => actRunning_eq hz (releaseRow_early ?_) q⟩
  · rw [silenceRow_due ((sensorSilent_iff z x).mpr ⟨ok, quiet, partner, moves, served, state⟩), failAndFollow_one partner]
    rfl
  · rw [Bool.eq_false_iff, ne_eq, sensorSilent_iff]
    rintro ⟨ok, quiet, partner, moves, served, state⟩
    rcases h with h | h | h | h | h | h | h | h
    · rw [h] at ok; cases ok
    · exact not_le.mpr h quiet
    · rw [h] at partner; cases partner
    · exact not_lt.mpr h moves
    · simp [h] at served
    · simp [h] at served
    · simp [h] at served
    · exact state h
  · cases other : (pick z.axles (otherAxle x)).sensor with
    | ok =>
      rw [failAndFollow_one other]
      exact ⟨rfl, rfl, rfl, by cases x <;> rfl, fun _ => by cases x <;> exact ⟨rfl, rfl, rfl⟩, nofun⟩
    | failed =>
      rw [failAndFollow_two other]
      exact ⟨rfl, rfl, rfl, by cases x <;> rfl, nofun, fun _ y => by cases y <;> exact ⟨rfl, rfl⟩⟩
  · rw [Bool.eq_false_iff, ne_eq, releaseReached_iff]
    rintro ⟨state, flag, n, release, old⟩
    rcases h with h | h | h
    · exact h state
    · rw [h] at flag; cases flag
    · exact not_le.mpr (h n release) old

/-- Settles O10: step 5 finds what step 4 left, and nothing after it writes an axle unit's trim or its timer. -/
theorem budgetAndTrim : Obligations.BudgetAndTrim := by
  refine ⟨fun q z m hz hm => ?_, fun q z hz => ⟨fun status spent => actRunning_eq hz (budgetSpent_due status spent) q,
    fun h => actRunning_eq hz (budgetSpent_early h) q,
    fun x sense time => actRunning_eq hz (trimExpiry_due sense time) q,
    fun x sense time => actRunning_eq hz (trimExpiry_due sense time) q,
    fun x h => actRunning_eq hz (trimExpiry_early h) q⟩⟩
  refine ⟨speedSample z, actRunning_running speedSample ⟨q, z⟩ hz, fun x holds M dev sense hholds hM hdev none' high low => ?_⟩
  obtain rfl : m = measured z := hm
  obtain ⟨-, axles, states⟩ := measured_unread z
  have conditions := learning_moved z x
  rw [← hholds] at conditions
  obtain ⟨_, _, moved⟩ := moveReference_frame (measured z)
  have unit : (moveReference (measured z)).axles = (measured z).axles := by rw [moved]
  have found : learningSense (moveReference (measured z)) x = sense := by
    obtain ⟨absent, above, below⟩ := deviationOf_cases (pick (measured z).axles x).forward M
    rw [← hdev] at absent above below
    unfold learningSense
    rw [candidateSet_moveReference, unit, ← hM]
    by_cases h : holds
    · rw [if_pos (conditions.mpr h)]
      by_cases flat : M ≤ 0 ∨ (-2 ≤ dev ∧ dev ≤ 2)
      · rw [absent flat, none' (.inr flat)]
      · rw [not_or, not_le] at flat
        obtain ⟨hM0, outside⟩ := flat
        by_cases up : 2 < dev
        · rw [above hM0 up, high h hM0 up]
        · have down : dev < -2 := by omega
          rw [below hM0 down, low h hM0 down]
    · rw [if_neg fun hc => h (conditions.mp hc), none' (.inl h)]
  have record : withoutFlags (pick (speedSample z).axles x) = withoutFlags (trained sense (pick (measured z).axles x)) := by
    rw [← found, ← unit, ← learned_axle]
    exact congrFun (axleRecord_speedSample z) x
  have time : (pick (speedSample z).axles x).learnTime = (trained sense (pick (measured z).axles x)).learnTime :=
    (congrArg AxleUnit.learnTime record :)
  have deviates : (pick (speedSample z).axles x).learnSense = (trained sense (pick (measured z).axles x)).learnSense :=
    (congrArg AxleUnit.learnSense record :)
  have trim : (pick (speedSample z).axles x).trim = (trained sense (pick (measured z).axles x)).trim :=
    (congrArg AxleUnit.trim record :)
  have before : (pick (measured z).axles x).learnTime = (pick z.axles x).learnTime ∧
      (pick (measured z).axles x).learnSense = (pick z.axles x).learnSense ∧
      (pick (measured z).axles x).trim = (pick z.axles x).trim := by rw [axles x]; exact ⟨rfl, rfl, rfl⟩
  obtain ⟨time₀, sense₀, trim₀⟩ := before
  rw [time, deviates, trim, ← time₀, ← sense₀, ← trim₀]
  refine ⟨trained_begins, fun some' same => ?_⟩
  cases hs : sense with
  | none => exact absurd hs some'
  | some v =>
    obtain ⟨sense', young, old⟩ := trained_continues (v := v) (a := pick (measured z).axles x) (by rw [← same, hs])
    refine ⟨sense', young, fun h => ?_⟩
    obtain ⟨time', trim'⟩ := old h
    rw [trim']
    exact ⟨time', fun hv => by cases hv; rfl, fun hv => by cases hv; rfl⟩

end

section
/-! SUPPORT. The reference of a sample by its status (R9 to R13), and the sensors through a sample (R17, R44). -/

namespace Sys2Proof.Machine

/-! ## The reference with and without a candidate (R10 to R13) -/

theorem moveReference_candidate {s : Station} (h : candidateSet s ≠ []) : moveReference s =
    if s.ref.status = .tracking then
      { s with ref := trackReference (upLimit s) (downLimit s) (selectCandidate s.hold.state s.blend.served (candidateSet s)) s.ref }
    else { s with ref := seedReference (selectCandidate s.hold.state s.blend.served (candidateSet s)) s.ref } :=
  if_neg (by simpa using h)

theorem moveReference_without {s : Station} (h : candidateSet s = []) : moveReference s = moveWithout s :=
  if_pos (by simp [h])

theorem moveWithout_holds {s : Station} (h : s.ref.status = .unseeded ∨ s.ref.status = .uncertain) : moveWithout s = s := by
  rcases h with h | h <;> simp [moveWithout, h]

theorem moveWithout_tracking {s : Station} (h : s.ref.status = .tracking) : moveWithout s = { s with
    ref := extrapolate (upLimit s) (downLimit s) { s.ref with status := .extrapolating, extrapTime := 0 } } := by
  simp [moveWithout, h]

theorem moveWithout_slope {s : Station} (h : s.ref.status = .extrapolating) (young : s.ref.extrapTime + 5 < 400) :
    moveWithout s = { s with
      ref := extrapolate (upLimit s) (downLimit s) { s.ref with extrapTime := s.ref.extrapTime + 5 } } := by
  simp [moveWithout, h, young]

theorem moveWithout_spent {s : Station} (h : s.ref.status = .extrapolating) (old : 400 ≤ s.ref.extrapTime + 5) :
    moveWithout s = { s with
      ref := { s.ref with status := .uncertain, lastChange := 0, extrapTime := s.ref.extrapTime + 5, capApplied := true }
      faults := recordFault s.faults s.time s.pos.attrLeading.mapCell .referenceUncertain none none } := by
  have spent : budgetSpent { s with ref := { s.ref with extrapTime := s.ref.extrapTime + 5 } } = _ :=
    budgetSpent_due (s := { s with ref := { s.ref with extrapTime := s.ref.extrapTime + 5 } }) (by exact h) (by exact old)
  calc moveWithout s = budgetSpent { s with ref := { s.ref with extrapTime := s.ref.extrapTime + 5 } } := by
        simp only [moveWithout, h, not_lt.mpr old, if_false]
    _ = _ := spent

/-- R12: only a budget that is spent at the sample reports. -/
theorem moveReference_faults {s : Station} (h : ¬(candidateSet s = [] ∧ s.ref.status = .extrapolating ∧
    400 ≤ s.ref.extrapTime + 5)) : (moveReference s).faults = s.faults := by
  by_cases none' : candidateSet s = []
  · rw [moveReference_without none']
    cases status : s.ref.status with
    | unseeded => rw [moveWithout_holds (.inl status)]
    | uncertain => rw [moveWithout_holds (.inr status)]
    | tracking => rw [moveWithout_tracking status]
    | extrapolating =>
      rw [moveWithout_slope status (not_le.mp fun old => h ⟨none', status, old⟩)]
  · rw [moveReference_candidate none']
    split <;> rfl

/-- R11: the slope of a sample, which stops at 0 and never reverses. -/
theorem extrapolate_cases (up down d : Int) (r : Reference) (hd : d = max (-down) (min up r.lastChange)) :
    ((0 < r.speed ∧ 0 < r.speed + d) ∨ (r.speed < 0 ∧ r.speed + d < 0) →
      extrapolate up down r = { r with speed := max (-25000) (min 25000 (r.speed + d)), lastChange := d }) ∧
    (¬((0 < r.speed ∧ 0 < r.speed + d) ∨ (r.speed < 0 ∧ r.speed + d < 0)) →
      extrapolate up down r = { r with speed := 0, lastChange := 0 }) := by
  subst hd
  exact ⟨fun h => if_pos h, fun h => if_neg h⟩

theorem extrapolate_keeps (up down : Int) (r : Reference) :
    (extrapolate up down r).status = r.status ∧ (extrapolate up down r).extrapTime = r.extrapTime := by
  obtain ⟨moves, stops⟩ := extrapolate_cases up down _ r rfl
  by_cases h : (0 < r.speed ∧ 0 < r.speed + max (-down) (min up r.lastChange)) ∨
      (r.speed < 0 ∧ r.speed + max (-down) (min up r.lastChange) < 0)
  · rw [moves h]; exact ⟨rfl, rfl⟩
  · rw [stops h]; exact ⟨rfl, rfl⟩

/-- R9: the limits read the rise and the figures alone. -/
theorem limits_measured (s : Station) : upLimit (measured s) = upLimit s ∧ downLimit (measured s) = downLimit s := by
  obtain ⟨_, _, _, _, e⟩ := measured_frame s
  rw [e]; exact ⟨rfl, rfl⟩

/-! ## Sensors through a sample (R17, R41, R44) -/

/-- What a step of a sample does to the axle units when it at most declares one axle failed. -/
def FailsAtMost (x : Axle) (s t : Station) : Prop :=
  t.axles = s.axles ∨ t.axles = put s.axles x { pick s.axles x with sensor := .failed, candidate := false }

theorem failsAtMost_releaseSample (x : Axle) (s : Station) : FailsAtMost x s (releaseSample x s) := by
  unfold releaseSample releaseExpiry
  simp only
  split
  · split
    · exact .inr rfl
    · exact .inl rfl
  · exact .inl rfl

theorem failsAtMost_lockedRule (x : Axle) (s : Station) : FailsAtMost x s (lockedRule x s) := by
  obtain ⟨_, _, e⟩ := wheelLockExpiry_frame x s
  have axles : (wheelLockExpiry x s).axles = s.axles := by rw [e]
  have released := failsAtMost_releaseSample x (wheelLockExpiry x s)
  rw [FailsAtMost, axles] at released
  unfold lockedRule
  split
  · exact .inl rfl
  · exact released

theorem failsAtMost_ownRule (x : Axle) (s : Station) : FailsAtMost x s (ownRule x s) := by
  unfold ownRule
  split
  · obtain ⟨_, e⟩ := adheringRule_frame x s; rw [e]; exact .inl rfl
  · obtain ⟨_, e⟩ := regulatingRule_frame x s; rw [e]; exact .inl rfl
  · obtain ⟨_, _, e⟩ := slippingRule_frame x s; rw [e]; exact .inl rfl
  · obtain ⟨_, _, _, _, e⟩ := recoveringRule_frame x s; rw [e]; exact .inl rfl
  · obtain ⟨_, e⟩ := reapplyingRule_frame x s; rw [e]; exact .inl rfl
  · exact failsAtMost_lockedRule x s

theorem failsAtMost_machineSample (x : Axle) (s : Station) : FailsAtMost x s (machineSample x s) := by
  have tests : FailsAtMost x s (runTests x (advanceLock x s)) := by
    unfold runTests
    simp only
    split
    · have locked := failsAtMost_lockedRule x (lockExpiry x (advanceLock x s))
      obtain ⟨_, e⟩ := lockExpiry_frame x (advanceLock x s)
      have axles : (lockExpiry x (advanceLock x s)).axles = s.axles := by rw [e]; rfl
      rw [FailsAtMost, axles] at locked
      exact locked
    · split
      · obtain ⟨_, _, _, _, e⟩ := enterSlipping_frame x (advanceLock x s)
        obtain ⟨_, _, e'⟩ := slippingRule_frame x (enterSlipping x (advanceLock x s))
        exact .inl (by rw [e', e]; rfl)
      · exact failsAtMost_ownRule x (advanceLock x s)
  unfold machineSample
  simp only
  split
  · split <;> exact tests
  · exact .inl rfl

/-- The axles whose sensors have failed stay failed. -/
def FailedStay (s t : Station) : Prop := ∀ x, (pick s.axles x).sensor = .failed → (pick t.axles x).sensor = .failed

theorem FailedStay.trans {s t u : Station} (h : FailedStay s t) (k : FailedStay t u) : FailedStay s u := fun x hx => k x (h x hx)

theorem failedStay_of_axles {s t : Station} (h : t.axles = s.axles) : FailedStay s t := fun x hx => by rw [h]; exact hx

theorem FailsAtMost.stay {x : Axle} {s t : Station} (h : FailsAtMost x s t) : FailedStay s t := by
  rcases h with h | h
  · exact failedStay_of_axles h
  · intro y hy
    rw [h]
    by_cases hxy : y = x
    · rw [hxy, pick_put]
    · cases x <;> cases y <;> simp_all [pick, put]

theorem failedStay_runMachines (turn : Bool) (s : Station) : FailedStay s (runMachines turn s) := by
  have both (t : Station) : FailedStay t (machineSample .b (machineSample .a t)) :=
    (failsAtMost_machineSample .a t).stay.trans (failsAtMost_machineSample .b _).stay
  have grown (x : Axle) (t : Station) : (growStateTime x t).axles = t.axles := by
    obtain ⟨_, e⟩ := growStateTime_frame x t; rw [e]
  have turned (x : Axle) (t : Station) : (redirect x t).axles = t.axles := by
    obtain ⟨_, e⟩ := redirect_frame x t; rw [e]
  have rests (x : Axle) (t : Station) : (restSample x t).axles = t.axles := by
    obtain ⟨_, e⟩ := restSample_frame x t; rw [e]
  have runs : FailedStay s (machineSample .b (machineSample .a (if turn then redirect .b (redirect .a (growStateTime .b
      (growStateTime .a s))) else growStateTime .b (growStateTime .a s)))) := by
    refine (failedStay_of_axles ?_).trans (both _)
    split
    · rw [turned, turned, grown, grown]
    · rw [grown, grown]
  unfold runMachines
  split
  · exact failedStay_of_axles (by rw [rests, rests])
  all_goals exact runs

theorem failedStay_creepSample (seeded : Bool) (s : Station) : FailedStay s (creepSample seeded s) := by
  unfold creepSample
  simp only
  intro x hx
  rw [creepSample_tail_axles]
  apply failedStay_runMachines
  rw [creepSample_head_axles]
  exact hx

theorem failedStay_command (seeded : Bool) (s : Station) : FailedStay s (command seeded s) := by
  have flags (t : Station) : FailedStay t (sendOrders (flagCandidates t)) := fun x hx => by cases x <;> exact hx
  exact (failedStay_creepSample seeded s).trans (flags _)

theorem enterParked_axle (s : Station) (x : Axle) :
    pick (enterParked s).axles x = { pick s.axles x with wakeEdges := [] } := by
  unfold enterParked
  obtain ⟨_, e⟩ := requestSave_frame { s with
    life := .parked
    hold := { s.hold with parkTime := none }
    axles := ⟨{ s.axles.a with wakeEdges := [] }, { s.axles.b with wakeEdges := [] }⟩ }
  rw [e]
  cases x <;> rfl

/-- R154: of the axle units the hold unit's part of a sample writes the wake edges alone. -/
theorem holdSample_axle (s : Station) (x : Axle) :
    ∃ w, pick (holdSample s).axles x = { pick s.axles x with wakeEdges := w } := by
  have park (t : Station) : ∃ w, pick (parkTest t).axles x = { pick t.axles x with wakeEdges := w } := by
    unfold parkTest parkExpiry
    simp only
    split
    · exact ⟨_, enterParked_axle _ x⟩
    · exact ⟨_, rfl⟩
  have still (t : Station) : (stillTest t).axles = t.axles := by
    obtain ⟨_, _, _, _, _, _, _, _, h⟩ := stillTest_frame t; rw [h]
  have wheel (t : Station) : (wheelWake t).axles = t.axles := by
    obtain ⟨_, _, _, _, _, _, h⟩ := wheelWake_frame t; rw [h]
  have rollback (t : Station) : (rollbackTest t).axles = t.axles := by
    obtain ⟨_, _, _, _, _, _, h⟩ := rollbackTest_frame t; rw [h]
  have forward (t : Station) : (releaseForward t).axles = t.axles := by
    obtain ⟨_, _, h⟩ := releaseForward_frame t; rw [h]
  have level (b : Bool) (t : Station) : (levelStart b t).axles = t.axles := by
    obtain ⟨_, h⟩ := levelStart_frame b t; rw [h]
  have hill (t : Station) : (hillSample t).axles = t.axles := by
    obtain ⟨_, h⟩ := hillSample_frame t; rw [h]
  have publish (t : Station) : (holdPublish t).axles = t.axles := rfl
  obtain ⟨w, e⟩ := park (hillSample (levelStart s.hold.levelPending (releaseForward (rollbackTest (wheelWake (stillTest s))))))
  refine ⟨w, ?_⟩
  unfold holdSample
  simp only [publish, e, hill, level, forward, rollback, wheel, still]

theorem sensor_holdSample (s : Station) (x : Axle) : (pick (holdSample s).axles x).sensor = (pick s.axles x).sensor := by
  obtain ⟨_, e⟩ := holdSample_axle s x
  rw [e]

theorem sensor_learned (s : Station) (x : Axle) : (pick (learned s).axles x).sensor = (pick (measured s).axles x).sensor := by
  obtain ⟨_, _, e⟩ := moveReference_frame (measured s)
  obtain ⟨_, _, _, b⟩ := learnSample_axle .b x (learnSample .a (moveReference (measured s)))
  obtain ⟨_, _, _, a⟩ := learnSample_axle .a x (moveReference (measured s))
  rw [learned, b, a, e]

/-- R44: until the creep controller no step after the third writes a sensor status. -/
theorem sensor_held (s : Station) (x : Axle) : (pick (held s).axles x).sensor = (pick (measured s).axles x).sensor := by
  have pos (t : Station) : (positionSample t).axles = t.axles := by
    obtain ⟨_, _, _, _, e⟩ := positionSample_frame t; rw [e]
  rw [held, sensor_holdSample, pos, sensor_learned]

theorem failedStay_speedSample (s : Station) : FailedStay (measured s) (speedSample s) := by
  obtain ⟨_, e⟩ := announced_frame sampleSteps s
  have steps : (speedSample s).axles = (sampleSteps s).axles := by unfold speedSample; rw [e]
  intro x hx
  rw [steps, sampleSteps_eq]
  exact failedStay_command _ (held s) x ((sensor_held s x).trans hx)

/-- R17: which axles steps 1 to 3 leave failed, and what they report. -/
theorem measured_sensors (s : Station) :
    ((measured s).axles.a.sensor = .failed ↔ s.axles.a.sensor = .failed ∨ sensorSilent (sped s) .a = true) ∧
    ((measured s).axles.b.sensor = .failed ↔ s.axles.b.sensor = .failed ∨
      (sensorSilent (sped s) .b = true ∧ ¬sensorSilent (sped s) .a = true)) ∧
    (measured s).faults = (if sensorSilent (sped s) .a = true then
        recordFault s.faults s.time s.pos.attrLeading.mapCell .speedSensor (some .a) none
      else if sensorSilent (sped s) .b = true then
        recordFault s.faults s.time s.pos.attrLeading.mapCell .speedSensor (some .b) none
      else s.faults) := by
  have a : (sped s).axles.a = sampledAxle s .a := sped_axles s .a
  have b : (sped s).axles.b = sampledAxle s .b := sped_axles s .b
  obtain ⟨_, _, e⟩ := sped_frame s
  have faults : (sped s).faults = s.faults ∧ (sped s).time = s.time ∧ (sped s).pos = s.pos := by rw [e]; exact ⟨rfl, rfl, rfl⟩
  obtain ⟨faults, time, pos⟩ := faults
  rcases measured_cases s with ⟨ha, h⟩ | ⟨ha, hb, h⟩ | ⟨ha, hb, h⟩
  · rw [h, failSensor_eq]
    simp [put, pick, ha, b, faults, time, pos, sampledAxle]
  · rw [h, failSensor_eq]
    simp [put, pick, ha, hb, a, faults, time, pos, sampledAxle]
  · rw [h]
    simp [ha, hb, a, b, faults, sampledAxle, pick]

/-- R17: the condition of step 3, read after it. -/
theorem sensorSilent_sped (s : Station) (x : Axle) : sensorSilent (sped s) x = true ↔
    (pick s.axles x).sensor = .ok ∧ 1000 ≤ age s.time (pick s.axles x).quietSince ∧
      (pick s.axles (otherAxle x)).sensor = .ok ∧ 2000 < (pick (measured s).axles (otherAxle x)).speed.natAbs ∧
      (s.blend.served = .drive ∨ s.blend.served = .coast ∨ s.blend.served = .hold) ∧ s.hold.state ≠ .rollback := by
  obtain ⟨-, axles, -⟩ := measured_unread s
  obtain ⟨_, _, e⟩ := sped_frame s
  have unread : (sped s).time = s.time ∧ (sped s).blend = s.blend ∧ (sped s).hold = s.hold := by rw [e]; exact ⟨rfl, rfl, rfl⟩
  obtain ⟨time, blend, hold⟩ := unread
  rw [sensorSilent_iff, sped_axles, sped_axles, axles, time, blend, hold]
  rfl

end Sys2Proof.Machine

open Sys2Proof Sys2Proof.Machine

/-- Settles O9: step 4 moves the reference by its status and no later step does; steps 3 and 4 alone report before the position
unit. -/
theorem sampleReference : Obligations.SampleReference := by
  intro q z m r up down hz hm hsame hturned hup hdown
  obtain rfl : m = measured z := hm
  obtain ⟨ref, -, -⟩ := measured_unread z
  have hr : (measured z).ref = r := by
    rw [ref]
    by_cases h : z.ref.heldFor = z.pos.leadingEnd
    · rw [negateReference_same h, hsame h]
    · rw [negateReference_turned h, hturned h]
  obtain ⟨hup', hdown'⟩ := limits_measured z
  have up' : upLimit (measured z) = up := hup'.trans hup.symm
  have down' : downLimit (measured z) = down := hdown'.trans hdown.symm
  obtain ⟨_, _, _, _, e⟩ := measured_frame z
  have unread : (measured z).hold = z.hold ∧ (measured z).blend = z.blend ∧ (measured z).time = z.time ∧
      (measured z).pos = z.pos := by rw [e]; exact ⟨rfl, rfl, rfl, rfl⟩
  obtain ⟨hold, blend, time, pos⟩ := unread
  refine ⟨speedSample z, actRunning_running speedSample ⟨q, z⟩ hz, ?_⟩
  rw [speedSample_ref]
  refine ⟨fun v w some' hv tracking hw => ?_, fun v some' hv other => ?_, fun none' h => ?_, fun none' h => ?_,
    fun none' h young => ?_, fun d none' h hd => ?_, fun none' h old => ?_,
    fun fails f uncertain hfails fa fb fn hun => ?_⟩
  · rw [moveReference_candidate some', hr, if_pos tracking, hold, blend, ← hv, up', down', hw]; rfl
  · rw [moveReference_candidate some', hr, if_neg other, hold, blend, ← hv]; rfl
  · rw [moveReference_without none', moveWithout_holds (by rw [hr]; exact h), hr]
  · rw [moveReference_without none', moveWithout_tracking (by rw [hr]; exact h)]
    exact extrapolate_keeps _ _ _
  · rw [moveReference_without none', moveWithout_slope (by rw [hr]; exact h) (by rw [hr]; exact young), hr]
    obtain ⟨status, spent⟩ := extrapolate_keeps (upLimit (measured z)) (downLimit (measured z))
      { r with extrapTime := r.extrapTime + 5 }
    exact ⟨status.trans h, spent⟩
  · rw [moveReference_without none']
    rcases h with tracking | ⟨slope, young⟩
    · rw [moveWithout_tracking (by rw [hr]; exact tracking), hr, up', down']
      obtain ⟨moves, stops⟩ := extrapolate_cases up down d { r with status := .extrapolating, extrapTime := 0 } hd
      exact ⟨fun h => by rw [moves h]; exact ⟨rfl, rfl⟩, fun h => by rw [stops h]; exact ⟨rfl, rfl⟩⟩
    · rw [moveWithout_slope (by rw [hr]; exact slope) (by rw [hr]; exact young), hr, up', down']
      obtain ⟨moves, stops⟩ := extrapolate_cases up down d { r with extrapTime := r.extrapTime + 5 } hd
      exact ⟨fun h => by rw [moves h]; exact ⟨rfl, rfl⟩, fun h => by rw [stops h]; exact ⟨rfl, rfl⟩⟩
  · rw [moveReference_without none', moveWithout_spent (by rw [hr]; exact h) (by rw [hr]; exact old), hr]
  · have silent (x : Axle) : sensorSilent (sped z) x = true ↔ fails x := (sensorSilent_sped z x).trans (hfails x).symm
    obtain ⟨sensorA, sensorB, reports⟩ := measured_sensors z
    rw [silent] at sensorA sensorB
    rw [silent] at sensorB
    have table : (measured z).faults = f := by
      rw [reports]
      by_cases ha : fails .a
      · rw [if_pos ((silent .a).mpr ha), fa ha]
      · rw [if_neg fun h => ha ((silent .a).mp h)]
        by_cases hb : fails .b
        · rw [if_pos ((silent .b).mpr hb), fb ha hb]
        · rw [if_neg fun h => hb ((silent .b).mp h), fn ha hb]
    have judged (t : Station) : (positionSample (learnSample .b (learnSample .a t))).faults = t.faults := by
      obtain ⟨_, _, _, _, p⟩ := positionSample_frame (learnSample .b (learnSample .a t))
      obtain ⟨_, b⟩ := learnSample_frame .b (learnSample .a t)
      obtain ⟨_, a⟩ := learnSample_frame .a t
      rw [p, b, a]
    refine ⟨sensorA, sensorB, failedStay_speedSample z, fun h => ?_, fun h => ?_⟩
    · obtain ⟨none', status, old⟩ := hun.mp h
      rw [judged, moveReference_without none', moveWithout_spent (by rw [hr]; exact status) (by rw [hr]; exact old), table, time,
        pos]
    · rw [judged, moveReference_faults (by rw [hr, ← hun]; exact h), table]

end

section
/-! SUPPORT. The creep controller's part of a sample stage by stage (R20 to R25, R37 to R41): what each stage hands on. -/

namespace Sys2Proof.Machine

/-! ## The stages -/

/-- R20: the effort direction of a sample. -/
def sampleDir (s : Station) : EffortDir := dirOf s.hold.state s.blend.served

/-- R32: the sample turns the effort direction, neither being REST. -/
def turns (s : Station) : Bool := sampleDir s != s.creepDir && sampleDir s != .rest && s.creepDir != .rest

/-- R22, R33: the applied forces joined, re-slip ceilings and histories brought up to the moment. -/
def applied (s : Station) : Station :=
  pruneReslips .b (pruneReslips .a (reslipExpiry .b (reslipExpiry .a (recordApplied (sampleDir s) { s with creepDir := sampleDir s }))))

/-- R38, R39: the station as the state machines find it. -/
def entered (seeded : Bool) (s : Station) : Station := queryAhead (if seeded then emptyHistories (applied s) else applied s)

/-- R25, R41: the station as the state machines leave it. -/
def machined (seeded : Bool) (s : Station) : Station := followPartners (runMachines (turns s) (entered seeded s))

/-- R37: the station with the sample joined to the cell record. -/
def celled (seeded : Bool) (s : Station) : Station :=
  sampleCell (sampleDir s != s.creepDir) (appliedForce s (sampleDir s) (leadingAxle s)) (turnCell (machined seeded s))

theorem creepSample_eq (seeded : Bool) (s : Station) : creepSample seeded s = formOrder .b (formOrder .a (celled seeded s)) := rfl

/-! ## Before the state machines -/

/-- R33: what is left of a re-slip ceiling at a moment. -/
def standingCeiling (now : Millis) (c : AxleCreep) : Option ReslipCeiling := c.ceiling.filter fun r => before now r.expires

/-- R22, R33: the record of an axle once its applied force has joined. -/
def appliedRecord (now : Millis) (force : Nat) (c : AxleCreep) : AxleCreep :=
  { c with peaks := force :: c.peaks.take 19, ceiling := standingCeiling now c
           reslips := c.reslips.filter fun r => age now r.time ≤ 5000 }

theorem reslipExpiry_creep (x : Axle) (s : Station) : reslipExpiry x s =
    setCreep s x { pick s.creep x with ceiling := standingCeiling s.time (pick s.creep x) } := by
  unfold reslipExpiry standingCeiling
  simp only
  split
  · rename_i r hr
    split
    · rename_i stands
      rw [hr, Option.filter_some, if_pos stands, ← hr]
      exact (setCreep_pick s x).symm
    · rename_i over'
      rw [hr, Option.filter_some, if_neg over']
  · rename_i none'
    rw [none', Option.filter_none, ← none']
    exact (setCreep_pick s x).symm

/-- R33: both axles' re-slip ceilings and histories brought up to the moment. -/
theorem reslips_eq (s : Station) : pruneReslips .b (pruneReslips .a (reslipExpiry .b (reslipExpiry .a s))) = { s with creep :=
    ⟨{ s.creep.a with ceiling := standingCeiling s.time s.creep.a
                      reslips := s.creep.a.reslips.filter fun r => age s.time r.time ≤ 5000 },
     { s.creep.b with ceiling := standingCeiling s.time s.creep.b
                      reslips := s.creep.b.reslips.filter fun r => age s.time r.time ≤ 5000 }⟩ } := by
  rw [reslipExpiry_creep, reslipExpiry_creep]
  rfl

theorem applied_eq (s : Station) : applied s = { s with
    creepDir := sampleDir s
    creep := ⟨appliedRecord s.time (appliedForce s (sampleDir s) .a) s.creep.a,
              appliedRecord s.time (appliedForce s (sampleDir s) .b) s.creep.b⟩ } := by
  rw [applied, reslips_eq]
  rfl

/-- R38: the pre-limit that a sample's query gives an axle. -/
def queriedLimit (s : Station) (x : Axle) : Option Nat :=
  if s.pos.state = .lost ∨ s.creepDir = .rest then none
  else (lookAhead s s.pos.attrLeading.position s.figs.lookAhead).map fun r => preLimitOf r.1 (axleWeight s x)

theorem queryAhead_eq (s : Station) : queryAhead s = { s with
    creep := ⟨{ s.creep.a with preLimit := queriedLimit s .a }, { s.creep.b with preLimit := queriedLimit s .b }⟩ } := by
  unfold queryAhead queriedLimit
  split
  · rfl
  · split
    · rename_i h; rw [h]; rfl
    · rename_i h; rw [h]; rfl

/-- R21, R22, R33, R38: the record of an axle as the state machines find it. -/
def enteredRecord (seeded : Bool) (s : Station) (x : Axle) : AxleCreep :=
  let c := appliedRecord s.time (appliedForce s (sampleDir s) x) (pick s.creep x)
  { c with history := if seeded then [] else c.history, preLimit := queriedLimit { s with creepDir := sampleDir s } x }

theorem entered_eq (seeded : Bool) (s : Station) : entered seeded s = { s with
    creepDir := sampleDir s, creep := ⟨enteredRecord seeded s .a, enteredRecord seeded s .b⟩ } := by
  unfold entered
  rw [applied_eq]
  cases seeded <;> simp only [queryAhead_eq] <;> rfl

theorem entered_creep (seeded : Bool) (s : Station) (x : Axle) :
    pick (entered seeded s).creep x = enteredRecord seeded s x := by
  rw [entered_eq]; cases x <;> rfl

/-! ## What an axle's state machine leaves alone -/

/-- What the state machine of an axle never writes: the partner's record, and the parts of its own that other stages own. -/
def foreign (x : Axle) (s : Station) : AxleCreep × Option Nat × List Nat × Nat × Nat :=
  (pick s.creep (otherAxle x), (pick s.creep x).preLimit, (pick s.creep x).peaks, (pick s.creep x).electric,
    (pick s.creep x).friction)

theorem foreign_setCreep {x : Axle} {s : Station} {c : AxleCreep} (h : c.preLimit = (pick s.creep x).preLimit ∧
    c.peaks = (pick s.creep x).peaks ∧ c.electric = (pick s.creep x).electric ∧ c.friction = (pick s.creep x).friction) :
    foreign x (setCreep s x c) = foreign x s := by
  obtain ⟨hp, hk, he, hf⟩ := h
  simp only [foreign, setCreep_creep, pick_put, pick_put_other, hp, hk, he, hf]

theorem foreign_creep {x : Axle} {s t : Station} (h : t.creep = s.creep) : foreign x t = foreign x s := by
  simp only [foreign, h]

theorem foreign_slipPersistent (x : Axle) (s : Station) : foreign x (slipPersistent x s) = foreign x s := by
  unfold slipPersistent
  simp only
  split
  · exact foreign_setCreep (s := s) ⟨rfl, rfl, rfl, rfl⟩
  · rfl

theorem foreign_slippingRule (x : Axle) (s : Station) : foreign x (slippingRule x s) = foreign x s := by
  unfold slippingRule
  simp only
  split
  · exact foreign_setCreep ⟨rfl, rfl, rfl, rfl⟩
  · exact foreign_slipPersistent x s

theorem foreign_enterSlipping (x : Axle) (s : Station) : foreign x (enterSlipping x s) = foreign x s := by
  have joins (n : Nat) (t : Station) : foreign x (joinReslips n x t) = foreign x t := by
    unfold joinReslips
    simp only
    split <;> exact foreign_setCreep (s := t) ⟨rfl, rfl, rfl, rfl⟩
  have observed (n : Nat) (t : Station) : (slipRequest (peakObservation n x t)).creep = t.creep := by
    obtain ⟨_, _, e⟩ := peakObservation_frame n x t
    rw [slipRequest, e]
  unfold enterSlipping
  simp only
  rw [joins, foreign_creep (observed _ _)]
  exact foreign_setCreep ⟨rfl, rfl, rfl, rfl⟩

theorem foreign_regulatingRule (x : Axle) (s : Station) : foreign x (regulatingRule x s) = foreign x s := by
  have calm (t : Station) : foreign x (calmExpiry x t) = foreign x t := by
    unfold calmExpiry
    simp only
    split
    · exact foreign_setCreep ⟨rfl, rfl, rfl, rfl⟩
    · rfl
  unfold regulatingRule
  simp only
  rw [calm]
  exact foreign_setCreep ⟨rfl, rfl, rfl, rfl⟩

theorem foreign_enterRegulating (x : Axle) (s : Station) : foreign x (enterRegulating x s) = foreign x s := by
  unfold enterRegulating
  rw [foreign_regulatingRule]
  exact foreign_setCreep ⟨rfl, rfl, rfl, rfl⟩

theorem foreign_reapplyingRule (x : Axle) (s : Station) : foreign x (reapplyingRule x s) = foreign x s := by
  unfold reapplyingRule reapplied
  split
  · exact foreign_enterRegulating x s
  · simp only
    split <;> exact foreign_setCreep ⟨rfl, rfl, rfl, rfl⟩

theorem foreign_recoveringRule (x : Axle) (s : Station) : foreign x (recoveringRule x s) = foreign x s := by
  unfold recoveringRule recoveryHoldExpiry
  split
  · exact foreign_enterSlipping x s
  · simp only
    split
    · rw [foreign_reapplyingRule]
      exact foreign_setCreep ⟨rfl, rfl, rfl, rfl⟩
    · rfl

theorem foreign_failSensor (x : Axle) (s : Station) : foreign x (failSensor x s) = foreign x s :=
  foreign_setCreep (s := s) (c := clearMachine (pick s.creep x)) ⟨rfl, rfl, rfl, rfl⟩

theorem foreign_lockedRule (x : Axle) (s : Station) : foreign x (lockedRule x s) = foreign x s := by
  have wheel (t : Station) : foreign x (wheelLockExpiry x t) = foreign x t := by
    unfold wheelLockExpiry
    simp only
    split
    · exact foreign_setCreep (s := t) ⟨rfl, rfl, rfl, rfl⟩
    · rfl
  have release (t : Station) : foreign x (releaseSample x t) = foreign x t := by
    unfold releaseSample releaseExpiry
    simp only
    split
    · split
      · rw [foreign_failSensor]
        exact foreign_setCreep ⟨rfl, rfl, rfl, rfl⟩
      · exact foreign_setCreep ⟨rfl, rfl, rfl, rfl⟩
    · rfl
  unfold lockedRule
  split
  · exact foreign_setCreep ⟨rfl, rfl, rfl, rfl⟩
  · rw [release, wheel]

theorem foreign_ownRule (x : Axle) (s : Station) : foreign x (ownRule x s) = foreign x s := by
  unfold ownRule
  split
  · unfold adheringRule
    simp only
    split
    · exact foreign_setCreep ⟨rfl, rfl, rfl, rfl⟩
    · exact foreign_enterRegulating x s
  · exact foreign_regulatingRule x s
  · exact foreign_slippingRule x s
  · exact foreign_recoveringRule x s
  · exact foreign_reapplyingRule x s
  · exact foreign_lockedRule x s

theorem foreign_runTests (x : Axle) (s : Station) : foreign x (runTests x s) = foreign x s := by
  have locks (t : Station) : foreign x (lockExpiry x t) = foreign x t := by
    unfold lockExpiry
    split
    · exact foreign_setCreep ⟨rfl, rfl, rfl, rfl⟩
    · rfl
  unfold runTests
  simp only
  split
  · rw [foreign_lockedRule, locks]
  · split
    · rw [foreign_slippingRule, foreign_enterSlipping]
    · exact foreign_ownRule x s

/-- R25: a sample of one axle's machine leaves the partner's record and what it does not own. -/
theorem foreign_machineSample (x : Axle) (s : Station) : foreign x (machineSample x s) = foreign x s := by
  have lock : foreign x (advanceLock x s) = foreign x s := foreign_setCreep ⟨rfl, rfl, rfl, rfl⟩
  have lower (t : Station) : foreign x (lowerToCeiling x t) = foreign x t := foreign_setCreep ⟨rfl, rfl, rfl, rfl⟩
  have push (t : Station) : foreign x (pushCreep x t) = foreign x t := foreign_setCreep ⟨rfl, rfl, rfl, rfl⟩
  unfold machineSample
  simp only
  split
  · split
    · rw [push, lower, foreign_runTests, lock]
    · rw [foreign_runTests, lock]
  · rfl

end Sys2Proof.Machine
end

section
/-! SUPPORT. What a sample hands on to and takes from its creep controller, and the look-ahead (R38, R39, R72, R73). -/

namespace Sys2Proof.Machine

/-! ## Through the state machines -/

/-- What of the creep records no state machine writes. -/
def carried (s : Station) (x : Axle) : Option Nat × List Nat := ((pick s.creep x).preLimit, (pick s.creep x).peaks)

theorem carried_setCreep {x : Axle} {s : Station} {c : AxleCreep} (h : c.preLimit = (pick s.creep x).preLimit ∧
    c.peaks = (pick s.creep x).peaks) : carried (setCreep s x c) = carried s := by
  obtain ⟨hp, hk⟩ := h
  funext y
  cases x <;> cases y <;> simp_all [carried, setCreep, put, pick]

theorem carried_machineSample (x : Axle) (s : Station) : carried (machineSample x s) = carried s := by
  have own := foreign_machineSample x s
  have partner : pick (machineSample x s).creep (otherAxle x) = pick s.creep (otherAxle x) := congrArg (·.1) own
  have limit : (pick (machineSample x s).creep x).preLimit = (pick s.creep x).preLimit := congrArg (·.2.1) own
  have peaks : (pick (machineSample x s).creep x).peaks = (pick s.creep x).peaks := congrArg (·.2.2.1) own
  funext y
  unfold carried
  by_cases hy : y = x
  · rw [hy, limit, peaks]
  · obtain rfl : y = otherAxle x := by revert hy; cases x <;> cases y <;> simp [otherAxle]
    rw [partner]

theorem carried_growStateTime (x : Axle) (s : Station) : carried (growStateTime x s) = carried s := by
  unfold growStateTime
  simp only
  split
  · exact carried_setCreep ⟨rfl, rfl⟩
  · rfl

theorem carried_redirect (x : Axle) (s : Station) : carried (redirect x s) = carried s := by
  unfold redirect
  split
  · refine carried_setCreep ?_
    unfold redirectAxle
    cases (pick s.creep x).state <;> exact ⟨rfl, rfl⟩
  · rfl

theorem carried_restSample (x : Axle) (s : Station) : carried (restSample x s) = carried s := by
  unfold restSample
  split
  · exact carried_setCreep ⟨rfl, rfl⟩
  · rfl

theorem carried_runMachines (turn : Bool) (s : Station) : carried (runMachines turn s) = carried s := by
  have runs : carried (machineSample .b (machineSample .a (if turn then redirect .b (redirect .a (growStateTime .b
      (growStateTime .a s))) else growStateTime .b (growStateTime .a s)))) = carried s := by
    rw [carried_machineSample, carried_machineSample]
    split
    · rw [carried_redirect, carried_redirect, carried_growStateTime, carried_growStateTime]
    · rw [carried_growStateTime, carried_growStateTime]
  unfold runMachines
  split
  · rw [carried_restSample, carried_restSample]
  all_goals exact runs

theorem carried_followPartners (s : Station) : carried (followPartners s) = carried s := by
  have follow (x : Axle) (t : Station) : carried (followPartner x t) = carried t := by
    unfold followPartner
    split
    · exact carried_setCreep ⟨rfl, rfl⟩
    · rfl
  unfold followPartners bothFailed
  split
  · rw [← follow .a s, ← follow .b (followPartner .a s)]
    funext y
    cases y <;> rfl
  · rw [follow, follow]

theorem carried_machined (seeded : Bool) (s : Station) : carried (machined seeded s) = carried (entered seeded s) := by
  rw [machined, carried_followPartners, carried_runMachines]

/-! ## After the state machines -/

theorem celled_frame (seeded : Bool) (s : Station) :
    ∃ p m r, celled seeded s = { machined seeded s with port := p, map := m, cellRec := r } := by
  obtain ⟨r, p, m, e⟩ := turnCell_frame (machined seeded s)
  obtain ⟨r', e'⟩ := sampleCell_frame (sampleDir s != s.creepDir) (appliedForce s (sampleDir s) (leadingAxle s))
    (turnCell (machined seeded s))
  exact ⟨p, m, r', by rw [celled, e', e]⟩

/-- R40: the orders of an axle as its record carries them. -/
def orderOf (s : Station) (x : Axle) : Nat × Nat :=
  match (pick s.creep x).state with
  | .locked => (0, 0)
  | .adhering | .regulating | .slipping | .recovering | .reapplying =>
    cutOrder (demandElectric s x) (demandFriction s x) (pick s.creep x).limit

theorem formOrder_eq (x : Axle) (s : Station) : formOrder x s =
    setCreep s x { pick s.creep x with electric := (orderOf s x).1, friction := (orderOf s x).2 } := by
  unfold formOrder orderOf
  cases h : (pick s.creep x).state <;> simp only [h]

theorem formOrders_eq (s : Station) : formOrder .b (formOrder .a s) = { s with creep :=
    ⟨{ s.creep.a with electric := (orderOf s .a).1, friction := (orderOf s .a).2 },
     { s.creep.b with electric := (orderOf s .b).1, friction := (orderOf s .b).2 }⟩ } := by
  rw [formOrder_eq, formOrder_eq]
  rfl

/-- R40, R172: steps 6 and 7 of a sample once the cell record has its sample. -/
def ordered (s : Station) : Station := sendOrders (flagCandidates (formOrder .b (formOrder .a s)))

theorem command_eq (seeded : Bool) (s : Station) : command seeded s = ordered (celled seeded s) := by
  rw [command, creepSample_eq, ordered]

theorem ordered_creep (s : Station) (x : Axle) : pick (ordered s).creep x =
    { pick s.creep x with electric := (orderOf s x).1, friction := (orderOf s x).2 } := by
  rw [ordered, formOrders_eq]
  cases x <;> rfl

theorem ordered_unread (s : Station) : (ordered s).creepDir = s.creepDir ∧ (ordered s).hold = s.hold ∧
    (ordered s).blend = s.blend ∧ (ordered s).cellRec = s.cellRec ∧ (ordered s).map = s.map ∧ (ordered s).port = s.port := by
  rw [ordered, formOrders_eq]
  exact ⟨rfl, rfl, rfl, rfl, rfl, rfl⟩

theorem celled_creep (seeded : Bool) (s : Station) : (celled seeded s).creep = (machined seeded s).creep := by
  obtain ⟨_, _, _, e⟩ := celled_frame seeded s; rw [e]

theorem machined_unread (seeded : Bool) (s : Station) : (machined seeded s).creepDir = sampleDir s ∧
    (machined seeded s).hold = s.hold ∧ (machined seeded s).blend = s.blend ∧ (machined seeded s).cellRec = s.cellRec := by
  obtain ⟨_, e2⟩ := followPartners_frame (runMachines (turns s) (entered seeded s))
  obtain ⟨_, _, _, _, _, _, e3⟩ := runMachines_frame (turns s) (entered seeded s)
  rw [machined, e2, e3, entered_eq]
  exact ⟨rfl, rfl, rfl, rfl⟩

theorem celled_unread (seeded : Bool) (s : Station) : (celled seeded s).creepDir = sampleDir s ∧
    (celled seeded s).hold = s.hold ∧ (celled seeded s).blend = s.blend := by
  obtain ⟨dir, hold, blend, -⟩ := machined_unread seeded s
  obtain ⟨_, _, _, e⟩ := celled_frame seeded s
  rw [e]
  exact ⟨dir, hold, blend⟩

/-- R5: a STATUS that a sample causes is all that follows its steps. -/
theorem announced_unread (f : Station → Station) (s : Station) : (announced f s).creep = (f s).creep ∧
    (announced f s).creepDir = (f s).creepDir ∧ (announced f s).hold = (f s).hold ∧ (announced f s).blend = (f s).blend ∧
    (announced f s).cellRec = (f s).cellRec ∧ (announced f s).map = (f s).map := by
  obtain ⟨_, e⟩ := announced_frame f s
  rw [e]
  exact ⟨rfl, rfl, rfl, rfl, rfl, rfl⟩

theorem speedSample_steps (s : Station) : speedSample s = announced (fun s => ordered (celled (seeds (measured s)) (held s))) s := by
  have steps : sampleSteps = fun s => ordered (celled (seeds (measured s)) (held s)) := by
    funext t; rw [sampleSteps_eq, command_eq]
  rw [speedSample, steps]

theorem speedSample_creep (s : Station) (x : Axle) : pick (speedSample s).creep x =
    { pick (machined (seeds (measured s)) (held s)).creep x with
      electric := (orderOf (celled (seeds (measured s)) (held s)) x).1
      friction := (orderOf (celled (seeds (measured s)) (held s)) x).2 } := by
  obtain ⟨creep, -⟩ := announced_unread (fun s => ordered (celled (seeds (measured s)) (held s))) s
  rw [speedSample_steps, creep, ordered_creep, celled_creep]

/-- The direction, the hold unit and the blend unit after a sample are those that its hold unit left. -/
theorem speedSample_served (s : Station) : (speedSample s).creepDir = sampleDir (held s) ∧ (speedSample s).hold = (held s).hold ∧
    (speedSample s).blend = (held s).blend := by
  obtain ⟨-, dir'', hold'', blend'', -⟩ := announced_unread (fun s => ordered (celled (seeds (measured s)) (held s))) s
  obtain ⟨dir, hold, blend, -, -, -⟩ := ordered_unread (celled (seeds (measured s)) (held s))
  obtain ⟨dir', hold', blend'⟩ := celled_unread (seeds (measured s)) (held s)
  rw [speedSample_steps, dir'', hold'', blend'']
  exact ⟨dir.trans dir', hold.trans hold', blend.trans blend'⟩

theorem machined_carried (seeded : Bool) (s : Station) (x : Axle) :
    (pick (machined seeded s).creep x).preLimit = queriedLimit { s with creepDir := sampleDir s } x ∧
    (pick (machined seeded s).creep x).peaks = appliedForce s (sampleDir s) x :: (pick s.creep x).peaks.take 19 := by
  have kept := congrFun (carried_machined seeded s) x
  unfold carried at kept
  rw [entered_creep] at kept
  exact Prod.mk.inj kept

/-- R22, R38: the pre-limits and peaks after a sample. -/
theorem speedSample_carried (s : Station) (x : Axle) :
    (pick (speedSample s).creep x).preLimit = queriedLimit { held s with creepDir := sampleDir (held s) } x ∧
    (pick (speedSample s).creep x).peaks =
      appliedForce (held s) (sampleDir (held s)) x :: (pick (held s).creep x).peaks.take 19 := by
  rw [speedSample_creep]
  exact machined_carried _ _ x

/-! ## Before the creep controller -/

theorem held_frame (s : Station) : ∃ f b m h a p k r d l x t e, held s = { s with
    lastSample := s.time, ref := e, faults := f, blend := b, makeUp := m, hold := h, sanding := a, pos := p, creep := k
    cellRec := r, sanders := d, life := l, axles := x, store := t } := by
  obtain ⟨_, _, _, _, _, _, _, _, _, _, _, _, e⟩ := holdSample_frame (positionSample (learned s))
  obtain ⟨_, _, _, _, e1⟩ := positionSample_frame (learned s)
  obtain ⟨_, _, _, _, e2⟩ := learned_frame s
  rw [held, e, e1, e2]
  exact ⟨_, _, _, _, _, _, _, _, _, _, _, _, _, rfl⟩

theorem held_unread (s : Station) : (held s).map = s.map ∧ (held s).figs = s.figs ∧ (held s).link = s.link ∧
    (held s).plug = s.plug ∧ (held s).time = s.time := by
  obtain ⟨_, _, _, _, _, _, _, _, _, _, _, _, _, e⟩ := held_frame s
  rw [e]
  exact ⟨rfl, rfl, rfl, rfl, rfl⟩

theorem speedSample_figs (s : Station) : (speedSample s).figs = s.figs := by
  obtain ⟨_, _, _, _, _, _, _, _, _, _, _, _, _, _, _, _, -, e⟩ := speedSample_frame s
  rw [e]

/-! ## The look-ahead (R72, R73) -/

theorem lowest_eq_none {l : List (Nat × Aim)} : lowest l = none ↔ l = [] := by
  cases l with
  | nil => simp [lowest]
  | cons x xs =>
    simp only [lowest]
    split
    · split <;> simp
    · simp

/-- R73: the lowest member comes before its equals. -/
theorem lowest_eq_some {l : List (Nat × Aim)} {x : Nat × Aim} (h : lowest l = some x) :
    ∃ before after, l = before ++ x :: after ∧ (∀ b ∈ before, x.1 < b.1) ∧ ∀ b ∈ after, x.1 ≤ b.1 := by
  induction l generalizing x with
  | nil => cases h
  | cons y ys ih =>
    rw [lowest] at h
    cases rest : lowest ys with
    | none =>
      rw [rest] at h
      obtain rfl : y = x := Option.some.inj h
      exact ⟨[], ys, rfl, by simp, by simp [lowest_eq_none.mp rest]⟩
    | some w =>
      rw [rest] at h
      obtain ⟨before, after, hys, lower, low⟩ := ih rest
      simp only at h
      split at h
      · rename_i less
        obtain rfl : w = x := Option.some.inj h
        refine ⟨y :: before, after, by simp [hys], fun b hb => ?_, low⟩
        rcases List.mem_cons.mp hb with rfl | hb
        · exact less
        · exact lower b hb
      · rename_i less
        obtain rfl : y = x := Option.some.inj h
        refine ⟨[], ys, rfl, by simp, fun b hb => ?_⟩
        rw [hys, List.mem_append, List.mem_cons] at hb
        rcases hb with hb | rfl | hb
        · exact (not_lt.mp less).trans (lower b hb).le
        · exact not_lt.mp less
        · exact (not_lt.mp less).trans (low b hb)

theorem contribution_eq_some {es : List MapEntry} {c : Nat × Option Nat} {mu : Nat} {a : Aim}
    (h : contribution es c = some (mu, a)) : c = (a.routeCell, some a.mapCell) ∧
      ∃ e ∈ es, e.cell = a.mapCell ∧ effectiveMu e = some mu := by
  unfold contribution at h
  obtain ⟨cell, map⟩ := c
  cases map with
  | none => cases h
  | some m =>
    simp only at h
    split at h
    · cases h
    · rename_i e found
      obtain ⟨n, hn, hna⟩ := Option.map_eq_some_iff.mp h
      obtain ⟨rfl, rfl⟩ := Prod.mk.inj hna
      exact ⟨rfl, e, List.mem_of_find?_eq_some found, by simpa using List.find?_some found, hn⟩

theorem lookAhead_eq_none (s : Station) (p d : Nat) :
    lookAhead s p d = none ↔ ∀ c ∈ stretch s p d, contribution s.map.entries c = none := by
  rw [lookAhead, lowest_eq_none, List.filterMap_eq_nil_iff]

/-- R73: the answer is the first of the lowest over the stretch. -/
theorem lookAhead_eq_some {s : Station} {p d mu : Nat} {a : Aim} (h : lookAhead s p d = some (mu, a)) :
    ∃ before c after, stretch s p d = before ++ c :: after ∧ c = (a.routeCell, some a.mapCell) ∧
      (∃ e ∈ s.map.entries, e.cell = a.mapCell ∧ effectiveMu e = some mu) ∧
      (∀ b n, b ∈ before → contribution s.map.entries b = some n → mu < n.1) ∧
      ∀ b n, b ∈ after → contribution s.map.entries b = some n → mu ≤ n.1 := by
  obtain ⟨before', after', split', lower, low⟩ := lowest_eq_some h
  obtain ⟨before, rest, hstretch, hbefore, hrest⟩ := List.filterMap_eq_append_iff.mp split'
  obtain ⟨skipped, c, after, hrest', hskipped, hc, hafter⟩ := List.filterMap_eq_cons_iff.mp hrest
  obtain ⟨cell, entry⟩ := contribution_eq_some hc
  refine ⟨before ++ skipped, c, after, by rw [hstretch, hrest', List.append_assoc], cell, entry, fun b n hb hn => ?_,
    fun b n hb hn => low n (hafter ▸ List.mem_filterMap.mpr ⟨b, hb, hn⟩)⟩
  rcases List.mem_append.mp hb with hb | hb
  · exact lower n (hbefore ▸ List.mem_filterMap.mpr ⟨b, hb, hn⟩)
  · rw [hskipped b hb] at hn; cases hn

/-! ## Stretches (R59, R60, R73) -/

theorem stretch_lost {s : Station} (h : s.pos.state = .lost) (p d : Nat) : stretch s p d = [] := by
  simp [stretch, h]

theorem stretch_known {s : Station} (h : s.pos.state ≠ .lost) (p d : Nat) : stretch s p d =
    (cellsFrom s.pos.sense (routeCell p) (match s.pos.sense with
      | .up => routeCell (aheadOf s.pos.sense p d) + 1 - routeCell p
      | .down => routeCell p + 1 - routeCell (aheadOf s.pos.sense p d))).map (cellOfRoute s.figs) := by
  unfold stretch
  cases hs : s.pos.state with
  | lost => exact absurd hs h
  | valid | deadReckoning => rfl

theorem cellsFrom_up (c n : Nat) : cellsFrom .up c n = List.range' c n := (List.range'_eq_map_range ..).symm

theorem cellsFrom_down {c n : Nat} (h : n ≤ c + 1) : cellsFrom .down c n = (List.range' (c + 1 - n) n).reverse := by
  refine List.ext_getElem (by simp [cellsFrom]) fun i hi _ => ?_
  simp only [cellsFrom, List.length_map, List.length_range] at hi
  simp only [cellsFrom, List.getElem_map, List.getElem_range, List.getElem_reverse, List.getElem_range', List.length_range']
  omega

theorem stretch_up {s : Station} (h : s.pos.state ≠ .lost) (up : s.pos.sense = .up) {p d : Nat} (hp : p + d ≤ 100000000) :
    (stretch s p d).map (·.1) = List.range' (p / 5000) ((p + d) / 5000 + 1 - p / 5000) := by
  have ahead : aheadOf .up p d = p + d := by
    simp only [aheadOf, clampPosition_eq]; omega
  rw [stretch_known h, up, List.map_map, cellsFrom_up, ahead]
  exact List.map_id _

theorem stretch_down {s : Station} (h : s.pos.state ≠ .lost) (down : s.pos.sense = .down) {p d : Nat} (hd : d ≤ p)
    (hp : p ≤ 100000000) :
    (stretch s p d).map (·.1) = (List.range' ((p - d) / 5000) (p / 5000 + 1 - (p - d) / 5000)).reverse := by
  have ahead : aheadOf .down p d = p - d := by
    simp only [aheadOf, clampPosition_eq]; omega
  have start : p / 5000 + 1 - (p / 5000 + 1 - (p - d) / 5000) = (p - d) / 5000 := by omega
  rw [stretch_known h, down, List.map_map, ahead]
  simp only [routeCell]
  rw [cellsFrom_down (by omega), start]
  exact List.map_id _

theorem stretch_governed {s : Station} {p d : Nat} {c : Nat × Option Nat} (hc : c ∈ stretch s p d) :
    ∃ a : Attrs, a.position = c.1 * 5000 ∧ Governed s.figs .up a ∧ c.2 = a.mapCell := by
  by_cases lost : s.pos.state = .lost
  · rw [stretch_lost lost] at hc; cases hc
  · rw [stretch_known lost] at hc
    obtain ⟨cell, -, rfl⟩ := List.mem_map.mp hc
    exact ⟨attrsAt s.figs .valid .up (cell * 5000), attrsAt_position _ _ _ _, governed_attrsAt _ _ _, rfl⟩

/-- The query reads the position, the figures and the map alone. -/
theorem lookAhead_congr {s t : Station} (pos : t.pos = s.pos) (figs : t.figs = s.figs) (map : t.map = s.map) (p d : Nat) :
    lookAhead t p d = lookAhead s p d := by
  unfold lookAhead stretch
  rw [pos, figs, map]

theorem queriedLimit_none {s : Station} (h : s.pos.state = .lost ∨ s.creepDir = .rest ∨
    lookAhead s s.pos.attrLeading.position s.figs.lookAhead = none) (x : Axle) : queriedLimit s x = none := by
  unfold queriedLimit
  split
  · rfl
  · rename_i none'
    rcases h with h | h | h
    · exact absurd (.inl h) none'
    · exact absurd (.inr h) none'
    · rw [h]; rfl

theorem queriedLimit_some {s : Station} {mu : Nat} {a : Aim} (lost : s.pos.state ≠ .lost) (rest : s.creepDir ≠ .rest)
    (h : lookAhead s s.pos.attrLeading.position s.figs.lookAhead = some (mu, a)) (x : Axle) :
    queriedLimit s x = some (preLimitOf mu (axleWeight s x)) := by
  rw [queriedLimit, if_neg (not_or.mpr ⟨lost, rest⟩), h]; rfl

end Sys2Proof.Machine

open Sys2Proof Sys2Proof.Machine

/-- Settles O19: the answer is the first of the lowest over the stretch, and a sample's pre-limits are formed from it before the
state machines, which do not write them. -/
theorem effectiveMuAndLookAhead : Obligations.EffectiveMuAndLookAhead := by
  refine ⟨fun e p hp hs => by simp [effectiveMu, hp, hs], fun e p m hp hs => by simp [effectiveMu, hp, hs],
    fun e hp => by simp [effectiveMu, hp], lookAhead_eq_none, fun z p d mu a h => lookAhead_eq_some h,
    fun z p d h => stretch_lost h p d,
    fun z p d h => ⟨fun up hp => stretch_up h up hp, fun down hd hp => stretch_down h down hd hp, fun c hc => stretch_governed hc⟩,
    fun q z hz => ⟨speedSample z, actRunning_running speedSample ⟨q, z⟩ hz, fun lost x => ?_, fun answer hanswer known moving => ?_⟩⟩
  · rw [(speedSample_carried z x).1]
    exact queriedLimit_none (.inl (by rw [← lost, speedSample_pos])) x
  · have pos := speedSample_pos z
    obtain ⟨dir, -, -⟩ := speedSample_served z
    obtain ⟨map, figs, link, -, -⟩ := held_unread z
    have figs' := speedSample_figs z
    have limits (x : Axle) := (speedSample_carried z x).1
    generalize held z = u at pos dir map figs link limits
    generalize speedSample z = t at hanswer pos dir figs' limits known moving ⊢
    have asked : lookAhead { u with creepDir := sampleDir u } u.pos.attrLeading.position u.figs.lookAhead = answer :=
      (lookAhead_congr (s := { t with map := z.map }) (t := { u with creepDir := sampleDir u }) pos.symm
        (figs.trans figs'.symm) map _ _).trans (by rw [hanswer, pos, figs])
    rw [pos] at known
    rw [dir] at moving
    refine ⟨fun h x => ?_, fun mu a h x => ?_⟩
    · rw [limits x]
      exact queriedLimit_none (.inr (.inr (asked.trans h))) x
    · rw [limits x, queriedLimit_some (by exact known) (by exact moving) (asked.trans h), ← link]
      rfl

end

section
/-! SUPPORT. Bit fields and bytes in sequence (R158, R171): what a field or a byte group of a concatenation reads. -/

namespace Sys2Proof.Machine

/-! ## Bit fields -/

@[simp] theorem length_natToBits (w n : Nat) : (natToBits w n).length = w := by
  induction w with
  | zero => rfl
  | succ w ih => simp [natToBits, ih]

theorem bitsToNat_foldl (bits : List Bool) (m : Nat) :
    bits.foldl (fun n b => 2 * n + b.toNat) m = m * 2 ^ bits.length + bitsToNat bits := by
  unfold bitsToNat
  induction bits generalizing m with
  | nil => simp
  | cons b bits ih =>
    rw [List.foldl_cons, List.foldl_cons, ih, ih (2 * 0 + b.toNat), List.length_cons, pow_succ]
    ring

theorem bitsToNat_cons (b : Bool) (bits : List Bool) : bitsToNat (b :: bits) = b.toNat * 2 ^ bits.length + bitsToNat bits := by
  have h := bitsToNat_foldl bits (2 * 0 + b.toNat)
  simpa [bitsToNat] using h

/-- The bits of a number spell it, as far as they reach. -/
theorem bitsToNat_natToBits (w n : Nat) : bitsToNat (natToBits w n) = n % 2 ^ w := by
  induction w with
  | zero => simp [natToBits, bitsToNat, Nat.mod_one]
  | succ w ih =>
    rw [natToBits, bitsToNat_cons, ih, length_natToBits, Nat.toNat_testBit, pow_succ, Nat.mod_mul (x := n) (a := 2 ^ w) (b := 2)]
    ring

theorem field_front (w n : Nat) (rest : List Bool) : field (natToBits w n ++ rest) 0 w = n % 2 ^ w := by
  have taken : (natToBits w n ++ rest).take w = natToBits w n := by
    exact List.take_left' (length_natToBits w n)
  rw [field, List.drop_zero, taken, bitsToNat_natToBits]

theorem field_only (w n : Nat) : field (natToBits w n) 0 w = n % 2 ^ w := by
  have h := field_front w n []
  rwa [List.append_nil] at h

theorem drop_bits {k i n : Nat} (h : k ≤ i) (rest : List Bool) : (natToBits k n ++ rest).drop i = rest.drop (i - k) := by
  rw [List.drop_append, List.drop_of_length_le (by simpa using h)]
  simp

theorem drop_flag {i : Nat} (h : 1 ≤ i) (b : Bool) (rest : List Bool) : (b :: rest).drop i = rest.drop (i - 1) := by
  obtain ⟨i, rfl⟩ : ∃ j, i = j + 1 := ⟨i - 1, by omega⟩
  rfl

theorem field_bits {k i n w : Nat} (h : k ≤ i) (rest : List Bool) : field (natToBits k n ++ rest) i w = field rest (i - k) w := by
  rw [field, drop_bits h]; rfl

theorem field_flag {i w : Nat} (h : 1 ≤ i) (b : Bool) (rest : List Bool) : field (b :: rest) i w = field rest (i - 1) w := by
  rw [field, drop_flag h]; rfl

theorem flagAt_bits {k i n : Nat} (h : k ≤ i) (rest : List Bool) : flagAt (natToBits k n ++ rest) i = flagAt rest (i - k) := by
  have past : (natToBits k n).length ≤ i := by simpa using h
  rw [flagAt, List.getD_append_right _ _ _ _ past, length_natToBits]; rfl

theorem flagAt_flag {i : Nat} (h : 1 ≤ i) (b : Bool) (rest : List Bool) : flagAt (b :: rest) i = flagAt rest (i - 1) := by
  obtain ⟨i, rfl⟩ : ∃ j, i = j + 1 := ⟨i - 1, by omega⟩
  rfl

theorem flagAt_front (b : Bool) (rest : List Bool) : flagAt (b :: rest) 0 = b := rfl

/-! ## Two's complement -/

theorem ofSigned_lt (w : Nat) (v : Int) : ofSigned w v < 2 ^ w := by
  have pos : (0 : Int) < ((2 ^ w : Nat) : Int) := by positivity
  have low := Int.emod_nonneg v pos.ne'
  have high := Int.emod_lt_of_pos v pos
  unfold ofSigned
  omega

theorem asSigned_ofSigned {w : Nat} {v : Int} (hw : 0 < w) (low : -(2 ^ (w - 1)) ≤ v) (high : v < 2 ^ (w - 1)) :
    asSigned w (ofSigned w v) = v := by
  obtain ⟨k, rfl⟩ : ∃ k, w = k + 1 := ⟨w - 1, by omega⟩
  simp only [Nat.add_sub_cancel] at low high
  have double : ((2 ^ (k + 1) : Nat) : Int) = 2 * 2 ^ k := by push_cast; ring
  have double' : (2 : Nat) ^ (k + 1) = 2 * 2 ^ k := by ring
  have cast : ((2 ^ k : Nat) : Int) = 2 ^ k := by push_cast; rfl
  have double'' : (2 : Int) ^ (k + 1) = 2 * 2 ^ k := by ring
  unfold asSigned ofSigned
  rw [double, double', double'']
  rcases le_or_gt 0 v with sign | sign
  · rw [Int.emod_eq_of_lt sign (by omega), if_pos (by omega)]
    omega
  · have wrap : v % (2 * 2 ^ k) = v + 2 * 2 ^ k := by
      rw [← Int.add_emod_right, Int.emod_eq_of_lt (by omega) (by omega)]
    rw [wrap, if_neg (by omega)]
    omega

/-! ## Bytes -/

@[simp] theorem length_natToBytes (k n : Nat) : (natToBytes k n).length = k := by
  induction k with
  | zero => rfl
  | succ k ih => simp [natToBytes, ih]

theorem bytesToNat_foldl (bytes : List Byte) (m : Nat) :
    bytes.foldl (fun n b => 256 * n + b.toNat) m = m * 256 ^ bytes.length + bytesToNat bytes := by
  unfold bytesToNat
  induction bytes generalizing m with
  | nil => simp
  | cons b bytes ih =>
    rw [List.foldl_cons, List.foldl_cons, ih, ih (256 * 0 + b.toNat), List.length_cons, pow_succ]
    ring

theorem bytesToNat_cons (b : Byte) (bytes : List Byte) :
    bytesToNat (b :: bytes) = b.toNat * 256 ^ bytes.length + bytesToNat bytes := by
  have h := bytesToNat_foldl bytes (256 * 0 + b.toNat)
  simpa [bytesToNat] using h

theorem bytesToNat_natToBytes (k n : Nat) : bytesToNat (natToBytes k n) = n % 256 ^ k := by
  induction k with
  | zero => simp [natToBytes, bytesToNat, Nat.mod_one]
  | succ k ih =>
    rw [natToBytes, bytesToNat_cons, ih, length_natToBytes, BitVec.toNat_ofNat, pow_succ 256 k,
      Nat.mod_mul (x := n) (a := 256 ^ k) (b := 256)]
    ring

theorem bytesAt_front (k n : Nat) (rest : List Byte) : bytesAt (natToBytes k n ++ rest) 0 k = n % 256 ^ k := by
  have taken : (natToBytes k n ++ rest).take k = natToBytes k n := by
    exact List.take_left' (length_natToBytes k n)
  rw [bytesAt, List.drop_zero, taken, bytesToNat_natToBytes]

theorem bytesAt_past {l rest : List Byte} {k i c : Nat} (hl : l.length = k) (h : k ≤ i) :
    bytesAt (l ++ rest) i c = bytesAt rest (i - k) c := by
  rw [bytesAt, List.drop_append, List.drop_of_length_le (by omega), hl]; rfl

theorem bytesAt_bytes {k i n c : Nat} (h : k ≤ i) (rest : List Byte) :
    bytesAt (natToBytes k n ++ rest) i c = bytesAt rest (i - k) c := bytesAt_past (length_natToBytes k n) h

theorem bytesAt_byte {i c : Nat} (h : 1 ≤ i) (b : Byte) (rest : List Byte) : bytesAt (b :: rest) i c = bytesAt rest (i - 1) c :=
  bytesAt_past (l := [b]) rfl h

theorem messageOk_withSum (n : Nat) (b : List Byte) (h : b.length + 1 = n) : messageOk n (withSum b) = true := by
  simp [messageOk, withSum, h]

/-! ## Codes and scaled figures -/

theorem servedOf_code (m : ServedMode) : servedOf (servedCode m % 2 ^ 3) = some m := by cases m <;> rfl

theorem holdOf_code (h : HoldState) : holdOf (holdCode h % 2 ^ 2) = h := by cases h <;> rfl

theorem creepOf_code (c : CreepState) : creepOf (creepCode c % 2 ^ 3) = some c := by cases c <;> rfl

theorem sanderOf_code (d : SanderState) : sanderOf (sanderCode d % 2 ^ 3) = some d := by cases d <;> rfl

theorem obsKindOf_code (k : ObsKind) : obsKindOf (obsKindCode k % 2 ^ 2) = some k := by cases k <;> rfl

/-- A figure at whole steps of its unit comes back from the field that carries it. -/
theorem scaled_back {unit width v : Nat} (step : v % unit = 0) (h : v ≤ unit * (2 ^ width - 1)) :
    unit * (v / unit % 2 ^ width) = v := by
  have whole := Nat.div_add_mod v unit
  have fits : v / unit < 2 ^ width := by
    have pos : 0 < 2 ^ width := by positivity
    have := Nat.div_le_of_le_mul h
    omega
  rw [Nat.mod_eq_of_lt fits]
  omega

theorem asSigned_field {w : Nat} {v : Int} (hw : 0 < w) (low : -(2 ^ (w - 1)) ≤ v) (high : v < 2 ^ (w - 1)) :
    asSigned w (ofSigned w v % 2 ^ w) = v := by
  rw [Nat.mod_eq_of_lt (ofSigned_lt w v), asSigned_ofSigned hw low high]

theorem mapCellOf_back {m : Option Nat} (h : ∀ n, m = some n → n ≤ 32766) : mapCellOf (m.getD 32767 % 2 ^ 15) = m := by
  cases m with
  | none => rfl
  | some n =>
    have fits := h n rfl
    rw [Option.getD_some, Nat.mod_eq_of_lt (by omega), mapCellOf, if_neg (by omega)]

/-! ## STATUS (R158) -/

theorem length_encodeTake (t : TakeEntry) : (encodeTake t).length = 32 := by simp [encodeTake]

theorem decodeTake_encodeTake {t : TakeEntry} (hp : t.peer ≤ 7) (hg : t.generation ≤ 255) (ha : t.amount ≤ 2097151) :
    decodeTake (encodeTake t) = t := by
  simp only [decodeTake, encodeTake, List.append_assoc, field_front, field_bits, field_only, Nat.reduceLeDiff, Nat.reduceSub,
    Nat.reducePow]
  rw [Nat.mod_eq_of_lt (by omega), Nat.mod_eq_of_lt (by omega), Nat.mod_eq_of_lt (by omega)]

theorem decodeTakes_encodeTakes {l : List TakeEntry} (h : ∀ t ∈ l, t.peer ≤ 7 ∧ t.generation ≤ 255 ∧ t.amount ≤ 2097151) :
    decodeTakes l.length (l.flatMap encodeTake) = l := by
  induction l with
  | nil => rfl
  | cons t l ih =>
    obtain ⟨hp, hg, ha⟩ := h t (by simp)
    rw [List.flatMap_cons, List.length_cons, decodeTakes, List.take_left' (length_encodeTake t),
      List.drop_left' (length_encodeTake t), decodeTake_encodeTake hp hg ha, ih fun u hu => h u (by simp [hu])]

theorem length_encodeTakes (l : List TakeEntry) : (l.flatMap encodeTake).length = 32 * l.length := by
  induction l with
  | nil => rfl
  | cons t l ih => rw [List.flatMap_cons, List.length_append, length_encodeTake, ih, List.length_cons]; ring

/-- The bits of pieces one after another, each a width with a number. -/
def bitsOf (pieces : List (Nat × Nat)) : List Bool := pieces.flatMap fun p => natToBits p.1 p.2

theorem length_bitsOf (pieces : List (Nat × Nat)) : (bitsOf pieces).length = (pieces.map (·.1)).sum := by
  simp [bitsOf, List.length_flatMap]

/-- The bits from a piece on, the pieces before it passed over. -/
theorem drop_bitsOf {pieces : List (Nat × Nat)} {k w n first : Nat} (hk : pieces[k]? = some (w, n))
    (hf : ((pieces.take k).map (·.1)).sum = first) (rest : List Bool) :
    ∃ more, (bitsOf pieces ++ rest).drop first = natToBits w n ++ more := by
  obtain ⟨hlt, hget⟩ := List.getElem?_eq_some_iff.mp hk
  have parts : pieces = pieces.take k ++ (w, n) :: pieces.drop (k + 1) := by
    rw [← hget, ← List.drop_eq_getElem_cons hlt, List.take_append_drop]
  have length : (bitsOf (pieces.take k)).length = first := (length_bitsOf _).trans hf
  refine ⟨bitsOf (pieces.drop (k + 1)) ++ rest, ?_⟩
  calc (bitsOf pieces ++ rest).drop first
      = (bitsOf (pieces.take k) ++ (natToBits w n ++ (bitsOf (pieces.drop (k + 1)) ++ rest))).drop first := by
        conv_lhs => rw [parts]
        simp [bitsOf, List.append_assoc]
    _ = _ := List.drop_left' length

theorem field_bitsOf {pieces : List (Nat × Nat)} {k w n first : Nat} (hk : pieces[k]? = some (w, n))
    (hf : ((pieces.take k).map (·.1)).sum = first) (rest : List Bool) : field (bitsOf pieces ++ rest) first w = n % 2 ^ w := by
  obtain ⟨more, h⟩ := drop_bitsOf hk hf rest
  have front := field_front w n more
  rw [field, List.drop_zero] at front
  rw [field, h, front]

theorem flagAt_bitsOf {pieces : List (Nat × Nat)} {k first : Nat} {b : Bool} (hk : pieces[k]? = some (1, b.toNat))
    (hf : ((pieces.take k).map (·.1)).sum = first) (rest : List Bool) : flagAt (bitsOf pieces ++ rest) first = b := by
  obtain ⟨more, h⟩ := drop_bitsOf hk hf rest
  have flag : (bitsOf pieces ++ rest)[first]? = some b := by
    rw [← List.head?_drop, h]
    cases b <;> rfl
  rw [flagAt, List.getD_eq_getElem?_getD, flag]; rfl

/-- The 224 bits of a STATUS before its take entries. -/
def statusPieces (c : StatusContent) : List (Nat × Nat) :=
  [(1, c.parked.toNat), (3, servedCode c.served), (2, holdCode c.hold), (1, c.rollback.toNat), (1, c.short.toNat),
   (16, ofSigned 16 c.forward.a), (16, ofSigned 16 c.forward.b), (3, creepCode c.creep.a), (1, c.candidate.a.toNat),
   (3, creepCode c.creep.b), (1, c.candidate.b.toNat), (11, c.mass / 20), (16, c.nominal / 2), (17, c.balance),
   (17, c.covered), (8, c.generation), (13, c.capability / 25), (11, c.achieved / 50), (11, c.need / 50),
   (15, c.mapCell.getD 32767), (2, c.clearKind), (8, c.clearId), (4, c.faultCount), (1, c.overflow.toNat), (4, c.oldestKind),
   (3, sanderCode c.sanders.a), (3, sanderCode c.sanders.b), (16, c.boxes.a), (16, c.boxes.b)]

theorem natToBits_flag (b : Bool) : natToBits 1 b.toNat = [b] := by cases b <;> rfl

theorem encodeStatus_pieces (c : StatusContent) : encodeStatus c = bitsOf (statusPieces c) ++ c.takes.flatMap encodeTake := by
  have flags := natToBits_flag
  unfold encodeStatus statusPieces bitsOf
  generalize natToBits = bits at flags ⊢
  simp only [List.flatMap_cons, List.flatMap_nil, flags, List.append_assoc, List.append_nil, List.cons_append, List.nil_append]

/-- The widths of the fields of a STATUS before its take entries. -/
def statusWidths : List Nat :=
  [1, 3, 2, 1, 1, 16, 16, 3, 1, 3, 1, 11, 16, 17, 17, 8, 13, 11, 11, 15, 2, 8, 4, 1, 4, 3, 3, 16, 16]

theorem statusPieces_widths (c : StatusContent) (k : Nat) :
    ((statusPieces c).take k).map (·.1) = statusWidths.take k := by rw [List.map_take]; rfl

theorem length_statusPieces (c : StatusContent) : (bitsOf (statusPieces c)).length = 224 := by
  rw [length_bitsOf]; simp [statusPieces]

theorem length_encodeStatus (c : StatusContent) : (encodeStatus c).length = 8 * (28 + 4 * c.takes.length) := by
  rw [encodeStatus_pieces, List.length_append, length_statusPieces, length_encodeTakes]
  ring

theorem decodeStatus_encodeStatus {c : StatusContent} (h : StatusFits c) : decodeStatus c.takes.length (encodeStatus c) = some c := by
  obtain ⟨fal, fah, fbl, fbh, massStep, mass, nominalStep, nominal, balance, covered, generation, capStep, cap, achievedStep,
    achieved, needStep, need, cell, clearKind, clearId, count, oldest, boxA, boxB, -, takes⟩ := h
  rw [encodeStatus_pieces]
  have read {k w n first : Nat} (hk : (statusPieces c)[k]? = some (w, n)) (hf : (statusWidths.take k).sum = first) :
      field (bitsOf (statusPieces c) ++ c.takes.flatMap encodeTake) first w = n % 2 ^ w :=
    field_bitsOf hk (by rw [statusPieces_widths, hf]) _
  have flag {k first : Nat} {b : Bool} (hk : (statusPieces c)[k]? = some (1, b.toNat)) (hf : (statusWidths.take k).sum = first) :
      flagAt (bitsOf (statusPieces c) ++ c.takes.flatMap encodeTake) first = b :=
    flagAt_bitsOf hk (by rw [statusPieces_widths, hf]) _
  have entries : (bitsOf (statusPieces c) ++ c.takes.flatMap encodeTake).drop 224 = c.takes.flatMap encodeTake :=
    List.drop_left' (length_statusPieces c)
  simp only [decodeStatus, entries, decodeTakes_encodeTakes takes, servedOf_code, creepOf_code, sanderOf_code, holdOf_code,
    flag (k := 0) (first := 0) rfl (by decide), flag (k := 3) (first := 6) rfl (by decide), flag (k := 4) (first := 7) rfl (by decide), flag (k :=
    8) (first := 43) rfl (by decide), flag (k := 10) (first := 47) rfl (by decide), flag (k := 23) (first := 181) rfl (by decide), read (k := 1)
    (first := 1) rfl (by decide), read (k := 2) (first := 4) rfl (by decide), read (k := 5) (first := 8) rfl (by decide), read (k := 6) (first :=
    24) rfl (by decide), read (k := 7) (first := 40) rfl (by decide), read (k := 9) (first := 44) rfl (by decide), read (k := 11) (first := 48)
    rfl (by decide), read (k := 12) (first := 59) rfl (by decide), read (k := 13) (first := 75) rfl (by decide), read (k := 14) (first := 92) rfl
    rfl, read (k := 15) (first := 109) rfl (by decide), read (k := 16) (first := 117) rfl (by decide), read (k := 17) (first := 130) rfl
    rfl, read (k := 18) (first := 141) rfl (by decide), read (k := 19) (first := 152) rfl (by decide), read (k := 20) (first := 167) rfl
    rfl, read (k := 21) (first := 169) rfl (by decide), read (k := 22) (first := 177) rfl (by decide), read (k := 24) (first := 182) rfl
    rfl, read (k := 25) (first := 186) rfl (by decide), read (k := 26) (first := 189) rfl (by decide), read (k := 27) (first := 192) rfl
    rfl, read (k := 28) (first := 208) rfl (by decide)]
  have mod {n w : Nat} (h : n ≤ 2 ^ w - 1) : n % 2 ^ w = n :=
    Nat.mod_eq_of_lt (lt_of_le_of_lt h (Nat.sub_lt (by positivity) one_pos))
  rw [asSigned_field (by decide) (by simpa using fal) (by simp; omega), asSigned_field (by decide) (by simpa using fbl) (by simp; omega),
    scaled_back massStep (by simpa using mass), scaled_back nominalStep (by simpa using nominal), mod (by simpa using balance),
    mod (by simpa using covered), mod (by simpa using generation), scaled_back capStep (by simpa using cap),
    scaled_back achievedStep (by simpa using achieved), scaled_back needStep (by simpa using need), mapCellOf_back cell,
    mod (by simpa using clearKind), mod (by simpa using clearId), mod (by simpa using count), mod (by simpa using oldest),
    mod (by simpa using boxA), mod (by simpa using boxB)]

/-! ## Reports (R171) -/

theorem healthy_byte (b : Byte) (rest : List Byte) : (bytesAt (b :: rest) 0 1 == 0) = decide (b = 0) := by
  have value : bytesAt (b :: rest) 0 1 = b.toNat := by simp [bytesAt, bytesToNat]
  rw [value, Bool.eq_iff_iff, beq_iff_eq, decide_eq_true_eq, ← BitVec.toNat_inj]
  rfl

theorem asSigned_bytes {v : Int} (low : -8388608 ≤ v) (high : v < 8388608) : asSigned 24 (ofSigned 24 v % 16777216) = v :=
  asSigned_field (w := 24) (by decide) (by simpa using low) (by simpa using high)

theorem decodeInverter_layout (health : Byte) {ea eb : Int} {ta tb ba bb : Nat} (eal : -8388608 ≤ ea) (eah : ea < 8388608)
    (ebl : -8388608 ≤ eb) (ebh : eb < 8388608) (hta : ta < 65536) (htb : tb < 65536) (hba : ba < 65536) (hbb : bb < 65536) :
    decodeInverter (withSum ([health] ++ natToBytes 3 (ofSigned 24 ea) ++ natToBytes 3 (ofSigned 24 eb) ++ natToBytes 2 ta ++
      natToBytes 2 tb ++ natToBytes 2 ba ++ natToBytes 2 bb)) =
      some ⟨decide (health = 0), ⟨ea, eb⟩, ⟨ta, tb⟩, ⟨ba, bb⟩⟩ := by
  have ok : messageOk 16 _ = true := messageOk_withSum 16 ([health] ++ natToBytes 3 (ofSigned 24 ea) ++
    natToBytes 3 (ofSigned 24 eb) ++ natToBytes 2 ta ++ natToBytes 2 tb ++ natToBytes 2 ba ++ natToBytes 2 bb) (by simp)
  rw [decodeInverter, if_pos ok]
  simp only [withSum, List.append_assoc, List.cons_append, List.nil_append, healthy_byte, bytesAt_byte, bytesAt_bytes, bytesAt_front,
    Nat.reduceLeDiff, Nat.reduceSub, le_refl, asSigned_bytes eal eah, asSigned_bytes ebl ebh, Nat.reducePow,
    Nat.mod_eq_of_lt hta, Nat.mod_eq_of_lt htb, Nat.mod_eq_of_lt hba, Nat.mod_eq_of_lt hbb]

theorem decodeBrake_layout (health : Byte) {fa fb la lb : Nat} (hfa : fa < 65536) (hfb : fb < 65536) (hla : la < 65536)
    (hlb : lb < 65536) :
    decodeBrake (withSum ([health] ++ natToBytes 2 fa ++ natToBytes 2 fb ++ natToBytes 2 la ++ natToBytes 2 lb)) =
      some ⟨decide (health = 0), ⟨fa, fb⟩, ⟨la, lb⟩⟩ := by
  have ok : messageOk 10 _ = true := messageOk_withSum 10 ([health] ++ natToBytes 2 fa ++ natToBytes 2 fb ++ natToBytes 2 la ++
    natToBytes 2 lb) (by simp)
  rw [decodeBrake, if_pos ok]
  simp only [withSum, List.append_assoc, List.cons_append, List.nil_append, healthy_byte, bytesAt_byte, bytesAt_bytes, bytesAt_front,
    Nat.reduceLeDiff, Nat.reduceSub, le_refl, Nat.reducePow, Nat.mod_eq_of_lt hfa, Nat.mod_eq_of_lt hfb, Nat.mod_eq_of_lt hla,
    Nat.mod_eq_of_lt hlb]

/-! ## Observations, clears, headers (R158) -/

theorem decodeObs_encodeObs {o : Observation} (h : ObservationFits o) (n : Nat) (now : Millis) :
    decodeObs n now (encodeObs o) = some { o with observer := .station n, time := now } := by
  obtain ⟨cell, count, mu⟩ := h
  have direction : (if o.direction == .down then Sense.down else .up) = o.direction := by cases o.direction <;> rfl
  simp only [decodeObs, encodeObs, List.append_assoc, List.cons_append, List.nil_append, field_front, field_bits, field_flag,
    field_only, flagAt_bits, flagAt_front, Nat.reduceLeDiff, Nat.reduceSub, obsKindOf_code, Option.map_some, le_refl, direction,
    Nat.mod_eq_of_lt (show o.cell < 2 ^ 15 by omega), Nat.mod_eq_of_lt (show o.count < 2 ^ 5 by omega),
    Nat.mod_eq_of_lt (show o.mu < 2 ^ 9 by omega)]

theorem length_encodeObs (o : Observation) : (encodeObs o).length = 32 := by simp [encodeObs]

theorem decodeClear_encodeClear (id : BitVec 8) {g : Granularity} (h : GranularityFits g) :
    decodeClear (encodeClear id g) = (id, g) := by
  have number : BitVec.ofNat 8 (id.toNat % 2 ^ 8) = id := by
    rw [Nat.mod_eq_of_lt id.isLt, BitVec.ofNat_toNat, BitVec.setWidth_eq]
  cases g with
  | all =>
    simp only [decodeClear, encodeClear, List.append_assoc, field_front, field_bits, field_only, Nat.reduceLeDiff, Nat.reduceSub,
      le_refl, number]
    rfl
  | window n =>
    have fits : n < 2 ^ 16 := Nat.lt_succ_of_le h
    simp only [decodeClear, encodeClear, List.append_assoc, field_front, field_bits, field_only, Nat.reduceLeDiff, Nat.reduceSub,
      le_refl, number, Nat.mod_eq_of_lt fits]
    rfl
  | cells first last =>
    obtain ⟨hf, hl⟩ := h
    simp only [decodeClear, encodeClear, List.append_assoc, field_front, field_bits, field_only, Nat.reduceLeDiff, Nat.reduceSub,
      le_refl, number, Nat.mod_eq_of_lt (show first < 2 ^ 16 by omega), Nat.mod_eq_of_lt (show last < 2 ^ 16 by omega)]
    rfl

theorem length_encodeClear (id : BitVec 8) (g : Granularity) : (encodeClear id g).length = 48 := by
  cases g <;> simp [encodeClear]

end Sys2Proof.Machine

open Sys2Proof Sys2Proof.Machine

/-- Settles O54: each field of a layout reads the number that the layout put there, as far as its bits reach. -/
theorem frameRoundTrips : Obligations.FrameRoundTrips := by
  refine ⟨fun w v hw low high => ⟨ofSigned_lt w v, asSigned_ofSigned hw low high, ?_⟩,
    fun mode code chainage end2 down valid sand spare accel hcode low high hch => ?_,
    fun health ea eb ta tb ba bb eal eah ebl ebh hta htb hba hbb => ?_, fun health fa fb la lb hfa hfb hla hlb => ?_,
    fun c h => decodeStatus_encodeStatus h, fun c _ => length_encodeStatus c,
    fun o n now h => ⟨decodeObs_encodeObs h n now, length_encodeObs o⟩,
    fun id g h => ⟨decodeClear_encodeClear id h, length_encodeClear id g⟩, fun kind sender length sequence h hk hs hl hh => ?_⟩
  · rw [field_only, Nat.mod_eq_of_lt (ofSigned_lt w v)]
  · have named : demandModeOf (code % 2 ^ 3) = some mode := by
      simp only [List.mem_cons, Prod.mk.injEq, List.not_mem_nil, or_false] at hcode
      rcases hcode with ⟨rfl, rfl⟩ | ⟨rfl, rfl⟩ | ⟨rfl, rfl⟩ | ⟨rfl, rfl⟩ | ⟨rfl, rfl⟩ <;> rfl
    simp only [decodeDemand, List.append_assoc, List.cons_append, List.nil_append, field_front, field_bits, field_flag, field_only,
      flagAt_bits, flagAt_flag, flagAt_front, Nat.reduceLeDiff, Nat.reduceSub, le_refl, named,
      Nat.mod_eq_of_lt (show chainage < 2 ^ 24 by omega),
      asSigned_field (w := 16) (v := accel) (by decide) (by simpa using low) (by simp; omega)]
  · exact decodeInverter_layout health eal eah ebl ebh hta htb hba hbb
  · exact decodeBrake_layout health hfa hfb hla hlb
  · subst hh
    have bits : sequence.toNat < 2 ^ 8 := sequence.isLt
    simp only [headerBits, List.append_assoc, field_front, field_bits, field_only, Nat.reduceLeDiff, Nat.reduceSub, le_refl,
      List.length_append, length_natToBits, Nat.mod_eq_of_lt bits, Nat.mod_eq_of_lt (show kind < 2 ^ 2 by omega),
      Nat.mod_eq_of_lt (show sender < 2 ^ 4 by omega), Nat.mod_eq_of_lt (show length < 2 ^ 8 by omega), and_self]

end

section
/-! SUPPORT. What a speed sample leaves of the blend, make-up and store units, of the map and of the trainline port; its axle
orders (R40, R171, R172). -/

namespace Sys2Proof.Machine

/-! ## The units that a sample only evaluates -/

/-- What no evaluation, no entry to ROLLBACK and no PARKED entry writes of the blend, make-up and store units. -/
def unserved (s : Station) : (Option Governing × Bool × Nat × Nat × Nat × Nat) × MakeUp × Store :=
  ((s.blend.governing, s.blend.conflict, s.blend.mass, s.blend.nominal, s.blend.capability, s.blend.demand),
    { s.makeUp with takes := [] }, { s.store with write := none, pendingSave := false })

theorem unserved_evaluate (arrival : Bool) (s : Station) : unserved (evaluate arrival s) = unserved s := by
  obtain ⟨_, _, _, _, _, _, _, h⟩ := evaluated_frame arrival s
  obtain ⟨_, _, _, _, e⟩ := evaluate_frame arrival s
  have store : (evaluate arrival s).store = s.store := by rw [e]
  unfold unserved
  rw [evaluate_blend, evaluate_makeUp, store, h]
  rfl

theorem unserved_stillTest (s : Station) : unserved (stillTest s) = unserved s := by
  have begins (t : Station) : unserved (beginStandstill t) = unserved t := by
    obtain ⟨_, standing⟩ := stood_frame t
    obtain ⟨_, _, _, _, _, taken⟩ := takePending_frame (evaluate false (stood t))
    have kept : unserved (stood t) = unserved t := by rw [standing]; rfl
    have evaluated' : unserved (evaluate false (stood t)) = unserved t := (unserved_evaluate false _).trans kept
    rw [beginStandstill_eq, taken]
    exact evaluated'
  unfold stillTest standstillExpiry
  simp only
  split
  · split
    · exact begins _
    · rfl
  · split
    · exact unserved_evaluate false _
    · rfl

theorem unserved_rouse (s : Station) : unserved (rouse s) = unserved s := by
  obtain ⟨_, e⟩ := rouse_frame s; rw [e]; rfl

theorem unserved_enterRollback (d : FaultDetail) (s : Station) : unserved (enterRollback d s) = unserved s := by
  cases still : s.hold.standstill with
  | true =>
    have ended : unserved (endStandstill (rolledBack d s)) = unserved s := unserved_evaluate false _
    rw [enterRollback_still still, unserved_rouse]
    exact ended
  | false => rw [enterRollback_moving still, unserved_rouse]; rfl

theorem unserved_wheelWake (s : Station) : unserved (wheelWake s) = unserved s := by
  unfold wheelWake
  split
  · exact unserved_enterRollback _ _
  · rfl

theorem unserved_rollbackTest (s : Station) : unserved (rollbackTest s) = unserved s := by
  have expiry (t : Station) : unserved (rollbackExpiry t) = unserved t := by
    unfold rollbackExpiry
    split
    · exact unserved_enterRollback _ _
    · rfl
  have peer (t : Station) : unserved (peerRollback t) = unserved t := by
    unfold peerRollback
    split
    · split
      · exact unserved_enterRollback _ _
      · rfl
    · rfl
  unfold rollbackTest
  simp only
  rw [peer, expiry]
  rfl

theorem unserved_parkTest (s : Station) : unserved (parkTest s) = unserved s := by
  have enters (t : Station) : unserved (enterParked t) = unserved t := by
    unfold enterParked requestSave
    cases t.store.write <;> rfl
  unfold parkTest parkExpiry
  simp only
  split
  · exact enters _
  · rfl

/-- R141: the hold unit's part of a sample evaluates the blend unit and may ask for a save. -/
theorem unserved_holdSample (s : Station) : unserved (holdSample s) = unserved s := by
  have forward (t : Station) : unserved (releaseForward t) = unserved t := by
    obtain ⟨_, _, e⟩ := releaseForward_frame t; rw [e]; rfl
  have level (b : Bool) (t : Station) : unserved (levelStart b t) = unserved t := by
    obtain ⟨_, e⟩ := levelStart_frame b t; rw [e]; rfl
  have hill (t : Station) : unserved (hillSample t) = unserved t := by
    obtain ⟨_, e⟩ := hillSample_frame t; rw [e]; rfl
  have publish (t : Station) : unserved (holdPublish t) = unserved t := rfl
  unfold holdSample
  simp only [publish, unserved_parkTest, hill, level, forward, unserved_rollbackTest, unserved_wheelWake, unserved_stillTest]

theorem unserved_held (s : Station) : unserved (held s) = unserved s := by
  obtain ⟨_, _, _, _, e⟩ := positionSample_frame (learned s)
  obtain ⟨_, _, _, _, e'⟩ := learned_frame s
  rw [held, unserved_holdSample, e, e']
  rfl

/-! ## The map and the port -/

/-- What an own observation does not write of the map and of the port. -/
def unobserved (s : Station) : RailMap × Port :=
  ({ s.map with entries := [], outbox := [] }, { s.port with seqRail := 0, railSlot := none })

theorem unobserved_observe (k : ObsKind) (cell : Option Nat) (mu : Nat) (s : Station) :
    unobserved (observe k cell mu s) = unobserved s := by
  cases cell with
  | none => rfl
  | some c => rw [observe, buildRail_self]; rfl

theorem unobserved_enterSlipping (x : Axle) (s : Station) : unobserved (enterSlipping x s) = unobserved s := by
  have peak (n : Nat) (t : Station) : unobserved (peakObservation n x t) = unobserved t := by
    unfold peakObservation
    split
    · exact unobserved_observe _ _ _ _
    · rfl
  have joins (n : Nat) (t : Station) : unobserved (joinReslips n x t) = unobserved t := by
    obtain ⟨_, _, e⟩ := joinReslips_frame n x t; rw [e]; rfl
  have request (t : Station) : unobserved (slipRequest t) = unobserved t := rfl
  have record (t : Station) (c : AxleCreep) : unobserved (setCreep t x c) = unobserved t := rfl
  unfold enterSlipping
  simp only [joins, request, peak, record]

theorem unobserved_runTests (x : Axle) (s : Station) : unobserved (runTests x s) = unobserved s := by
  have locked (t : Station) : unobserved (lockedRule x t) = unobserved t := by
    obtain ⟨_, _, _, e⟩ := lockedRule_frame x t; rw [e]; rfl
  have slipping (t : Station) : unobserved (slippingRule x t) = unobserved t := by
    obtain ⟨_, _, e⟩ := slippingRule_frame x t; rw [e]; rfl
  have locks (t : Station) : unobserved (lockExpiry x t) = unobserved t := by
    obtain ⟨_, e⟩ := lockExpiry_frame x t; rw [e]; rfl
  have recovering (t : Station) : unobserved (recoveringRule x t) = unobserved t := by
    unfold recoveringRule
    split
    · exact unobserved_enterSlipping x t
    · obtain ⟨_, e⟩ := recoveryHoldExpiry_frame x t; rw [e]; rfl
  unfold runTests
  simp only
  split
  · rw [locked, locks]
  · split
    · rw [slipping, unobserved_enterSlipping]
    · unfold ownRule
      split
      · obtain ⟨_, e⟩ := adheringRule_frame x s; rw [e]; rfl
      · obtain ⟨_, e⟩ := regulatingRule_frame x s; rw [e]; rfl
      · exact slipping s
      · exact recovering s
      · obtain ⟨_, e⟩ := reapplyingRule_frame x s; rw [e]; rfl
      · exact locked s

theorem unobserved_machineSample (x : Axle) (s : Station) : unobserved (machineSample x s) = unobserved s := by
  have tests : unobserved (runTests x (advanceLock x s)) = unobserved s := unobserved_runTests x (advanceLock x s)
  unfold machineSample
  simp only
  split
  · split <;> exact tests
  · rfl

theorem unobserved_runMachines (turn : Bool) (s : Station) : unobserved (runMachines turn s) = unobserved s := by
  have grow (x : Axle) (t : Station) : unobserved (growStateTime x t) = unobserved t := by
    obtain ⟨_, e⟩ := growStateTime_frame x t; rw [e]; rfl
  have redirects (x : Axle) (t : Station) : unobserved (redirect x t) = unobserved t := by
    obtain ⟨_, e⟩ := redirect_frame x t; rw [e]; rfl
  have rests (x : Axle) (t : Station) : unobserved (restSample x t) = unobserved t := by
    obtain ⟨_, e⟩ := restSample_frame x t; rw [e]; rfl
  have runs : unobserved (machineSample .b (machineSample .a (if turn then redirect .b (redirect .a (growStateTime .b
      (growStateTime .a s))) else growStateTime .b (growStateTime .a s)))) = unobserved s := by
    rw [unobserved_machineSample, unobserved_machineSample]
    split
    · rw [redirects, redirects, grow, grow]
    · rw [grow, grow]
  unfold runMachines
  split
  · rw [rests, rests]
  all_goals exact runs

theorem unobserved_turnCell (s : Station) : unobserved (turnCell s) = unobserved s := by
  have closes (r : CellRec) (t : Station) : unobserved (closeCell r t) = unobserved t := by
    unfold closeCell
    simp only
    split
    · exact unobserved_observe _ _ _ _
    · rfl
  unfold turnCell
  simp only
  split
  · rfl
  · split
    · rfl
    · split
      · exact closes _ s
      · rfl

theorem unobserved_celled (seeded : Bool) (s : Station) : unobserved (celled seeded s) = unobserved s := by
  have cell (b : Bool) (n : Nat) (t : Station) : unobserved (sampleCell b n t) = unobserved t := by
    obtain ⟨_, e⟩ := sampleCell_frame b n t; rw [e]; rfl
  have follow (t : Station) : unobserved (followPartners t) = unobserved t := by
    obtain ⟨_, e⟩ := followPartners_frame t; rw [e]; rfl
  rw [celled, cell, unobserved_turnCell, machined, follow, unobserved_runMachines, entered_eq]
  rfl

theorem unobserved_held (s : Station) : unobserved (held s) = unobserved s := by
  obtain ⟨_, _, _, _, _, _, _, _, _, _, _, _, _, e⟩ := held_frame s
  rw [e]; rfl

theorem unobserved_ordered (s : Station) : unobserved (ordered s) = unobserved s := by
  obtain ⟨-, -, -, -, map, port⟩ := ordered_unread s
  rw [unobserved, unobserved, map, port]

theorem map_of_unobserved {s t : Station} (h : unobserved t = unobserved s) : t.map = { s.map with
    entries := t.map.entries, outbox := t.map.outbox } := by
  have map := (Prod.mk.inj h).1
  generalize t.map = m at map ⊢
  cases m
  cases hs : s.map
  rw [hs] at map
  simpa using map

theorem port_of_unobserved {s t : Station} (h : unobserved t = unobserved s) : t.port = { s.port with
    seqRail := t.port.seqRail, railSlot := t.port.railSlot } := by
  have port := (Prod.mk.inj h).2
  generalize t.port = p at port ⊢
  cases p
  cases hs : s.port
  rw [hs] at port
  simpa using port

/-- R5, R166: a sample reaches the map by its observations, and the port by them and by the STATUS it causes. -/
theorem speedSample_unobserved (s : Station) : (speedSample s).map = { s.map with
      entries := (speedSample s).map.entries, outbox := (speedSample s).map.outbox } ∧
    (speedSample s).port = { s.port with
      seqStatus := (speedSample s).port.seqStatus, seqRail := (speedSample s).port.seqRail
      statusSlot := (speedSample s).port.statusSlot, railSlot := (speedSample s).port.railSlot
      lastStatus := (speedSample s).port.lastStatus } := by
  have kept : unobserved (ordered (celled (seeds (measured s)) (held s))) = unobserved s := by
    rw [unobserved_ordered, unobserved_celled, unobserved_held]
  have map := map_of_unobserved kept
  have port := port_of_unobserved kept
  obtain ⟨-, -, -, -, -, map'⟩ := announced_unread (fun s => ordered (celled (seeds (measured s)) (held s))) s
  have steps := announced_cases (fun s => ordered (celled (seeds (measured s)) (held s))) s
  rw [speedSample_steps, map']
  refine ⟨map, ?_⟩
  generalize announced (fun s => ordered (celled (seeds (measured s)) (held s))) s = t at steps
  generalize ordered (celled (seeds (measured s)) (held s)) = u at steps port
  rcases steps with ⟨-, h⟩ | ⟨-, h⟩
  · rw [h]
    generalize u.port = p at port ⊢
    rw [port]
  · rw [h, buildStatus]
    simp only
    generalize u.port = p at port ⊢
    rw [port]

theorem celled_fixed (seeded : Bool) (s : Station) : (celled seeded s).plug = s.plug ∧ (celled seeded s).link = s.link ∧
    (celled seeded s).pos = s.pos ∧ unserved (celled seeded s) = unserved s := by
  obtain ⟨_, _, _, e⟩ := celled_frame seeded s
  obtain ⟨_, e2⟩ := followPartners_frame (runMachines (turns s) (entered seeded s))
  obtain ⟨_, _, _, _, _, _, e3⟩ := runMachines_frame (turns s) (entered seeded s)
  rw [e, machined, e2, e3, entered_eq]
  exact ⟨rfl, rfl, rfl, rfl⟩

theorem speedSample_unserved (s : Station) : unserved (speedSample s) = unserved s := by
  obtain ⟨_, e⟩ := announced_frame (fun s => ordered (celled (seeds (measured s)) (held s))) s
  have orders (t : Station) : unserved (ordered t) = unserved t := by rw [ordered, formOrders_eq]; rfl
  obtain ⟨-, -, -, celled'⟩ := celled_fixed (seeds (measured s)) (held s)
  have kept : unserved (ordered (celled (seeds (measured s)) (held s))) = unserved s := by
    rw [orders, celled', unserved_held]
  rw [speedSample_steps, e]
  generalize ordered (celled (seeds (measured s)) (held s)) = u at kept ⊢
  exact kept

theorem blend_of_unserved {s t : Station} (h : unserved t = unserved s) : t.blend = { t.blend with
    governing := s.blend.governing, conflict := s.blend.conflict, mass := s.blend.mass, nominal := s.blend.nominal
    capability := s.blend.capability, demand := s.blend.demand } := by
  obtain ⟨governing, conflict, mass, nominal, capability, demand⟩ : t.blend.governing = s.blend.governing ∧
      t.blend.conflict = s.blend.conflict ∧ t.blend.mass = s.blend.mass ∧ t.blend.nominal = s.blend.nominal ∧
      t.blend.capability = s.blend.capability ∧ t.blend.demand = s.blend.demand := by
    have blend := (Prod.mk.inj h).1
    simpa only [Prod.mk.injEq] using blend
  rw [← governing, ← conflict, ← mass, ← nominal, ← capability, ← demand]

theorem makeUp_of_unserved {s t : Station} (h : unserved t = unserved s) : t.makeUp = { s.makeUp with takes := t.makeUp.takes } := by
  have makeUp := (Prod.mk.inj (Prod.mk.inj h).2).1
  generalize t.makeUp = m at makeUp ⊢
  cases m
  cases hs : s.makeUp
  rw [hs] at makeUp
  simpa using makeUp

theorem store_of_unserved {s t : Station} (h : unserved t = unserved s) : t.store = { s.store with
    write := t.store.write, pendingSave := t.store.pendingSave } := by
  have store := (Prod.mk.inj (Prod.mk.inj h).2).2
  generalize t.store = m at store ⊢
  cases m
  cases hs : s.store
  rw [hs] at store
  simpa using store

/-! ## Orders (R40, R171, R172) -/

theorem cutOrder_spec (e f limit : Nat) : (cutOrder e f limit).1 + (cutOrder e f limit).2 ≤ limit ∧
    (e + f ≤ limit → (cutOrder e f limit).1 = e ∧ (cutOrder e f limit).2 = f) ∧
    (limit < e + f → (cutOrder e f limit).1 = e - (e + f - limit) ∧ (cutOrder e f limit).2 = min f limit) := by
  unfold cutOrder
  refine ⟨?_, fun h => ⟨?_, ?_⟩, fun h => ⟨?_, ?_⟩⟩ <;> simp only <;> omega

theorem orderOf_locked {s : Station} {x : Axle} (h : (pick s.creep x).state = .locked) : orderOf s x = (0, 0) := by
  simp only [orderOf, h]

theorem orderOf_cut {s : Station} {x : Axle} (h : (pick s.creep x).state ≠ .locked) :
    orderOf s x = cutOrder (demandElectric s x) (demandFriction s x) (pick s.creep x).limit := by
  unfold orderOf
  cases hs : (pick s.creep x).state with
  | locked => exact absurd hs h
  | adhering | regulating | slipping | recovering | reapplying => rfl

/-- R40: the orders after a sample, by the state and the limit that it leaves. -/
theorem speedSample_orders (s : Station) (x : Axle) :
    ((pick (speedSample s).creep x).electric, (pick (speedSample s).creep x).friction) = orderOf (speedSample s) x := by
  obtain ⟨-, hold, blend⟩ := speedSample_served s
  obtain ⟨-, hold', blend'⟩ := celled_unread (seeds (measured s)) (held s)
  have record := speedSample_creep s x
  have creep := congrArg (fun c => pick c x) (celled_creep (seeds (measured s)) (held s))
  have state : (pick (speedSample s).creep x).state = (pick (celled (seeds (measured s)) (held s)).creep x).state := by
    rw [record, ← creep]
  have limit : (pick (speedSample s).creep x).limit = (pick (celled (seeds (measured s)) (held s)).creep x).limit := by
    rw [record, ← creep]
  have same : orderOf (speedSample s) x = orderOf (celled (seeds (measured s)) (held s)) x := by
    unfold orderOf demandElectric demandFriction
    rw [state, limit, hold, blend, hold', blend']
  rw [same, record]

theorem bytesAt_only (k n : Nat) : bytesAt (natToBytes k n) 0 k = n % 256 ^ k := by
  have h := bytesAt_front k n []
  rwa [List.append_nil] at h

theorem ordered_link (s : Station) : (ordered s).link.sentBrake = brakeBytes (ordered s) ∧
    (ordered s).link.sentInverter = (match s.plug.kind with | .motor => inverterBytes (ordered s) | .trailer => s.link.sentInverter) := by
  rw [ordered, formOrders_eq]
  exact ⟨rfl, rfl⟩

theorem speedSample_link (s : Station) : (speedSample s).link.sentBrake = brakeBytes (speedSample s) ∧
    (s.plug.kind = .trailer → (speedSample s).link.sentInverter = s.link.sentInverter) ∧
    (s.plug.kind = .motor → (speedSample s).link.sentInverter = inverterBytes (speedSample s)) := by
  obtain ⟨_, e⟩ := announced_frame (fun s => ordered (celled (seeds (measured s)) (held s))) s
  obtain ⟨plug, link, -, -⟩ := celled_fixed (seeds (measured s)) (held s)
  obtain ⟨-, -, link', plug', -⟩ := held_unread s
  obtain ⟨brake, inverter⟩ := ordered_link (celled (seeds (measured s)) (held s))
  rw [plug, plug', link, link'] at inverter
  rw [speedSample_steps, e]
  generalize ordered (celled (seeds (measured s)) (held s)) = u at brake inverter
  refine ⟨brake, fun h => ?_, fun h => ?_⟩
  · rw [h] at inverter; exact inverter
  · rw [h] at inverter; exact inverter

/-- R172: the bytes of an inverter order. -/
theorem inverterOrder_bytes (e : CabEnd) (force : PerAxle Int) : ∃ b, inverterOrder e force = b ++ [byteSum b] ∧ b.length = 7 ∧
    bytesAt b 0 1 = (if e = .end1 then 0 else 1) ∧
    ∀ x, -8388608 < pick force x → pick force x < 8388608 →
      asSigned 24 (bytesAt b (match x with | .a => 1 | .b => 4) 3) = pick force x := by
  refine ⟨_, rfl, by simp, ?_, fun x low high => ?_⟩
  · rw [List.append_assoc, bytesAt_front]
    cases e <;> rfl
  · cases x
    · simp only [List.append_assoc, bytesAt_bytes, bytesAt_front, le_refl, Nat.sub_self]
      exact asSigned_bytes low.le high
    · simp only [List.append_assoc, bytesAt_bytes, bytesAt_only, Nat.reduceLeDiff, Nat.reduceSub, le_refl, Nat.sub_self]
      exact asSigned_bytes low.le high

theorem brakeOrder_bytes (force : PerAxle Nat) : ∃ b, brakeOrder force = b ++ [byteSum b] ∧ b.length = 4 ∧
    bytesAt b 0 2 = force.a % 65536 ∧ bytesAt b 2 2 = force.b % 65536 :=
  ⟨_, rfl, by simp, bytesAt_front _ _ _, (bytesAt_bytes le_rfl _).trans (bytesAt_only _ _)⟩

theorem signedOrder_eq (dir : EffortDir) (n : Nat) :
    signedOrder dir n = if dir = .traction then (n : Int) else if dir = .rest then 0 else -(n : Int) := by
  cases dir <;> rfl

/-- R20: under its law a hold state other than FREE gives traction under a DRIVE request alone. -/
theorem sampleDir_traction {s : Station} (hold : HoldLaw s) (h : sampleDir s = .traction) :
    s.blend.served = .drive ∧ s.hold.state ≠ .rollback := by
  obtain ⟨hill, -⟩ := hold
  unfold sampleDir at h
  cases hs : s.hold.state with
  | free =>
    refine ⟨?_, nofun⟩
    rw [hs] at h
    cases hv : s.blend.served <;> rw [hv] at h <;> cases h
  | hillStart => exact ⟨((driveRequest_iff s).mp (hill hs).1).1, nofun⟩
  | holding | rollback => rw [hs] at h; cases h

end Sys2Proof.Machine

open Sys2Proof Sys2Proof.Machine

/-- Settles O12: the orders are formed last, from the state and the limit that the sample leaves. -/
theorem sampleOrders : Obligations.SampleOrders := by
  intro q z hz
  obtain ⟨dir, hold, blend⟩ := speedSample_served z
  obtain ⟨map, port⟩ := speedSample_unobserved z
  have unserved' := speedSample_unserved z
  have kept := blend_of_unserved unserved'
  have makeUp := makeUp_of_unserved unserved'
  have store := store_of_unserved unserved'
  obtain ⟨brake, trailer, motor⟩ := speedSample_link z
  have orders := speedSample_orders z
  have laws (mode : ModeLaw z) (law : HoldLaw z) := serving_holdLaw.speedSample ⟨mode, law⟩
  have lawful : sampleDir (held z) = sampleDir (speedSample z) := by unfold sampleDir; rw [hold, blend]
  obtain ⟨_, _, _, _, _, _, _, _, _, _, _, _, _, _, _, _, link, frame⟩ := speedSample_frame z
  refine ⟨speedSample z, actRunning_running speedSample ⟨q, z⟩ hz, ?_⟩
  rw [lawful] at dir
  generalize speedSample z = t at *
  have order (x : Axle) : (pick t.creep x).electric = (orderOf t x).1 ∧ (pick t.creep x).friction = (orderOf t x).2 := by
    rw [← orders x]; exact ⟨rfl, rfl⟩
  refine ⟨?_, fun x => ?_, fun x locked => ?_, fun x free fits => ?_, fun x free over' => ?_, ?_, trailer, fun h => ?_,
    fun mode law served => ?_⟩
  · rw [← kept, ← makeUp, ← map, ← port, ← store, ← link]
    rw [frame]
  · obtain ⟨electric, friction⟩ := order x
    rw [electric, friction]
    by_cases locked : (pick t.creep x).state = .locked
    · rw [orderOf_locked locked]; exact Nat.zero_le _
    · rw [orderOf_cut locked]; exact (cutOrder_spec _ _ _).1
  · obtain ⟨electric, friction⟩ := order x
    rw [electric, friction, orderOf_locked locked]
    exact ⟨rfl, rfl⟩
  · obtain ⟨electric, friction⟩ := order x
    rw [electric, friction, orderOf_cut free]
    exact (cutOrder_spec _ _ _).2.1 fits
  · obtain ⟨electric, friction⟩ := order x
    rw [electric, friction, orderOf_cut free]
    exact (cutOrder_spec _ _ _).2.2 over'
  · rw [brake]
    exact brakeOrder_bytes _
  · obtain ⟨b, bytes, length, first, forces⟩ := inverterOrder_bytes t.pos.leadingEnd
      ⟨signedOrder t.creepDir t.creep.a.electric, signedOrder t.creepDir t.creep.b.electric⟩
    refine ⟨b, (motor h).trans bytes, length, first, fun x fits => ?_⟩
    have signed : pick (⟨signedOrder t.creepDir t.creep.a.electric, signedOrder t.creepDir t.creep.b.electric⟩ : PerAxle Int) x =
        signedOrder t.creepDir (pick t.creep x).electric := by cases x <;> rfl
    have force := forces x
    rw [signed, signedOrder_eq] at force
    exact force (by split_ifs <;> omega) (by split_ifs <;> omega)
  · obtain ⟨modes, holds⟩ := laws mode law
    rw [dir]
    intro traction
    obtain ⟨drive, state⟩ := sampleDir_traction holds traction
    rcases served with h | h | h | h | h
    · rw [drive] at h; cases h
    · rw [drive] at h; cases h
    · rw [drive] at h; cases h
    · obtain ⟨-, -, -, hserved, -⟩ := modes
      have eff := (servedFor_eq_drive (hserved.symm.trans drive)).1
      rw [eff] at h; cases h
    · exact state h

end

section
/-! SUPPORT. Own observations: where they come from, the cell record of a sample (R35 to R37), and the offer to the outbox (R80,
R81). -/

namespace Sys2Proof.Machine

/-! ## The conditions of an observation (R35, R36) -/

theorem observes_iff (s : Station) : observes s = true ↔ s.pos.state ≠ .lost ∧ s.pos.attrLeading.obsInhibit = false ∧
    (pick s.sanders (leadingAxle s)).state ≠ .flowing ∧ (pick s.sanders (leadingAxle s)).state ≠ .tailing ∧
    (pick s.axles (leadingAxle s)).sensor = .ok := by
  simp only [observes, sanderAt, Bool.and_eq_true, Bool.not_eq_true', bne_iff_ne, beq_iff_eq, and_assoc, ne_eq]

/-- R35: what the conditions of an observation read. -/
theorem observes_congr {s t : Station} (pos : t.pos = s.pos) (sanders : t.sanders = s.sanders)
    (sensor : ∀ x, (pick t.axles x).sensor = (pick s.axles x).sensor) : observes t = observes s := by
  have leading : leadingAxle t = leadingAxle s := by unfold leadingAxle; rw [pos]
  simp only [observes, sanderAt, leading, pos, sanders, sensor]

theorem buildRail_setCreep (s : Station) (x : Axle) (c : AxleCreep) :
    buildRail (setCreep s x c) = setCreep (buildRail s) x c := by
  unfold buildRail
  by_cases h : (s.port.railSlot.isNone && !railOnLine s && !(waiting s.map.outbox).isEmpty) = true
  · rw [if_pos h, if_pos (by exact h)]; rfl
  · rw [if_neg h, if_neg (by exact h)]

theorem observe_setCreep (k : ObsKind) (cell : Option Nat) (mu : Nat) (s : Station) (x : Axle) (c : AxleCreep) :
    observe k cell mu (setCreep s x c) = setCreep (observe k cell mu s) x c := by
  cases cell with
  | none => rfl
  | some n =>
    simp only [observe]
    rw [← buildRail_setCreep]
    rfl

/-- R36: of an entry to SLIPPING only the PEAK reaches the map. -/
theorem enterSlipping_map (x : Axle) (s : Station) : (enterSlipping x s).map =
    if leads s x && observes s then
      (observe .peak s.pos.attrLeading.mapCell (muOf (peakOf (pick s.creep x)) (axleWeight s x)) s).map
    else s.map := by
  have joins (n : Nat) (t : Station) : (joinReslips n x t).map = t.map := by
    obtain ⟨_, _, e⟩ := joinReslips_frame n x t; rw [e]
  have request (t : Station) : (slipRequest t).map = t.map := rfl
  unfold enterSlipping
  simp only [joins, request]
  unfold peakObservation
  have same : (leads (setCreep s x (slippingRecord (pick s.creep x))) x && observes (setCreep s x (slippingRecord (pick s.creep x)))) =
      (leads s x && observes s) := rfl
  rw [same]
  split
  · exact (congrArg Station.map (observe_setCreep .peak s.pos.attrLeading.mapCell
      (muOf (peakOf (pick s.creep x)) (axleWeight s x)) s x (slippingRecord (pick s.creep x))) :)
  · rfl

/-! ## The cell record (R37) -/

theorem isAhead_iff (sense : Sense) (cell new : Nat) :
    isAhead sense cell new = true ↔ (sense = .up ∧ new = cell + 1) ∨ (sense = .down ∧ new + 1 = cell) := by
  cases sense <;> simp [isAhead]

theorem isAhead_ne {sense : Sense} {cell new : Nat} (h : isAhead sense cell new = true) : cell ≠ new := by
  rcases (isAhead_iff _ _ _).mp h with ⟨-, h⟩ | ⟨-, h⟩ <;> omega

/-- R37: what a turn of the cell record does. -/
theorem turnCell_some {s : Station} {r : CellRec} (h : s.cellRec = some r) : turnCell s =
    if r.cell = routeCell s.pos.attrLeading.position then s
    else if isAhead s.pos.sense r.cell (routeCell s.pos.attrLeading.position) then
      { closeCell r s with
        cellRec := some ⟨routeCell s.pos.attrLeading.position, s.pos.attrLeading.mapCell, 0, 0, true⟩ }
    else { s with cellRec := some ⟨routeCell s.pos.attrLeading.position, s.pos.attrLeading.mapCell, 0, 0, false⟩ } := by
  unfold turnCell
  simp only [h]

theorem turnCell_none {s : Station} (h : s.cellRec = none) : turnCell s =
    { s with cellRec := some ⟨routeCell s.pos.attrLeading.position, s.pos.attrLeading.mapCell, 0, 0, false⟩ } := by
  unfold turnCell
  simp only [h]

/-- R37: a cell crossed cleanly, under the conditions of R35 and at 50‰ or more. -/
def crossed (r : CellRec) (s : Station) : Prop :=
  r.clean = true ∧ observes s = true ∧ 50 ≤ muOf (meanForce r) (axleWeight s (leadingAxle s))

theorem closeCell_crossed {r : CellRec} {s : Station} (h : crossed r s) :
    closeCell r s = observe .atLeast r.mapCell (muOf (meanForce r) (axleWeight s (leadingAxle s))) s := by
  obtain ⟨clean, observes', mu⟩ := h
  exact if_pos (by simp only [clean, observes', mu, decide_true, Bool.and_true])

theorem closeCell_spoiled {r : CellRec} {s : Station} (h : ¬crossed r s) : closeCell r s = s := by
  refine if_neg fun all => h ?_
  rw [Bool.and_eq_true, Bool.and_eq_true, decide_eq_true_eq, and_assoc] at all
  exact all

theorem turnCell_map_crossed {s : Station} {r : CellRec} (h : s.cellRec = some r)
    (ahead : isAhead s.pos.sense r.cell (routeCell s.pos.attrLeading.position) = true) (hc : crossed r s) :
    (turnCell s).map = (observe .atLeast r.mapCell (muOf (meanForce r) (axleWeight s (leadingAxle s))) s).map := by
  rw [turnCell_some h, if_neg (isAhead_ne ahead), if_pos ahead, closeCell_crossed hc]

theorem turnCell_map_kept {s : Station} {r : CellRec} (h : s.cellRec = some r)
    (hc : isAhead s.pos.sense r.cell (routeCell s.pos.attrLeading.position) = false ∨ ¬crossed r s) :
    (turnCell s).map = s.map := by
  rw [turnCell_some h]
  split
  · rfl
  · split
    · rename_i ahead
      rw [closeCell_spoiled (hc.resolve_left (by rw [ahead]; nofun))]
    · rfl

/-! ## The cell record of a sample (R37, R53) -/

/-- What a stage of a sample does to the pending change, the cell record and the creep histories: nothing, or it takes the
change. -/
def SpoilsByChange (s t : Station) : Prop :=
  (t.pos.change = s.pos.change ∧ t.cellRec = s.cellRec ∧ t.creep = s.creep) ∨
  (s.pos.change ≠ none ∧ t.pos.change = none ∧ t.cellRec = none ∧
    ∀ x, pick t.creep x = { pick s.creep x with history := [] })

theorem takeChange_spoils (c : EndChange) (s : Station) : (takeChange c s).cellRec = none ∧
    ∀ x, pick (takeChange c s).creep x = { pick s.creep x with history := [] } := by
  have change (e : CabEnd) (t : Station) : (resolveNow (announceChange e t)).cellRec = none ∧
      (resolveNow (announceChange e t)).creep = (emptyHistories t).creep := by
    obtain ⟨_, h⟩ := resolveNow_frame (announceChange e t)
    rw [h]
    unfold announceChange
    simp only
    split
    · exact ⟨rfl, rfl⟩
    · obtain ⟨_, h⟩ := tailNow_frame (axleOf e) (cancelAim (spoilCell (emptyHistories t)))
      rw [h]
      exact ⟨rfl, rfl⟩
  obtain ⟨cell, creep⟩ := change s.pos.leadingEnd { s with
    pos := { s.pos with leadingEnd := c.leadingEnd, sense := c.sense, endTaken := true, change := none } }
  refine ⟨cell, fun x => ?_⟩
  have record := congrArg (fun p => pick p x) creep
  cases x <;> exact record

theorem takePending_spoils (s : Station) : SpoilsByChange s (takePending s) := by
  unfold takePending
  split
  · rename_i c hc
    obtain ⟨cell, creep⟩ := takeChange_spoils c s
    obtain ⟨u, -, pos, taken⟩ := takeChange_pos c s
    refine .inr ⟨by rw [hc]; nofun, ?_, cell, creep⟩
    rw [taken, resolved, pos]
  · exact .inl ⟨rfl, rfl, rfl⟩

theorem SpoilsByChange.of_eq {s s' t : Station} (pos : s'.pos = s.pos) (cell : s'.cellRec = s.cellRec)
    (creep : s'.creep = s.creep) (h : SpoilsByChange s' t) : SpoilsByChange s t := by
  unfold SpoilsByChange at h ⊢
  rwa [pos, cell, creep] at h

theorem stillTest_spoils (s : Station) : SpoilsByChange s (stillTest s) := by
  have begins (t : Station) : SpoilsByChange t (beginStandstill t) := by
    obtain ⟨_, standing⟩ := stood_frame t
    obtain ⟨_, _, _, _, evaluated'⟩ := evaluate_frame false (stood t)
    refine (takePending_spoils (evaluate false (stood t))).of_eq ?_ ?_ ?_ <;> rw [evaluated', standing]
  unfold stillTest standstillExpiry
  simp only
  split
  · split
    · exact begins _
    · exact .inl ⟨rfl, rfl, rfl⟩
  · split
    · obtain ⟨_, _, _, _, e⟩ := endStandstill_frame s
      rw [e]
      exact .inl ⟨rfl, rfl, rfl⟩
    · exact .inl ⟨rfl, rfl, rfl⟩

/-- R141: of the hold unit's part only the standstill test reaches the cell record and the creep histories. -/
theorem holdSample_spoils (s : Station) : SpoilsByChange s (holdSample s) := by
  have still := stillTest_spoils s
  have pos := holdSample_pos s
  have wheel (t : Station) : (wheelWake t).cellRec = t.cellRec ∧ (wheelWake t).creep = t.creep := by
    obtain ⟨_, _, _, _, _, _, e⟩ := wheelWake_frame t; rw [e]; exact ⟨rfl, rfl⟩
  have rollback (t : Station) : (rollbackTest t).cellRec = t.cellRec ∧ (rollbackTest t).creep = t.creep := by
    obtain ⟨_, _, _, _, _, _, e⟩ := rollbackTest_frame t; rw [e]; exact ⟨rfl, rfl⟩
  have forward (t : Station) : (releaseForward t).cellRec = t.cellRec ∧ (releaseForward t).creep = t.creep := by
    obtain ⟨_, _, e⟩ := releaseForward_frame t; rw [e]; exact ⟨rfl, rfl⟩
  have level (b : Bool) (t : Station) : (levelStart b t).cellRec = t.cellRec ∧ (levelStart b t).creep = t.creep := by
    obtain ⟨_, e⟩ := levelStart_frame b t; rw [e]; exact ⟨rfl, rfl⟩
  have hill (t : Station) : (hillSample t).cellRec = t.cellRec ∧ (hillSample t).creep = t.creep := by
    obtain ⟨_, e⟩ := hillSample_frame t; rw [e]; exact ⟨rfl, rfl⟩
  have park (t : Station) : (parkTest t).cellRec = t.cellRec ∧ (parkTest t).creep = t.creep := by
    obtain ⟨_, _, _, _, e⟩ := parkTest_frame t; rw [e]; exact ⟨rfl, rfl⟩
  have publish (t : Station) : (holdPublish t).cellRec = t.cellRec ∧ (holdPublish t).creep = t.creep := ⟨rfl, rfl⟩
  have cell : (holdSample s).cellRec = (stillTest s).cellRec := by
    unfold holdSample
    simp only [(publish _).1, (park _).1, (hill _).1, (level _ _).1, (forward _).1, (rollback _).1, (wheel _).1]
  have creep : (holdSample s).creep = (stillTest s).creep := by
    unfold holdSample
    simp only [(publish _).2, (park _).2, (hill _).2, (level _ _).2, (forward _).2, (rollback _).2, (wheel _).2]
  unfold SpoilsByChange
  rwa [pos, cell, creep]

/-- R52: the odometry keeps a pending change and the cell record, and of the creep records all but the pre-limits. -/
theorem positionSample_kept (s : Station) : (positionSample s).pos.change = s.pos.change ∧
    (positionSample s).cellRec = s.cellRec ∧
    ∀ x, pick (positionSample s).creep x = { pick s.creep x with preLimit := (pick (positionSample s).creep x).preLimit } := by
  have limit (t : Station) : (deadReckoningLimit t).pos.change = t.pos.change ∧ (deadReckoningLimit t).cellRec = t.cellRec ∧
      ∀ x, pick (deadReckoningLimit t).creep x =
        { pick t.creep x with preLimit := (pick (deadReckoningLimit t).creep x).preLimit } := by
    by_cases h : t.pos.reckoned ≤ 500000 ∨ t.pos.state = .lost
    · rw [deadReckoningLimit_within h]
      exact ⟨rfl, rfl, fun x => rfl⟩
    · push Not at h
      obtain ⟨far, lost⟩ := h
      obtain ⟨_, e⟩ := resolveNow_frame (announceLost { t with pos := { t.pos with state := .lost } })
      rw [deadReckoningLimit_lost far lost, e]
      exact ⟨rfl, rfl, fun x => by cases x <;> rfl⟩
  exact limit (advanceOdometry s)

/-- The cell record that the creep controller of a sample finds: the one before the sample, or none where the sample has taken a
change of leading end or sense. -/
theorem held_cellRec (s : Station) : ((held s).pos.change = s.pos.change ∧ (held s).cellRec = s.cellRec) ∨
    (s.pos.change ≠ none ∧ (held s).pos.change = none ∧ (held s).cellRec = none) := by
  obtain ⟨_, _, _, _, e⟩ := learned_frame s
  obtain ⟨change, cell, -⟩ := positionSample_kept (learned s)
  have change' : (positionSample (learned s)).pos.change = s.pos.change := by rw [change, e]
  have cell' : (positionSample (learned s)).cellRec = s.cellRec := by rw [cell, e]
  rcases holdSample_spoils (positionSample (learned s)) with ⟨kept, record, -⟩ | ⟨pending, taken, spoiled, -⟩
  · exact .inl ⟨kept.trans change', record.trans cell'⟩
  · exact .inr ⟨by rwa [change'] at pending, taken, spoiled⟩

theorem held_creepDir (s : Station) : (held s).creepDir = s.creepDir := by
  obtain ⟨_, _, _, _, _, _, _, _, _, _, _, _, _, e⟩ := held_frame s; rw [e]

/-- R37: what spoils the cell record at a sample. -/
def spoilsCell (changed : Bool) (s : Station) : Bool :=
  (pick s.creep (leadingAxle s)).state != .adhering || s.creepDir == .rest || s.creepDir == .backward || changed || !observes s

theorem spoilsCell_iff (changed : Bool) (s : Station) : spoilsCell changed s = true ↔
    (pick s.creep (leadingAxle s)).state ≠ .adhering ∨ s.creepDir = .rest ∨ s.creepDir = .backward ∨ changed = true ∨
      observes s = false := by
  simp only [spoilsCell, Bool.or_eq_true, bne_iff_ne, ne_eq, beq_iff_eq, Bool.not_eq_true', or_assoc]

theorem sampleCell_some {changed : Bool} {force : Nat} {s : Station} {r : CellRec} (h : s.cellRec = some r) :
    (sampleCell changed force s).cellRec =
      some { r with sum := r.sum + force, count := r.count + 1, clean := r.clean && !spoilsCell changed s } := by
  simp only [sampleCell, h, spoilsCell]

/-- R37: the cell record that a turn leaves, the sample not yet joined. -/
def turnedCell (p : Position) : Option CellRec → CellRec
  | none => ⟨routeCell p.attrLeading.position, p.attrLeading.mapCell, 0, 0, false⟩
  | some r =>
    if r.cell = routeCell p.attrLeading.position then r
    else ⟨routeCell p.attrLeading.position, p.attrLeading.mapCell, 0, 0,
      isAhead p.sense r.cell (routeCell p.attrLeading.position)⟩

theorem turnCell_cellRec (s : Station) : (turnCell s).cellRec = some (turnedCell s.pos s.cellRec) := by
  cases h : s.cellRec with
  | none => rw [turnCell_none h]; rfl
  | some r =>
    rw [turnCell_some h]
    simp only [turnedCell]
    by_cases same : r.cell = routeCell s.pos.attrLeading.position
    · rw [if_pos same, if_pos same, h]
    · rw [if_neg same, if_neg same]
      cases ahead : isAhead s.pos.sense r.cell (routeCell s.pos.attrLeading.position) <;> rfl

theorem turnCell_judged (s : Station) : (turnCell s).pos = s.pos ∧ (turnCell s).creep = s.creep ∧
    (turnCell s).creepDir = s.creepDir ∧ observes (turnCell s) = observes s := by
  obtain ⟨_, _, _, e⟩ := turnCell_frame s
  rw [e]
  exact ⟨rfl, rfl, rfl, rfl⟩

theorem spoilsCell_congr {s t : Station} (changed : Bool) (pos : t.pos = s.pos)
    (state : ∀ x, (pick t.creep x).state = (pick s.creep x).state) (dir : t.creepDir = s.creepDir)
    (observed : observes t = observes s) : spoilsCell changed t = spoilsCell changed s := by
  have leading : leadingAxle t = leadingAxle s := by unfold leadingAxle; rw [pos]
  simp only [spoilsCell, leading, state, dir, observed]

/-- R37: the cell record after the creep controller's part of a sample: what the turn leaves, with the applied force joined. -/
theorem celled_cellRec (seeded : Bool) (s : Station) : (celled seeded s).cellRec = some { turnedCell s.pos s.cellRec with
    sum := (turnedCell s.pos s.cellRec).sum + appliedForce s (sampleDir s) (leadingAxle s)
    count := (turnedCell s.pos s.cellRec).count + 1
    clean := (turnedCell s.pos s.cellRec).clean && !spoilsCell (sampleDir s != s.creepDir) (celled seeded s) } := by
  have turned := turnCell_cellRec (machined seeded s)
  obtain ⟨pos, creep, dir, observed⟩ := turnCell_judged (machined seeded s)
  obtain ⟨-, -, pos', -⟩ := celled_fixed seeded s
  have machinedPos : (machined seeded s).pos = s.pos := by
    obtain ⟨_, _, _, e⟩ := celled_frame seeded s
    rw [e] at pos'
    exact pos'
  obtain ⟨-, -, -, record⟩ := machined_unread seeded s
  have same : spoilsCell (sampleDir s != s.creepDir) (celled seeded s) =
      spoilsCell (sampleDir s != s.creepDir) (turnCell (machined seeded s)) := by
    obtain ⟨_, e⟩ := sampleCell_frame (sampleDir s != s.creepDir) (appliedForce s (sampleDir s) (leadingAxle s))
      (turnCell (machined seeded s))
    rw [celled, e]
    rfl
  rw [machinedPos, record] at turned
  rw [same, celled, sampleCell_some turned]

theorem speedSample_spoils (changed : Bool) (s : Station) :
    spoilsCell changed (speedSample s) = spoilsCell changed (celled (seeds (measured s)) (held s)) := by
  obtain ⟨_, e⟩ := announced_frame (fun s => ordered (celled (seeds (measured s)) (held s))) s
  rw [speedSample_steps, e]
  generalize celled (seeds (measured s)) (held s) = u
  have orders : (ordered u).pos = u.pos ∧ (ordered u).creepDir = u.creepDir ∧ (ordered u).sanders = u.sanders ∧
      ∀ x, (pick (ordered u).axles x).sensor = (pick u.axles x).sensor := by
    rw [ordered, formOrders_eq]
    exact ⟨rfl, rfl, rfl, fun x => by cases x <;> rfl⟩
  obtain ⟨pos, dir, sanders, sensors⟩ := orders
  have observed := observes_congr pos sanders sensors
  have state (x : Axle) : (pick (ordered u).creep x).state = (pick u.creep x).state := by rw [ordered_creep]
  rw [← spoilsCell_congr changed pos state dir observed]
  generalize ordered u = v
  rfl

/-- R37: the cell record after a sample. -/
theorem speedSample_cellRec (s : Station) : (speedSample s).cellRec = some {
    turnedCell (speedSample s).pos (held s).cellRec with
    sum := (turnedCell (speedSample s).pos (held s).cellRec).sum +
      appliedForce (held s) (sampleDir (held s)) (leadingAxle (held s))
    count := (turnedCell (speedSample s).pos (held s).cellRec).count + 1
    clean := (turnedCell (speedSample s).pos (held s).cellRec).clean &&
      !spoilsCell (sampleDir (held s) != s.creepDir) (speedSample s) } := by
  obtain ⟨-, -, -, -, cell, -⟩ := announced_unread (fun s => ordered (celled (seeds (measured s)) (held s))) s
  obtain ⟨-, -, -, cell', -⟩ := ordered_unread (celled (seeds (measured s)) (held s))
  rw [speedSample_spoils, speedSample_pos, ← held_creepDir s, ← celled_cellRec, ← cell', ← cell, ← speedSample_steps]

/-! ## Offers to a full outbox (R81) -/

/-- R81: the oldest WAITING AT_LEAST makes room. -/
theorem makeRoom_atLeast {a b : List OutboxItem} {i : OutboxItem} (waits : i.inFrame = false) (kind : i.obs.kind = .atLeast)
    (oldest : ∀ j ∈ a, j.inFrame = true ∨ j.obs.kind ≠ .atLeast) : makeRoom (a ++ i :: b) = a ++ b := by
  have fits : (!i.inFrame && i.obs.kind == .atLeast) = true := by simp [waits, kind]
  have found : (a ++ i :: b).any (fun j => !j.inFrame && j.obs.kind == .atLeast) = true :=
    List.any_eq_true.mpr ⟨i, by simp, fits⟩
  rw [makeRoom, if_pos found, List.eraseP_append_right _ fun j hj => by
    rcases oldest j hj with h | h <;> simp [h], List.eraseP_cons_of_pos (by exact fits)]

/-- R81: without a WAITING AT_LEAST the oldest WAITING observation makes room. -/
theorem makeRoom_waiting {a b : List OutboxItem} {i : OutboxItem} (waits : i.inFrame = false)
    (none' : ∀ j ∈ a ++ i :: b, j.inFrame = false → j.obs.kind ≠ .atLeast) (oldest : ∀ j ∈ a, j.inFrame = true) :
    makeRoom (a ++ i :: b) = a ++ b := by
  have found : ¬(a ++ i :: b).any (fun j => !j.inFrame && j.obs.kind == .atLeast) = true := fun h => by
    obtain ⟨j, hj, fits⟩ := List.any_eq_true.mp h
    rw [Bool.and_eq_true, Bool.not_eq_true', beq_iff_eq] at fits
    exact none' j hj fits.1 fits.2
  rw [makeRoom, if_neg found, List.eraseP_append_right _ fun j hj => by simp [oldest j hj],
    List.eraseP_cons_of_pos (by simp [waits])]

theorem extendsItem_false {o : Observation} {j : OutboxItem} (h : o.kind ≠ .sanded ∨ j.inFrame = true ∨ j.obs.kind ≠ .sanded ∨
    j.obs.direction ≠ o.direction ∨ 16 ≤ j.obs.count ∨ (o.cell + 1 ≠ j.obs.cell ∧ o.cell ≠ j.obs.cell + j.obs.count)) :
    extendsItem o j = false := by
  simp only [extendsItem, Bool.and_eq_false_iff, Bool.or_eq_false_iff, beq_eq_false_iff_ne, decide_eq_false_iff_not,
    Bool.not_eq_false', not_lt]
  tauto

end Sys2Proof.Machine

open Sys2Proof Sys2Proof.Machine

/-- Settles O25: an offer extends, joins, replaces or is dropped; what a sample hands to the map and to the cell record is read
off its creep controller's stages. -/
theorem outboxOffer : Obligations.OutboxOffer := by
  refine ⟨observes_iff, fun k mu s => ⟨rfl, fun c o ho => ⟨_, rfl, ?_⟩⟩, fun x s peak hpeak hp => ?_,
    fun s r here mu hr hhere hmu => ?_, fun q z hz => ⟨speedSample z, actRunning_running speedSample ⟨q, z⟩ hz, ?_⟩,
    fun o box rest i => ⟨?_, fun fits => ?_⟩⟩
  · subst ho
    exact ⟨buildRail_self _, buildRail_obs _⟩
  · rw [enterSlipping_map, peakOf_eq hpeak hp]
    refine ⟨fun leading observed => if_pos ?_, fun other => if_neg ?_⟩
    · rw [leads, leading, observed]; simp
    · rw [leads]
      rcases other with h | h <;> simp [h]
  · subst hhere hmu
    have ahead := isAhead_iff s.pos.sense r.cell (s.pos.attrLeading.position / 5000)
    refine ⟨fun forward clean observed low => turnCell_map_crossed hr (ahead.mpr forward) ⟨clean, observed, low⟩, fun other => ?_⟩
    refine turnCell_map_kept hr ?_
    rcases other with h | h | h | h
    · exact .inl (Bool.eq_false_iff.mpr fun a => h (ahead.mp a))
    · exact .inr fun ⟨clean, _⟩ => by rw [h] at clean; cases clean
    · exact .inr fun ⟨_, observed, _⟩ => by rw [h] at observed; cases observed
    · exact .inr fun ⟨_, _, low⟩ => absurd low (not_le.mpr h)
  · intro before here F spoils hhere hF taken kept hspoils
    have record := speedSample_cellRec z
    obtain ⟨-, peaks⟩ := speedSample_carried z (leadingAxle (speedSample z))
    obtain ⟨dir, -⟩ := speedSample_served z
    have same : before = (held z).cellRec := by
      rw [speedSample_pos] at taken kept
      rcases held_cellRec z with ⟨change, cell⟩ | ⟨pending, change, cell⟩
      · by_cases h : z.pos.change = none
        · rw [cell]; exact kept (.inl h)
        · rw [cell]; exact kept (.inr (by rwa [change]))
      · rw [cell]; exact taken ⟨pending, change⟩
    have leading : leadingAxle (held z) = leadingAxle (speedSample z) := by unfold leadingAxle; rw [speedSample_pos]
    rw [peaks, List.head?_cons, Option.some.injEq] at hF
    rw [leading, hF, ← dir, ← same] at record
    have spoils' : spoilsCell ((speedSample z).creepDir != z.creepDir) (speedSample z) = true ↔ spoils := by
      rw [hspoils, spoilsCell_iff, bne_iff_ne]
    generalize speedSample z = t at *
    have clean (b : Bool) : (b && !spoilsCell (t.creepDir != z.creepDir) t) = true ↔ b = true ∧ ¬spoils := by
      rw [← spoils', Bool.and_eq_true, Bool.not_eq_true', Bool.not_eq_true]
    subst hhere
    refine ⟨fun r hr at' => ?_, fun r hr off => ?_, fun hn => ?_⟩
    · rw [hr, turnedCell, if_pos (by exact at')] at record
      exact ⟨_, record, clean _⟩
    · rw [hr, turnedCell, if_neg (by exact off)] at record
      simp only [Nat.zero_add] at record
      refine ⟨_, record, ?_⟩
      rw [clean, isAhead_iff]; rfl
    · rw [hn, turnedCell] at record
      simp only [Nat.zero_add, Bool.false_and] at record
      exact record
  · rintro rfl sanded waits kind dir count beside
    have fits : extendsItem o i = true := by simp [extendsItem, sanded, waits, kind, dir, count, beside]
    rw [offerOutbox_extends fits, extendItem, waits]
  · have joins := offerOutbox_joins (o := o) (box := box) fun r j hb => extendsItem_false (fits r j hb)
    rw [joins]
    refine ⟨joinOutbox_room, joinOutbox_dropped, fun full kind => ?_⟩
    rw [joinOutbox_replaces full kind]
    refine ⟨?_, ?_⟩
    · rintro a b rfl waits least oldest
      rw [makeRoom_atLeast waits least oldest]
    · rintro a b rfl waits none' oldest
      rw [makeRoom_waiting waits none' oldest]

end

section
/-! SUPPORT. Steps 4 and 5 of the hold unit in a sample, and the PARKED entry (R144, R145, R148 to R150, R153, R154). -/

namespace Sys2Proof.Machine

/-! ## The inverter, achieved traction and gravity need (R148, R149, R153) -/

theorem inverterUsable_iff (s : Station) (r : InverterReport) : inverterUsable s = some r ↔
    s.plug.kind = .motor ∧ s.link.inverter.state = .present ∧ s.link.inverter.report = some r ∧ r.healthy = true := by
  unfold inverterUsable inverterUsed
  cases s.plug.kind with
  | trailer => simp
  | motor =>
    by_cases present : s.link.inverter.state = .present
    · cases s.link.inverter.report with
      | none => simp [present]
      | some o =>
        cases healthy : o.healthy
        · simp only [present, if_true, healthy, Bool.false_eq_true, if_false, reduceCtorEq, true_and, Option.some.injEq, false_iff,
            not_and]
          rintro rfl
          rw [healthy]
          nofun
        · simp only [present, if_true, healthy, Option.some.injEq, true_and]
          exact ⟨fun h => ⟨h, h ▸ healthy⟩, fun h => h.1⟩
    · simp [present]

theorem ownTraction_usable {s : Station} {r : InverterReport} (h : inverterUsable s = some r) :
    ownTraction s = r.achieved.a.toNat + r.achieved.b.toNat := by
  simp only [ownTraction, h, asTraction]

theorem ownTraction_unusable {s : Station} (h : inverterUsable s = none) : ownTraction s = 0 := by
  simp only [ownTraction, h]

theorem ownNeed_uphill {s : Station} (h : 0 < s.pos.attrStation.rise) : (ownNeed s : Int) = signedNeed s := by
  have rise : ((s.pos.attrStation.rise.toNat : Nat) : Int) = s.pos.attrStation.rise := Int.toNat_of_nonneg h.le
  have load : 0 ≤ (s.blend.mass : Int) * 9807 * s.pos.attrStation.rise := by positivity
  unfold ownNeed signedNeed riseHere gravityLoad
  rw [if_pos h, Int.tdiv_eq_ediv_of_nonneg load]
  push_cast
  rw [rise]

theorem ownNeed_level {s : Station} (h : s.pos.attrStation.rise ≤ 0) : ownNeed s = 0 := if_neg (not_lt.mpr h)

/-! ## Release of HOLDING and the level start (R145) -/

theorem releaseForward_forward {s : Station} (holding : s.hold.state = .holding) (moving : s.hold.standstill = false)
    (forward : 30 ≤ s.ref.speed) : releaseForward s = { s with
      hold := { s.hold with state := .free }, life := if s.life = .parked then .run else s.life } := by
  unfold releaseForward rouse
  rw [if_pos ⟨holding, moving, forward⟩]
  by_cases parked : s.life = .parked
  · rw [if_pos (by exact parked), if_pos parked]
  · rw [if_neg (by exact parked), if_neg parked]

theorem releaseForward_other {s : Station} (h : s.hold.state ≠ .holding ∨ s.hold.standstill = true ∨ s.ref.speed < 30) :
    releaseForward s = s := by
  refine if_neg fun ⟨holding, moving, forward⟩ => ?_
  rcases h with h | h | h
  · exact h holding
  · rw [moving] at h; cases h
  · omega

theorem tractionAppears_usable {s : Station} {r : InverterReport} (h : inverterUsable s = some r) :
    tractionAppears s = true ↔ effortSense s = .traction ∧ (0 < s.blend.axles.a.electric ∨ 0 < s.blend.axles.b.electric) := by
  simp only [tractionAppears, h, Bool.and_eq_true, beq_iff_eq, Bool.or_eq_true, decide_eq_true_eq]

theorem tractionAppears_unusable {s : Station} (h : inverterUsable s = none) :
    tractionAppears s = true ↔ 0 < tramTraction s ∧ tramNeed s ≤ tramTraction s := by
  simp only [tractionAppears, h, Bool.and_eq_true, decide_eq_true_eq]

theorem levelStart_appears {s : Station} (pending : s.hold.levelPending = true) (appears : tractionAppears s = true) :
    levelStart true s = { s with hold := { s.hold with levelPending := false, state := .free } } :=
  if_pos ⟨rfl, pending, appears⟩

theorem levelStart_waits {b : Bool} {s : Station} (h : b = false ∨ s.hold.levelPending = false ∨ tractionAppears s = false) :
    levelStart b s = s := by
  refine if_neg fun ⟨was, pending, appears⟩ => ?_
  rcases h with h | h | h
  · rw [h] at was; cases was
  · rw [h] at pending; cases pending
  · rw [h] at appears; cases appears

/-! ## The hand-over of a hill start (R148 to R150) -/

theorem motorFriction_spec (force achieved : Nat) (need : Int) : (need ≤ achieved → motorFriction force need achieved = 0) ∧
    ((achieved : Int) < need → (motorFriction force need achieved : Int) = force * (need - achieved) / need) := by
  unfold motorFriction
  refine ⟨fun h => if_pos h, fun h => ?_⟩
  rw [if_neg (not_le.mpr h)]
  have nonneg : ((need.toNat : Nat) : Int) = need := Int.toNat_of_nonneg (by omega)
  have rest : ((need.toNat - achieved : Nat) : Int) = need - achieved := by omega
  push_cast
  rw [rest, nonneg]

/-- R148, R149: the friction and the TRAILER's release that a hand-over leaves. -/
def handedOver (s : Station) : Nat × Bool :=
  match inverterUsable s with
  | some _ => (motorFriction s.hold.holdForce (signedNeed s) (ownTraction s), s.hold.trailerReleased)
  | none =>
    let released := s.hold.trailerReleased || decide (tramNeed s ≤ tramTraction s)
    (if released then 0 else s.hold.holdForce, released)

theorem handOver_eq (s : Station) : handOver s = { s with hold := { s.hold with
    friction := (handedOver s).1, trailerReleased := (handedOver s).2 } } := by
  unfold handOver handedOver
  cases inverterUsable s <;> rfl

theorem handedOver_usable {s : Station} {r : InverterReport} (h : inverterUsable s = some r) :
    handedOver s = (motorFriction s.hold.holdForce (signedNeed s) (ownTraction s), s.hold.trailerReleased) := by
  simp only [handedOver, h]

theorem handedOver_unusable {s : Station} (h : inverterUsable s = none) :
    ((handedOver s).2 = true ↔ s.hold.trailerReleased = true ∨ tramNeed s ≤ tramTraction s) ∧
    (handedOver s).1 = if (handedOver s).2 then 0 else s.hold.holdForce := by
  simp only [handedOver, h, Bool.or_eq_true, decide_eq_true_eq, true_and]

theorem hillReleased_handOver (s : Station) : hillReleased (handOver s) = true ↔
    ((inverterUsable s).isSome = true → (handedOver s).1 = 0) ∧
    ((inverterUsable s).isSome = false → (handedOver s).2 = true) := by
  have usable : inverterUsable (handOver s) = inverterUsable s := by rw [handOver_eq]; rfl
  unfold hillReleased
  rw [usable]
  cases inverterUsable s <;> simp [handOver_eq]

theorem hillSample_completes {s : Station} (hill : s.hold.state = .hillStart) (released : hillReleased (handOver s) = true)
    (fast : 100 < s.ref.speed) : hillSample s = { s with hold := { s.hold with
      friction := (handedOver s).1, trailerReleased := (handedOver s).2, state := .free, hillSince := none } } := by
  have speed : 100 < (handOver s).ref.speed := by rw [handOver_eq]; exact fast
  unfold hillSample
  rw [if_pos hill]
  simp only
  rw [if_pos ⟨released, speed⟩, handOver_eq]

theorem hillSample_goesOn {s : Station} (hill : s.hold.state = .hillStart)
    (h : hillReleased (handOver s) = false ∨ s.ref.speed ≤ 100) : hillSample s = { s with hold := { s.hold with
      friction := (handedOver s).1, trailerReleased := (handedOver s).2 } } := by
  have speed : (handOver s).ref.speed = s.ref.speed := by rw [handOver_eq]
  have waits : ¬(hillReleased (handOver s) = true ∧ 100 < (handOver s).ref.speed) := fun ⟨released, fast⟩ => by
    rcases h with h | h
    · rw [h] at released; cases released
    · omega
  unfold hillSample
  rw [if_pos hill]
  simp only
  rw [if_neg waits, handOver_eq]

theorem hillSample_other {s : Station} (h : s.hold.state ≠ .hillStart) : hillSample s = s := if_neg h

/-! ## PARKED (R154, R183) -/

/-- R183: what a running save asked for leaves of the store. -/
theorem requestSave_idle {s : Station} (h : s.store.write = none) :
    requestSave s = { s with store := { s.store with write := some (savedNow s) } } := by
  simp only [requestSave, h]

theorem requestSave_busy {s : Station} (h : s.store.write ≠ none) :
    requestSave s = { s with store := { s.store with pendingSave := true } } := by
  unfold requestSave
  split
  · rename_i idle; exact absurd idle h
  · rfl

/-- R154: what the PARKED entry leaves, the running save aside. -/
theorem enterParked_self (s : Station) : enterParked s = { s with
    life := .parked, hold := { s.hold with parkTime := none }
    axles := ⟨{ s.axles.a with wakeEdges := [] }, { s.axles.b with wakeEdges := [] }⟩, store := (enterParked s).store } := by
  by_cases idle : s.store.write = none
  · rw [enterParked, requestSave_idle (by exact idle)]
  · rw [enterParked, requestSave_busy (by exact idle)]

theorem enterParked_store (s : Station) : (s.store.write = none → (enterParked s).store =
      { s.store with write := some (savedNow s) }) ∧
    (s.store.write ≠ none → (enterParked s).store = { s.store with pendingSave := true }) := by
  refine ⟨fun idle => ?_, fun busy => ?_⟩
  · rw [enterParked, requestSave_idle (by exact idle)]; rfl
  · rw [enterParked, requestSave_busy (by exact busy)]

/-- R154: the park timer as a sample runs it. -/
def parkTimed (s : Station) : Option Nat :=
  runTimer 5 (s.life == .run && s.blend.effMode == .park && s.hold.standstill && s.hold.state == .holding) s.hold.parkTime

theorem parkTest_eq (s : Station) : parkTest s = parkExpiry { s with hold := { s.hold with parkTime := parkTimed s } } := rfl

theorem parkExpiry_port (s : Station) : (parkExpiry s).port = s.port := by
  obtain ⟨_, _, _, _, e⟩ := parkExpiry_frame s; rw [e]

theorem parkExpiry_early {s : Station} (h : s.life = .parked ∨ ∀ n, s.hold.parkTime = some n → n < 2000) :
    parkExpiry s = s := by
  refine if_neg fun ⟨run, due⟩ => ?_
  rcases h with h | h
  · rw [h] at run; cases run
  · rw [reached_eq_false h] at due; cases due

theorem parkExpiry_due {s : Station} {n : Nat} (run : s.life = .run) (timer : s.hold.parkTime = some n) (due : 2000 ≤ n) :
    parkExpiry s = enterParked s := if_pos ⟨run, (reached_iff _ _).mpr ⟨n, timer, due⟩⟩

/-- What `announced` adds lies in the port alone. -/
theorem announced_outside (f : Station → Station) (s : Station) : { announced f s with port := (f s).port } = f s := by
  obtain ⟨_, e⟩ := announced_frame f s; rw [e]

theorem announced_same {f : Station → Station} {s : Station} (h : f s = s) : announced f s = s := by
  unfold announced
  simp only [h, if_true]

theorem announced_changed {f : Station → Station} {s : Station} (h : (f s).life ≠ s.life) :
    announced f s = buildStatus (f s) := if_neg h

end Sys2Proof.Machine

open Sys2Proof Sys2Proof.Machine

/-- Settles O41: steps 4 and 5 of the hold unit by their conditions, and the two timer rows. -/
theorem parkAndHillTimers : Obligations.ParkAndHillTimers := by
  refine ⟨fun s => ⟨releaseForward_forward, releaseForward_other⟩,
    fun s usable own need tram needs mass rise G q husable hown0 hown hmass hrise hG up level htram hneeds => ?_, fun q z hz => ?_⟩
  · subst hmass hrise
    have signed : signedNeed s = G := hG.symm
    have usableIff : usable ↔ (inverterUsable s).isSome = true := by
      rw [husable, Option.isSome_iff_exists]
      simp only [inverterUsable_iff]
      exact ⟨fun ⟨k, p, r, h, o⟩ => ⟨r, k, p, h, o⟩, fun ⟨r, k, p, h, o⟩ => ⟨k, p, r, h, o⟩⟩
    have ownEq : ownTraction s = own := by
      cases h : inverterUsable s with
      | none =>
        rw [h] at usableIff
        rw [ownTraction_unusable h, hown0 (by rw [usableIff]; nofun)]
      | some r =>
        rw [h] at usableIff
        obtain ⟨-, -, report, -⟩ := (inverterUsable_iff s r).mp h
        rw [ownTraction_usable h, hown r (usableIff.mpr rfl) report]
    have needEq : ownNeed s = need := by
      rcases lt_or_ge 0 s.pos.attrStation.rise with h | h
      · have := ownNeed_uphill h; have := up h; omega
      · rw [ownNeed_level h, level h]
    have tramEq : tramTraction s = tram := by rw [htram, ← ownEq]; rfl
    have needsEq : tramNeed s = needs := by rw [hneeds, ← needEq]; rfl
    refine ⟨fun appears hu hn => ?_, hillSample_other, fun friction free hill hu hn released ru rn => ?_,
      fun runs timer hs hruns stopped starts goesOn => ?_, fun force friction hforce held free hill waits => ?_⟩
    · have appearsIff : tractionAppears s = true ↔ appears := by
        cases h : inverterUsable s with
        | none =>
          rw [h] at usableIff
          rw [tractionAppears_unusable h, hn (by rw [usableIff]; nofun), tramEq, needsEq]
        | some r =>
          rw [h] at usableIff
          rw [tractionAppears_usable h, hu (usableIff.mpr rfl)]
      refine ⟨fun pending ha => levelStart_appears pending (appearsIff.mpr ha), fun h => levelStart_waits (.inr ?_),
        levelStart_waits (.inl rfl)⟩
      rcases h with h | h
      · exact .inl h
      · exact .inr (Bool.eq_false_iff.mpr fun a => h (appearsIff.mp a))
    · have handed : handedOver s = (friction, free) ∧ (hillReleased (handOver s) = true ↔ released) := by
        rw [hillReleased_handOver]
        cases h : inverterUsable s with
        | none =>
          rw [h] at usableIff
          have unusable : ¬usable := by rw [usableIff]; nofun
          obtain ⟨frees, rubs⟩ := hn unusable
          obtain ⟨frees', rubs'⟩ := handedOver_unusable h
          rw [needsEq, tramEq, ← frees] at frees'
          have free' : (handedOver s).2 = free := Bool.eq_iff_iff.mpr frees'
          rw [free', ← rubs] at rubs'
          refine ⟨Prod.ext rubs' free', ?_⟩
          simp [rn unusable, free']
        | some r =>
          rw [h] at usableIff
          obtain ⟨frees, none', some'⟩ := hu (usableIff.mpr rfl)
          obtain ⟨zero, part⟩ := motorFriction_spec s.hold.holdForce own G
          have rubs : motorFriction s.hold.holdForce G own = friction := by
            rcases le_or_gt G own with le | lt
            · rw [zero le, none' le]
            · have := part lt; have := some' lt; omega
          have over' := handedOver_usable h
          rw [signed, ownEq, rubs, ← frees] at over'
          refine ⟨over', ?_⟩
          simp [ru (usableIff.mpr rfl), over']
      obtain ⟨handed, releasedIff⟩ := handed
      refine ⟨fun hr fast => ?_, fun h => ?_⟩
      · rw [hillSample_completes hill (releasedIff.mpr hr) fast, handed]
      · rw [hillSample_goesOn hill (h.imp_left fun h => Bool.eq_false_iff.mpr fun a => h (releasedIff.mp a)), handed]
    · have timed : parkTimed s = timer := by
        unfold parkTimed
        have runsIff : (s.life == .run && s.blend.effMode == .park && s.hold.standstill && s.hold.state == .holding) = true ↔ runs := by
          rw [hruns]; simp only [Bool.and_eq_true, beq_iff_eq, and_assoc]
        by_cases h : runs
        · rw [runsIff.mpr h]
          cases ht : s.hold.parkTime with
          | none => rw [runTimer_none, starts h ht]
          | some n => rw [runTimer_some, goesOn n h ht]
        · rw [Bool.eq_false_iff.mpr fun a => h (runsIff.mp a), runTimer_stop, stopped h]
      rw [parkTest_eq, timed]
      refine ⟨fun early => parkExpiry_early (.inr early), _, actRunning_eq (z := { s with hold := { s.hold with parkTime := timer } }) hs rfl q, ?_⟩
      have outside := announced_outside parkExpiry { s with hold := { s.hold with parkTime := timer } }
      rw [parkExpiry_port] at outside
      exact outside.symm
    · have forceEq : holdForceOf s.figs s.blend.mass (riseHere s).natAbs = force := hforce.symm
      have composed : composedFriction s force = friction := by
        unfold composedFriction
        cases hs : s.hold.state with
        | free => exact (free hs).symm
        | holding => exact (held (.inl hs)).symm
        | rollback => exact (held (.inr hs)).symm
        | hillStart =>
          cases h : inverterUsable s with
          | none =>
            rw [h] at usableIff
            exact (waits hs (by rw [usableIff]; nofun)).symm
          | some r =>
            rw [h] at usableIff
            exact (hill hs (usableIff.mpr rfl)).symm
      unfold holdPublish
      simp only [forceEq, composed, ownEq, needEq]
  · refine ⟨fun early => actRunning_eq hz (announced_same (parkExpiry_early early)) q, fun n run timer due => ?_,
      fun m hill since due => actRunning_eq hz ?_ q, fun early => actRunning_eq hz ?_ q⟩
    · have parked := parkExpiry_due run timer due
      have changes : (parkExpiry z).life ≠ z.life := by
        obtain ⟨_, _, e⟩ := enterParked_eq z
        rw [parked, e, run]; nofun
      have row : announced parkExpiry z = buildStatus (enterParked z) := by rw [announced_changed changes, parked]
      obtain ⟨idle, busy⟩ := enterParked_store z
      have self := enterParked_self z
      refine ⟨_, statusContent (enterParked z), actRunning_eq hz row q, ?_, ?_, ?_, idle, busy⟩
      · rw [buildStatus, self]
      · rw [self]; rfl
      · rw [self]; rfl
    · simp only [hillStartExpiry, hill, since]
      rw [if_pos due]
      rfl
    · unfold hillStartExpiry
      split
      · rename_i m hill since
        rcases early with h | h
        · exact absurd hill h
        · rw [if_neg (not_le.mpr (h m since))]
      · rfl

end

section
/-! SUPPORT. Entry to ROLLBACK: the timer, the wheel wake, the rollback test of a sample (R151, R155). -/

namespace Sys2Proof.Machine

/-! ## What the entry leaves -/

/-- R143, R147: in ROLLBACK the hold unit answers an evaluation with start armed alone. -/
theorem holdRespond_rollback {s : Station} (state : s.hold.state = .rollback) (level : s.hold.levelPending = false) :
    ∃ a, holdRespond s = { s with hold := { s.hold with armed := a } } := by
  unfold holdRespond holdDrive holdNoDrive
  simp only [state, reduceCtorEq, false_and, if_false]
  split
  · exact ⟨s.hold.armed, by rw [← state]⟩
  · refine ⟨true, ?_⟩
    rw [← level, ← state]

/-- R151: the hold unit after an entry to ROLLBACK. -/
def rollbackHold (h : Hold) : Hold :=
  { h with
    state := .rollback, shown := .rollback, standstill := false, stillTime := none, armed := false, levelPending := false
    hillSince := none, rollbackTime := none, friction := h.holdForce }

/-- R151: the detail that an entry to ROLLBACK reports. -/
def rollbackDetail (d : FaultDetail) (s : Station) : FaultDetail := if s.life = .parked then .parked else d

theorem rouse_eq (s : Station) : rouse s = { s with life := if s.life = .parked then .run else s.life } := by
  unfold rouse
  by_cases h : s.life = .parked
  · rw [if_pos h, if_pos h]
  · rw [if_neg h, if_neg h]

/-- R151, R155: what an entry to ROLLBACK leaves; where standstill held, its end has the modes evaluated. -/
theorem enterRollback_eq (d : FaultDetail) (s : Station) : ∃ b k, enterRollback d s = { s with
      life := if s.life = .parked then .run else s.life
      faults := recordFault s.faults s.time s.pos.attrLeading.mapCell .rollback none (some (rollbackDetail d s))
      hold := rollbackHold s.hold, blend := b, makeUp := { s.makeUp with takes := k } } ∧
    (s.hold.standstill = false → b = s.blend ∧ k = s.makeUp.takes) := by
  cases still : s.hold.standstill with
  | false =>
    refine ⟨s.blend, s.makeUp.takes, ?_, fun _ => ⟨rfl, rfl⟩⟩
    have hold : (disarm (rolledBack d s)).hold = rollbackHold s.hold := by
      simp only [disarm, rolledBack, rollbackHold, still]
    rw [enterRollback_moving still, rouse_eq, hold]
    rfl
  | true =>
    obtain ⟨_, _, _, _, _, _, _, e⟩ := evaluated_frame false { rolledBack d s with hold := { (rolledBack d s).hold with
      standstill := false, stillTime := none } }
    have state : (evaluated false { rolledBack d s with hold := { (rolledBack d s).hold with
      standstill := false, stillTime := none } }).hold.state = .rollback := by rw [e]; rfl
    have level : (evaluated false { rolledBack d s with hold := { (rolledBack d s).hold with
      standstill := false, stillTime := none } }).hold.levelPending = false := by rw [e]; rfl
    obtain ⟨_, responds⟩ := holdRespond_rollback state level
    rw [enterRollback_still still, rouse_eq, endStandstill, evaluate_eq, responds, e]
    exact ⟨_, _, rfl, nofun⟩

/-! ## The rollback test (R151) -/

theorem rollbackTested_iff (s : Station) : rollbackTested s = true ↔ s.hold.state ≠ .rollback ∧
    (s.blend.effMode = .drive ∨ s.blend.effMode = .coast ∨ s.blend.effMode = .hold ∨ s.blend.effMode = .park) := by
  simp only [rollbackTested, Bool.and_eq_true, bne_iff_ne, Bool.or_eq_true, beq_iff_eq, or_assoc]

theorem flaggingPeer_some {s : Station} {n : Nat} {p : StatusContent} (hp : (n, p) ∈ freshPeers s) (flag : p.rollback = true)
    (least : ∀ k o, (k, o) ∈ freshPeers s → o.rollback = true → n ≤ k) : flaggingPeer s = some n := by
  have found : ((freshPeers s).find? fun p => p.2.rollback).isSome = true :=
    List.find?_isSome.mpr ⟨(n, p), hp, flag⟩
  obtain ⟨⟨m, o⟩, first⟩ := Option.isSome_iff_exists.mp found
  obtain ⟨flag', before', after', split', unflagged⟩ := List.find?_eq_some_iff_append.mp first
  have low : n ≤ m := least m o (List.mem_of_find?_eq_some first) flag'
  have ascends := freshPeers_ascending s
  rw [split'] at hp ascends
  have same : n = m := by
    rcases List.mem_append.mp hp with h | h
    · have := unflagged _ h; simp [flag] at this
    · rcases List.mem_cons.mp h with h | h
      · exact congrArg Prod.fst h
      · have less : m < n := List.rel_of_pairwise_cons (List.pairwise_append.mp ascends).2.1 h
        omega
  rw [flaggingPeer, first, same]
  rfl

theorem flaggingPeer_none {s : Station} (h : ∀ p ∈ freshPeers s, p.2.rollback = false) : flaggingPeer s = none := by
  unfold flaggingPeer
  rw [Option.map_eq_none_iff, List.find?_eq_none]
  intro p hp
  rw [h p hp]
  nofun

/-- R151: the rollback timer as a sample runs it. -/
def rollbackTimed (s : Station) : Option Nat :=
  runTimer 5 (rollbackTested s && decide (s.ref.speed < -150)) s.hold.rollbackTime

/-- R151: the station with its rollback timer run. -/
def rolling (s : Station) : Station := { s with hold := { s.hold with rollbackTime := rollbackTimed s } }

theorem rollbackTest_eq (s : Station) : rollbackTest s = peerRollback (rollbackExpiry (rolling s)) := rfl

theorem rollbackExpiry_due {s : Station} {n : Nat} (tested : rollbackTested s = true) (timer : s.hold.rollbackTime = some n)
    (due : 200 ≤ n) : rollbackExpiry s = enterRollback .own s := if_pos ⟨tested, (reached_iff _ _).mpr ⟨n, timer, due⟩⟩

theorem rollbackExpiry_early {s : Station} (h : rollbackTested s = false ∨ ∀ n, s.hold.rollbackTime = some n → n < 200) :
    rollbackExpiry s = s := by
  refine if_neg fun ⟨tested, due⟩ => ?_
  rcases h with h | h
  · rw [h] at tested; cases tested
  · rw [reached_eq_false h] at due; cases due

theorem peerRollback_flagged {s : Station} {n : Nat} (tested : rollbackTested s = true) (moving : s.hold.standstill = false)
    (flag : flaggingPeer s = some n) : peerRollback s = enterRollback (.peer n) s := by
  rw [peerRollback, if_pos ⟨tested, moving⟩, flag]

theorem peerRollback_other {s : Station} (h : rollbackTested s = false ∨ s.hold.standstill = true ∨ flaggingPeer s = none) :
    peerRollback s = s := by
  unfold peerRollback
  split
  · rename_i due
    obtain ⟨tested, moving⟩ := due
    rcases h with h | h | h
    · rw [h] at tested; cases tested
    · rw [h] at moving; cases moving
    · rw [h]
  · rfl

theorem rollbackTested_entered (d : FaultDetail) (s : Station) : rollbackTested (enterRollback d s) = false := by
  obtain ⟨_, _, e, -⟩ := enterRollback_eq d s
  rw [e]
  rfl

theorem wheelWake_iff (s : Station) : (4 < wakeCount s.time s.axles.a ∨ 4 < wakeCount s.time s.axles.b) ↔
    ∃ x, 4 < ((pick s.axles x).wakeEdges.filter fun e => age s.time e ≤ 2000).length :=
  ⟨fun h => h.elim (fun h => ⟨.a, h⟩) fun h => ⟨.b, h⟩, fun ⟨x, h⟩ => by cases x; exacts [.inl h, .inr h]⟩

/-- R151, R155, R166: an entry to ROLLBACK between samples, and the STATUS that it builds where it wakes the station. -/
theorem announced_enterRollback {f : Station → Station} {d : FaultDetail} {z : Station} (hz : running z = true)
    (h : f z = enterRollback d z) :
    announced f z = { z with
      life := .run, faults := (announced f z).faults, hold := (announced f z).hold, blend := (announced f z).blend
      makeUp := { z.makeUp with takes := (announced f z).makeUp.takes }, port := (announced f z).port } ∧
    (announced f z).faults = recordFault z.faults z.time z.pos.attrLeading.mapCell .rollback none (some (rollbackDetail d z)) ∧
    (announced f z).hold = rollbackHold z.hold ∧
    (z.hold.standstill = false → (announced f z).blend = z.blend ∧ (announced f z).makeUp = z.makeUp) ∧
    (z.life = .run → (announced f z).port = z.port) ∧
    (z.life = .parked → (announced f z).port = { z.port with
      seqStatus := z.port.seqStatus + 1, lastStatus := z.time, statusSlot := (announced f z).port.statusSlot } ∧
      ∃ s, (announced f z).port.statusSlot = some ⟨s, z.port.seqStatus + 1, z.time⟩ ∧ s.parked = false ∧ s.hold = .rollback ∧
        s.rollback = true) := by
  obtain ⟨b, k, entered, unmoved⟩ := enterRollback_eq d z
  have kept (moving : z.hold.standstill = false) : b = z.blend ∧ { z.makeUp with takes := k } = z.makeUp := by
    obtain ⟨blend, takes⟩ := unmoved moving
    exact ⟨blend, by rw [takes]⟩
  have alive : z.life = .run ∨ z.life = .parked := by simpa only [running, Bool.or_eq_true, beq_iff_eq] using hz
  rcases alive with run | parked
  · have same : (f z).life = z.life := by rw [h, entered, run]; rfl
    have row : announced f z = enterRollback d z := by rw [← h]; exact if_pos same
    rw [row, entered, run]
    exact ⟨rfl, rfl, rfl, kept, fun _ => rfl, nofun⟩
  · have changes : (f z).life ≠ z.life := by rw [h, entered, parked]; nofun
    rw [announced_changed changes, h, entered, parked]
    exact ⟨rfl, rfl, rfl, kept, nofun, fun _ => ⟨rfl, _, rfl, rfl, rfl, rfl⟩⟩

end Sys2Proof.Machine

open Sys2Proof Sys2Proof.Machine

/-- Settles O40: the three ways into ROLLBACK are one entry, whose effect does not depend on standstill but for the modes. -/
theorem rollbackEntry : Obligations.RollbackEntry := by
  refine ⟨fun s r tested timer hr htested starts goesOn stops => ?_, fun q s hs => ?_, fun c q z enters hz timer wake hc => ?_⟩
  · subst hr
    have testedIff : rollbackTested s = true ↔ tested := (rollbackTested_iff s).trans htested.symm
    have timed : rollbackTimed s = timer := by
      unfold rollbackTimed
      by_cases runs : tested ∧ s.ref.speed < -150
      · obtain ⟨ht, back⟩ := runs
        rw [testedIff.mpr ht, decide_eq_true back, Bool.and_self]
        cases h : s.hold.rollbackTime with
        | none => rw [runTimer_none, starts ht back h]
        | some n => rw [runTimer_some, goesOn n ht back h]
      · have idle : (rollbackTested s && decide (s.ref.speed < -150)) = false := by
          refine Bool.eq_false_iff.mpr fun a => runs ?_
          rw [Bool.and_eq_true, decide_eq_true_eq] at a
          exact ⟨testedIff.mp a.1, a.2⟩
        rw [idle, runTimer_stop, stops (by by_cases ht : tested; exacts [.inr (not_lt.mp fun b => runs ⟨ht, b⟩), .inl ht])]
    have rollingTimer : (rolling s).hold.rollbackTime = timer := timed
    have rollingTested : rollbackTested (rolling s) = rollbackTested s := rfl
    have rollingPeer : flaggingPeer (rolling s) = flaggingPeer s := rfl
    refine ⟨fun d cause => ?_, fun early other => ?_⟩
    · have entered : rollbackTest s = enterRollback d (rolling s) := by
        rcases cause with ⟨n, ht, due, rfl⟩ | ⟨ht, moving, early, n, p, hp, flag, rfl, least⟩
        · have runs : rollbackTested s = true := by
            rw [testedIff]
            by_contra h
            rw [stops (.inl h)] at ht
            cases ht
          rw [rollbackTest_eq, rollbackExpiry_due (rollingTested.trans runs) (rollingTimer.trans ht) due,
            peerRollback_other (.inl (rollbackTested_entered _ _))]
        · rw [rollbackTest_eq, rollbackExpiry_early (.inr (by rw [rollingTimer]; exact early)),
            peerRollback_flagged (rollingTested.trans (testedIff.mpr ht)) moving (rollingPeer.trans (flaggingPeer_some hp flag least))]
      obtain ⟨_, _, e, -⟩ := enterRollback_eq d (rolling s)
      rw [entered, e]
      exact ⟨rfl, rfl, rfl, rfl⟩
    · rw [rollbackTest_eq, rollbackExpiry_early (.inr (by rw [rollingTimer]; exact early)), peerRollback_other, rolling, timed]
      rcases other with h | h | h
      · exact .inl (rollingTested.trans (Bool.eq_false_iff.mpr fun a => h (testedIff.mp a)))
      · exact .inr (.inl h)
      · exact .inr (.inr (rollingPeer.trans (flaggingPeer_none h)))
  · refine ⟨_, actRunning_eq hs rfl q, ?_⟩
    have port : (wheelWake s).port = s.port := by obtain ⟨_, _, _, _, _, _, e⟩ := wheelWake_frame s; rw [e]
    have outside := announced_outside wheelWake s
    rw [port] at outside
    exact outside.symm
  · have enters_row {f : Station → Station} {d : FaultDetail} (h : f z = enterRollback d z)
        (detail : rollbackDetail d z = if z.life = .parked then .parked else .own) : ∃ t, actRunning (announced f) ⟨q, z⟩ = .next ⟨q, t⟩ ∧
          t = { z with
            life := .run, faults := t.faults, hold := t.hold, blend := t.blend
            makeUp := { z.makeUp with takes := t.makeUp.takes }, port := t.port } ∧
          t.faults = recordFault z.faults z.time z.pos.attrLeading.mapCell .rollback none
            (some (if z.life = .parked then .parked else .own)) ∧ t.hold = rollbackHold z.hold ∧
          (z.hold.standstill = false → t.blend = z.blend ∧ t.makeUp = z.makeUp) ∧ (z.life = .run → t.port = z.port) ∧
          (z.life = .parked → t.port = { z.port with
            seqStatus := z.port.seqStatus + 1, lastStatus := z.time, statusSlot := t.port.statusSlot } ∧
            ∃ s, t.port.statusSlot = some ⟨s, z.port.seqStatus + 1, z.time⟩ ∧ s.parked = false ∧ s.hold = .rollback ∧
              s.rollback = true) :=
      ⟨_, actRunning_eq hz rfl q, detail ▸ announced_enterRollback hz h⟩
    rcases hc with rfl | rfl
    · refine ⟨fun none' => actRunning_eq hz (announced_same ?_) q, fun enter => ?_⟩
      · refine rollbackExpiry_early ?_
        rw [timer rfl] at none'
        by_cases tested : rollbackTested z = true
        · obtain ⟨state, mode⟩ := (rollbackTested_iff z).mp tested
          exact .inr fun n hn => not_le.mp fun due => none' ⟨state, ⟨n, hn, due⟩, mode⟩
        · exact .inl (Bool.eq_false_iff.mpr tested)
      · obtain ⟨state, ⟨n, hn, due⟩, mode⟩ := (timer rfl).mp enter
        exact enters_row (rollbackExpiry_due ((rollbackTested_iff z).mpr ⟨state, mode⟩) hn due) rfl
    · refine ⟨fun none' => actRunning_eq hz (announced_same ?_) q, fun enter => ?_⟩
      · rw [wake rfl] at none'
        exact if_neg fun ⟨parked, edges⟩ => none' ⟨parked, (wheelWake_iff z).mp edges⟩
      · obtain ⟨parked, edges⟩ := (wake rfl).mp enter
        exact enters_row (f := wheelWake) (d := .parked) (if_pos ⟨parked, (wheelWake_iff z).mpr edges⟩)
          (by rw [rollbackDetail, if_pos parked, if_pos parked])

end

section
/-! SUPPORT. Standstill: its beginning, with the pending change that it takes, and the hold unit's part of a sample (R54, R141,
R142, R152). -/

namespace Sys2Proof.Machine

/-! ## The answer of the hold unit to an evaluation (R143, R145, R147) -/

theorem holdRespond_shown (s : Station) : (holdRespond s).hold.shown = s.hold.shown := by
  unfold holdRespond holdDrive holdNoDrive
  simp only
  repeat' split
  all_goals rfl

theorem holdRespond_kept {s : Station} (drive : driveRequest s = true) (h : s.hold.state ≠ .holding ∨ s.hold.armed = false) :
    holdRespond s = s := by
  rw [holdRespond, if_pos drive]
  refine if_neg fun ⟨holding, armed⟩ => ?_
  rcases h with h | h
  · exact h holding
  · rw [h] at armed; cases armed

theorem holdRespond_starts {s : Station} (drive : driveRequest s = true) (holding : s.hold.state = .holding)
    (armed : s.hold.armed = true) :
    (holdRespond s).hold.state = if 40 < s.pos.attrStation.rise then .hillStart else .holding := by
  rw [holdRespond, if_pos drive, holdDrive, if_pos ⟨holding, armed⟩]
  by_cases h : 40 < riseHere s
  · rw [if_pos h, if_pos (by exact h)]; rfl
  · rw [if_neg h, if_neg (by exact h)]; exact holding

theorem holdRespond_holds {s : Station} (none' : driveRequest s = false)
    (h : (s.hold.state = .holding ∧ s.hold.friction = s.hold.holdForce) ∨ (s.hold.state = .free ∧ s.hold.standstill = true)) :
    (holdRespond s).hold.state = .holding ∧ (holdRespond s).hold.friction = s.hold.holdForce := by
  rw [holdRespond, if_neg (by rw [none']; nofun)]
  unfold holdNoDrive
  rcases h with ⟨state, friction⟩ | ⟨state, still⟩
  · simp only [state]
    exact ⟨trivial, friction⟩
  · simp only [state, still, if_true]
    exact ⟨rfl, rfl⟩

/-! ## A pending change taken (R53, R54) -/

theorem takeChange_stops (c : EndChange) {s : Station} (h : c.leadingEnd ≠ s.pos.leadingEnd) :
    (pick (takeChange c s).sanders (leadingAxle s)).state ≠ .filling ∧
    (pick (takeChange c s).sanders (leadingAxle s)).state ≠ .flowing := by
  have stops (e : CabEnd) {t : Station} (he : e ≠ t.pos.leadingEnd) :
      (pick (announceChange e t).sanders (axleOf e)).state ≠ .filling ∧
      (pick (announceChange e t).sanders (axleOf e)).state ≠ .flowing := by
    have other : announceChange e t = tailNow (axleOf e) (cancelAim (spoilCell (emptyHistories t))) := if_neg he
    rw [other]
    exact tailNow_stops _ _
  have tailed := stops s.pos.leadingEnd (t := { s with
    pos := { s.pos with leadingEnd := c.leadingEnd, sense := c.sense, endTaken := true, change := none } }) (Ne.symm h)
  have resolves (t : Station) : pick (resolveNow t).sanders (leadingAxle s) = pick t.sanders (leadingAxle s) ∨
      (pick (resolveNow t).sanders (leadingAxle s)).state = .tailing := by
    obtain ⟨sanders, -⟩ := inhibitTailing_sanders { t with pos := resolved t }
    exact (sanders (leadingAxle s)).imp id And.right
  unfold takeChange
  simp only
  rcases resolves (announceChange s.pos.leadingEnd { s with
    pos := { s.pos with leadingEnd := c.leadingEnd, sense := c.sense, endTaken := true, change := none } }) with kept | tails
  · rw [kept]; exact tailed
  · rw [tails]; exact ⟨nofun, nofun⟩

/-! ## The beginning of standstill (R142) -/

/-- R142: the station once the modes have been evaluated, a pending change not yet taken. -/
def evaluatedStill (s : Station) : Station := evaluate false (stood s)

theorem evaluatedStill_hold (s : Station) : (evaluatedStill s).hold = (holdRespond (evaluated false (stood s))).hold := rfl

theorem evaluatedStill_read (s : Station) : (evaluated false (stood s)).hold = (stood s).hold ∧
    driveRequest (evaluated false (stood s)) = driveRequest (evaluatedStill s) ∧
    (evaluated false (stood s)).pos.attrStation.rise = s.pos.attrStation.rise := by
  obtain ⟨hold, -, rise, -⟩ := evaluated_unread false (stood s)
  obtain ⟨_, standing⟩ := stood_frame s
  refine ⟨hold, ?_, ?_⟩
  · unfold driveRequest evaluatedStill
    rw [evaluate_blend]
  · refine (rise :).trans ?_
    rw [standing]

theorem evaluatedStill_frame (s : Station) : ∃ b m h a,
    evaluatedStill s = { s with blend := b, makeUp := m, hold := h, sanding := a } := by
  obtain ⟨_, standing⟩ := stood_frame s
  obtain ⟨_, _, _, _, e⟩ := evaluate_frame false (stood s)
  rw [evaluatedStill, e, standing]
  exact ⟨_, _, _, _, rfl⟩

theorem stood_standstill (s : Station) : (stood s).hold.standstill = true := by
  unfold stood
  split <;> rfl

/-- R106, R110: with the loop closed and no DRIVE request standstill ends EMERGENCY, and HOLD or PARK is served as HOLD. -/
theorem evaluatedStill_modes {s : Station} (closed : s.link.loop.delivered ≠ some .loopOpen)
    (quiet : ∀ g, s.blend.governing = some g → g.mode ≠ .drive) : (evaluatedStill s).blend.effMode ≠ .emergency ∧
      ((evaluatedStill s).blend.effMode = .hold ∨ (evaluatedStill s).blend.effMode = .park →
        (evaluatedStill s).blend.served = .hold) := by
  obtain ⟨_, standing⟩ := stood_frame s
  have loop : loopIsOpen (stood s) = false := by
    rw [← Bool.not_eq_true, loopIsOpen_iff, standing]; exact closed
  have asks : governingDrive (stood s).blend = false := by
    rw [← Bool.not_eq_true, governingDrive_iff, standing]
    exact fun ⟨g, hg, drive⟩ => quiet g hg drive
  have mode := nextEffMode_requested loop (.inr ⟨stood_standstill s, asks⟩)
  refine ⟨?_, fun holds => ?_⟩
  · rw [evaluatedStill, evaluate_effMode, mode]
    cases hg : (stood s).blend.governing with
    | none => rw [requestedMode_none hg]; nofun
    | some g => rw [requestedMode_some hg]; cases g.mode <;> simp [effOf]
  · rw [evaluatedStill, evaluate_served, stood_standstill]
    rcases holds with h | h <;> rw [evaluatedStill] at h <;> rw [h] <;> rfl

theorem standstillExpiry_due {s : Station} {n : Nat} (moving : s.hold.standstill = false) (timer : s.hold.stillTime = some n)
    (due : 500 ≤ n) : standstillExpiry s = takePending (evaluatedStill s) :=
  if_pos ⟨moving, (reached_iff _ _).mpr ⟨n, timer, due⟩⟩

theorem standstillExpiry_early {s : Station} (h : s.hold.standstill = true ∨ ∀ n, s.hold.stillTime = some n → n < 500) :
    standstillExpiry s = s := by
  refine if_neg fun ⟨moving, due⟩ => ?_
  rcases h with h | h
  · rw [h] at moving; cases moving
  · rw [reached_eq_false h] at due; cases due

theorem stillTest_slow {s : Station} (h : s.ref.speed.natAbs < 30) : stillTest s =
    standstillExpiry { s with hold := { s.hold with stillTime := runTimer 5 true s.hold.stillTime } } :=
  if_pos (decide_eq_true h)

theorem stillTest_fast {s : Station} (h : 30 ≤ s.ref.speed.natAbs) : stillTest s =
    if s.hold.standstill then endStandstill s else { s with hold := { s.hold with stillTime := none } } :=
  if_neg (by rw [decide_eq_true_eq]; omega)

theorem takePending_hold (s : Station) : (takePending s).hold = s.hold ∧ (takePending s).blend = s.blend := by
  obtain ⟨_, _, _, _, _, e⟩ := takePending_frame s
  rw [e]
  exact ⟨rfl, rfl⟩

theorem evaluatedStill_standstill (s : Station) : (takePending (evaluatedStill s)).hold.standstill = true := by
  rw [(takePending_hold _).1, evaluatedStill, evaluate_standstill, stood_standstill]

/-! ## What follows the hold unit in a sample -/

theorem holdSample_shown (s : Station) : (holdSample s).hold.shown = (holdSample s).hold.state := rfl

theorem ordered_celled_kept (seeded : Bool) (s : Station) : (ordered (celled seeded s)).life = s.life ∧
    (ordered (celled seeded s)).makeUp = s.makeUp ∧ (ordered (celled seeded s)).time = s.time := by
  obtain ⟨_, _, _, e⟩ := celled_frame seeded s
  obtain ⟨_, e2⟩ := followPartners_frame (runMachines (turns s) (entered seeded s))
  obtain ⟨_, _, _, _, _, _, e3⟩ := runMachines_frame (turns s) (entered seeded s)
  rw [ordered, formOrders_eq, e, machined, e2, e3, entered_eq]
  exact ⟨rfl, rfl, rfl⟩

theorem speedSample_kept (s : Station) : (speedSample s).life = (held s).life ∧ (speedSample s).makeUp = (held s).makeUp := by
  obtain ⟨life, makeUp, -⟩ := ordered_celled_kept (seeds (measured s)) (held s)
  obtain ⟨_, e⟩ := announced_frame (fun s => ordered (celled (seeds (measured s)) (held s))) s
  rw [speedSample_steps, e]
  generalize ordered (celled (seeds (measured s)) (held s)) = u at life makeUp
  exact ⟨life, makeUp⟩

/-- R5, R166: the port after a sample: the STATUS of the completed sample where the life state has changed. -/
theorem speedSample_port (s : Station) :
    ((speedSample s).life = s.life → (speedSample s).port = { s.port with
      railSlot := (speedSample s).port.railSlot, seqRail := (speedSample s).port.seqRail }) ∧
    ((speedSample s).life ≠ s.life → (speedSample s).port = { s.port with
      railSlot := (speedSample s).port.railSlot, seqRail := (speedSample s).port.seqRail, seqStatus := s.port.seqStatus + 1
      lastStatus := s.time, statusSlot := some ⟨statusContent (speedSample s), s.port.seqStatus + 1, s.time⟩ }) := by
  have kept : unobserved (ordered (celled (seeds (measured s)) (held s))) = unobserved s := by
    rw [unobserved_ordered, unobserved_celled, unobserved_held]
  have port := port_of_unobserved kept
  obtain ⟨-, -, time⟩ := ordered_celled_kept (seeds (measured s)) (held s)
  obtain ⟨-, -, -, -, time'⟩ := held_unread s
  rw [time'] at time
  have steps := announced_cases (fun s => ordered (celled (seeds (measured s)) (held s))) s
  rw [speedSample_steps]
  generalize announced (fun s => ordered (celled (seeds (measured s)) (held s))) s = t at steps
  generalize ordered (celled (seeds (measured s)) (held s)) = u at steps port time
  rcases steps with ⟨life, h⟩ | ⟨life, h⟩
  · rw [h]
    refine ⟨fun _ => ?_, fun changed => absurd life changed⟩
    generalize u.port = p at port ⊢
    rw [port]
  · rw [h, statusContent_buildStatus]
    refine ⟨fun same => absurd same life, fun _ => ?_⟩
    simp only [buildStatus, time]
    generalize u.port = p at port ⊢
    rw [port]

end Sys2Proof.Machine

open Sys2Proof Sys2Proof.Machine

/-- Settles O39: the sample's hold unit is its stages in order; standstill begins, as the row does, with the evaluation of a
standing station and then the pending change. -/
theorem standstill : Obligations.Standstill := by
  refine ⟨fun q z m h hz hm hh => ?_, fun q s n hs => ⟨fun fast moving => ?_, fun fast still => ?_, fun slow zero more => ?_⟩,
    fun q z hz => ⟨fun early => actRunning_eq hz (standstillExpiry_early early) q, fun n moving timer due => ?_⟩⟩
  · have found : m = positionSample (learned z) := hm
    have stages : h = holdSample m := hh
    have ends : h = held z := by rw [stages, found, held]
    subst ends found
    obtain ⟨-, hold, blend⟩ := speedSample_served z
    obtain ⟨life, makeUp⟩ := speedSample_kept z
    obtain ⟨same, changed⟩ := speedSample_port z
    have started : (positionSample (learned z)).ref = (speedSample z).ref ∧ (positionSample (learned z)).hold = z.hold ∧
        (positionSample (learned z)).blend = z.blend ∧ (positionSample (learned z)).life = z.life := by
      obtain ⟨_, _, _, _, e1⟩ := positionSample_frame (learned z)
      have ref := learned_ref z
      obtain ⟨_, _, _, _, e2⟩ := learned_frame z
      rw [e1, speedSample_ref, ← ref, e2]
      exact ⟨rfl, rfl, rfl, rfl⟩
    obtain ⟨ref, hold', blend', life'⟩ := started
    have shown : (held z).hold.shown = (held z).hold.state := holdSample_shown _
    refine ⟨speedSample z, actRunning_running speedSample ⟨q, z⟩ hz, hold, life, blend, makeUp, speedSample_pos z, ref.symm,
      hold', blend', life', same, fun differs => ⟨_, changed differs, ?_⟩⟩
    rw [← hold] at shown
    generalize speedSample z = t at shown
    exact ⟨beq_iff_eq, shown, beq_iff_eq, rfl, rfl, rfl, rfl, rfl⟩
  · rw [stillTest_fast fast, if_neg (by rw [moving]; nofun)]
  · rw [stillTest_fast fast, if_pos still]; rfl
  · have timed : runTimer 5 true s.hold.stillTime = some n := by
      cases h : s.hold.stillTime with
      | none => rw [runTimer_none, zero h]
      | some k => rw [runTimer_some, more k h]
    rw [stillTest_slow slow, timed]
    refine ⟨fun early => standstillExpiry_early ?_, fun moving due => ⟨?_, actRunning_eq (by exact hs) rfl q⟩⟩
    · exact early.imp_right fun h k hk => by cases hk; exact h
    · rw [standstillExpiry_due (by exact moving) rfl due]
      exact evaluatedStill_standstill _
  · have row : standstillExpiry z = takePending (evaluatedStill z) := standstillExpiry_due moving timer due
    have modes := evaluatedStill_modes (s := z)
    have still := evaluatedStill_standstill z
    obtain ⟨hold, drive, rise⟩ := evaluatedStill_read z
    obtain ⟨holdT, blendT⟩ := takePending_hold (evaluatedStill z)
    have request : driveRequest (takePending (evaluatedStill z)) = driveRequest (evaluated false (stood z)) := by
      rw [drive]; unfold driveRequest; rw [blendT]
    have answer := holdT.trans (evaluatedStill_hold z)
    obtain ⟨_, _, _, _, e⟩ := evaluatedStill_frame z
    obtain ⟨_, _, _, _, _, p⟩ := takePending_frame (evaluatedStill z)
    refine ⟨takePending (evaluatedStill z), actRunning_eq hz row q, still, by rw [p, e], by rw [p, e], by rw [p, e], by rw [p, e],
      by rw [p, e], by rw [p, e], by rw [p, e], by rw [p, e], ?_, ?_, ?_, ?_, ?_, ?_, ?_⟩
    · rw [answer, holdRespond_shown, hold]
      by_cases h : z.hold.state = .rollback
      · rw [stood_rollback h, if_pos h]
      · rw [stood_other h, if_neg h]
    · intro state armed
      rw [stood_rollback state] at hold
      rw [answer]
      cases asks : driveRequest (evaluated false (stood z)) with
      | true =>
        rw [stood_rollback state] at asks ⊢
        rw [holdRespond_kept asks (.inr (by rw [hold]; exact armed)), hold]
        exact ⟨rfl, rfl⟩
      | false =>
        rw [stood_rollback state] at asks ⊢
        have holds := holdRespond_holds asks (.inl ⟨by rw [hold], by rw [hold]⟩)
        rw [hold] at holds
        exact holds
    · intro state armed
      rw [request, answer]
      rw [stood_rollback state] at hold rise ⊢
      refine ⟨fun asks => ?_, fun asks => ?_⟩
      · have holds := holdRespond_holds asks (.inl ⟨by rw [hold], by rw [hold]⟩)
        rw [hold] at holds
        exact holds
      · rw [holdRespond_starts asks (by rw [hold]) (by rw [hold]; exact armed), rise]
    · intro state
      rw [request, answer]
      have other := stood_other (s := z) (by rw [state]; nofun)
      rw [other] at hold ⊢
      refine ⟨fun asks => ?_, fun asks => ?_⟩
      · rw [holdRespond_kept asks (.inl (by rw [hold, state]; nofun)), hold]
        exact state
      · have holds := holdRespond_holds asks (.inr ⟨by rw [hold]; exact state, by rw [hold]⟩)
        rw [hold] at holds
        exact holds
    · rw [blendT]; exact modes
    · intro none'
      have none'' : (evaluatedStill z).pos.change = none := by rw [e]; exact none'
      have same : takePending (evaluatedStill z) = evaluatedStill z := by simp only [takePending, none'']
      rw [same, e]
      exact ⟨rfl, rfl, rfl⟩
    · intro c hc
      have hc' : (evaluatedStill z).pos.change = some c := by rw [e]; exact hc
      have takes : takePending (evaluatedStill z) = takeChange c (evaluatedStill z) := by simp only [takePending, hc']
      obtain ⟨u, figs, pos, resolved'⟩ := takeChange_pos c (evaluatedStill z)
      obtain ⟨cell, aim, historyA, historyB⟩ := spoiled_takeChange c (evaluatedStill z)
      have resolves := takeChange_resolves c (evaluatedStill z)
      have stops := takeChange_stops c (s := evaluatedStill z)
      have figsZ : (evaluatedStill z).figs = z.figs := by rw [e]
      have posZ : (evaluatedStill z).pos = z.pos := by rw [e]
      have leading : leadingAxle (evaluatedStill z) = leadingAxle z := by unfold leadingAxle; rw [posZ]
      rw [figsZ] at resolves
      rw [posZ] at pos
      rw [leading, posZ] at stops
      rw [takes]
      refine ⟨?_, ?_, ?_, ?_, resolves, cell, historyA, historyB, aim, stops⟩ <;> rw [resolved', resolved, pos]

end

section
/-! SUPPORT. The sander rows: what each does at its figure, in its state (R87, R88, R93, R95 to R98, R100). -/

namespace Sys2Proof.Machine

/-! ## OPEN_TIME_END (R98, R100) -/

theorem openTimeOver_iff (now : Millis) (d : Sander) :
    openTimeOver now d = true ↔ ∃ p, d.dosing = some p ∧ p.openTime < 400 ∧ p.openTime ≤ age now p.start := by
  unfold openTimeOver
  cases d.dosing with
  | none => simp
  | some p => simp only [Bool.and_eq_true, decide_eq_true_eq, Option.some.injEq, exists_eq_left']

theorem openTimeOver_eq_false {now : Millis} {d : Sander}
    (h : ∀ p, d.dosing = some p → 400 ≤ p.openTime ∨ age now p.start < p.openTime) : openTimeOver now d = false := by
  refine Bool.eq_false_iff.mpr fun ended => ?_
  obtain ⟨p, hp, short, over'⟩ := (openTimeOver_iff now d).mp ended
  rcases h p hp with h | h
  · omega
  · exact absurd over' (not_le.mpr h)

/-- R100: the sand of an interval that began with its period, closed at or after the open time, is that of the open time. -/
theorem settleBox_openTime {now : Millis} {d : Sander} {p : Dosing} {i : OpenInterval} (hp : d.dosing = some p)
    (hi : d.interval = some i) (start : i.start = p.start) (over' : p.openTime ≤ age now p.start) :
    (settleBox now d).box = i.estimate - i.base * p.openTime / 1000 := by
  have elapsed : openMs now d i = p.openTime := by
    unfold openMs
    rw [hp, start]
    simp only
    rw [age_self, Nat.sub_zero]
    exact min_eq_right over'
  simp only [settleBox, hi, elapsed]

/-- What the estimate brought up to the moment reads. -/
theorem settleBox_congr {now : Millis} {d e : Sander} (interval : d.interval = e.interval) (dosing : d.dosing = e.dosing)
    (box : d.box = e.box) : (settleBox now d).box = (settleBox now e).box := by
  unfold settleBox openMs
  rw [interval, dosing]
  cases e.interval with
  | none => exact box
  | some i => rfl

theorem setSander_setSander (s : Station) (x : Axle) (d e : Sander) : setSander (setSander s x d) x e = setSander s x e := by
  cases x <;> rfl

theorem openTimeEnd_closes {x : Axle} {s : Station} (isOpen : (sanderAt s x).valveOpen = true)
    (over' : openTimeOver s.time (sanderAt s x) = true) :
    openTimeEnd x s = setSander s x (closeValve s.time (sanderAt s x)) := if_pos ⟨isOpen, over'⟩

theorem openTimeEnd_waits {x : Axle} {s : Station} (h : (sanderAt s x).valveOpen = false ∨
    openTimeOver s.time (sanderAt s x) = false) : openTimeEnd x s = s := by
  refine if_neg fun ⟨isOpen, over'⟩ => ?_
  rcases h with h | h
  · rw [h] at isOpen; cases isOpen
  · rw [h] at over'; cases over'

/-! ## Expiries (R87, R88) -/

theorem dropExpired_eq_some (now : Millis) (e : Option Millis) (m : Millis) :
    dropExpired now e = some m ↔ e = some m ∧ before now m = true := by
  unfold dropExpired
  cases e with
  | none => simp [stillAhead]
  | some t =>
    by_cases h : before now t = true
    · simp only [stillAhead, h, if_true, Option.some.injEq]
      exact ⟨fun e => ⟨e, e ▸ h⟩, fun e => e.1⟩
    · simp only [stillAhead, h, Bool.false_eq_true, if_false, reduceCtorEq, Option.some.injEq, false_iff, not_and]
      rintro rfl
      exact h

/-! ## The states' rows (R95, R96) -/

theorem demandFor_iff (s : Station) (x : Axle) : demandFor s x = true ↔ x = leadingAxle s ∧ s.sanding.demandOn = true := by
  simp only [demandFor, leads, Bool.and_eq_true, beq_iff_eq]

theorem demandFor_eq_false {s : Station} {x : Axle} (h : x ≠ leadingAxle s ∨ s.sanding.demandOn = false) :
    demandFor s x = false := by
  refine Bool.eq_false_iff.mpr fun on => ?_
  obtain ⟨leads, demand⟩ := (demandFor_iff s x).mp on
  rcases h with h | h
  · exact h leads
  · rw [h] at demand; cases demand

theorem toResting_empty {d : Sander} (h : d.pipe = 0) : toResting d = { d with state := .resting, rest := 0, lastCell := none } := by
  simp only [toResting, h]

theorem toClosed_empty {d : Sander} (h : d.pipe = 0) : toClosed d = { d with state := .closed, duty := 0, lastCell := none } := by
  simp only [toClosed, h]

theorem tailEmpty_empty {x : Axle} {s : Station} (state : (sanderAt s x).state = .tailing) (pipe : (sanderAt s x).pipe = 0)
    (off : demandFor s x = false) : tailEmpty x s =
      setSander s x (if (sanderAt s x).restOwed then toResting (sanderAt s x) else toClosed (sanderAt s x)) :=
  if_pos ⟨state, pipe, off⟩

theorem tailEmpty_other' {x : Axle} {s : Station} (h : (sanderAt s x).state ≠ .tailing ∨ (sanderAt s x).pipe ≠ 0 ∨
    demandFor s x = true) : tailEmpty x s = s := by
  refine if_neg fun ⟨state, pipe, off⟩ => ?_
  rcases h with h | h | h
  · exact h state
  · exact h pipe
  · rw [h] at off; cases off

theorem restExpiry_due {x : Axle} {s : Station} (state : (sanderAt s x).state = .resting) (due : 10000 ≤ (sanderAt s x).rest) :
    restExpiry x s = setSander s x (toClosed { sanderAt s x with restOwed := false, rest := 0 }) := if_pos ⟨state, due⟩

theorem restExpiry_early {x : Axle} {s : Station} (h : (sanderAt s x).state ≠ .resting ∨ (sanderAt s x).rest < 10000) :
    restExpiry x s = s := by
  refine if_neg fun ⟨state, due⟩ => ?_
  rcases h with h | h
  · exact h state
  · omega

theorem tailNow_spreads {x : Axle} {s : Station} (h : spreading (sanderAt s x) = true) :
    tailNow x s = setSander s x (toTailing s.time (sanderAt s x)) := if_pos h

theorem tailNow_idle {x : Axle} {s : Station} (h : ¬spreading (sanderAt s x) = true) : tailNow x s = s := if_neg h

theorem dutyLimit_due {x : Axle} {s : Station} (spreads : spreading (sanderAt s x) = true) (due : 30000 ≤ (sanderAt s x).duty) :
    dutyLimit x s = if s.sanding.admitted.emergency then setSander s x { sanderAt s x with restOwed := true }
      else tailNow x (setSander s x { sanderAt s x with restOwed := true }) := if_pos ⟨spreads, due⟩

theorem dutyLimit_early {x : Axle} {s : Station} (h : ¬spreading (sanderAt s x) = true ∨ (sanderAt s x).duty < 30000) :
    dutyLimit x s = s := by
  refine if_neg fun ⟨spreads, due⟩ => ?_
  rcases h with h | h
  · exact h spreads
  · omega

end Sys2Proof.Machine

open Sys2Proof Sys2Proof.Machine

/-- Settles O31: each row by the lemma on its condition. -/
theorem sanderTimers : Obligations.SanderTimers := by
  intro q z hz
  refine ⟨fun e d p i hd isOpen hp short over' hi start => ?_, fun e d hd waits => ?_,
    ⟨_, _, actRunning_eq hz rfl q, dropExpired_eq_some _ _, dropExpired_eq_some _ _⟩,
    ⟨_, actRunning_eq hz rfl q, dropExpired_eq_some _ _⟩, fun e x d hx hd => ?_⟩
  · subst hd
    refine actRunning_eq hz ?_ q
    have ended : openTimeOver z.time (sanderAt z (axleOf e)) = true := (openTimeOver_iff _ _).mpr ⟨p, hp, short, over'⟩
    have sand := settleBox_openTime (d := sanderAt z (axleOf e)) hp hi start over'
    rw [openTimeEnd_closes isOpen ended, closeValve_eq, sand]
    rfl
  · subst hd
    exact actRunning_eq hz (openTimeEnd_waits (waits.imp_right openTimeOver_eq_false)) q
  · subst hx hd
    have demand : demandFor z (axleOf e) = true ↔ axleOf e = leadingAxle z ∧ z.sanding.demandOn = true := demandFor_iff z _
    have spreads := spreading_iff (sanderAt z (axleOf e))
    refine ⟨fun state pipe off => ⟨fun owed => ?_, fun free => ?_⟩, fun h => ?_, fun state due => ?_, fun h => ?_,
      fun state due admitted => ?_, fun state due barred => ?_, fun h => ?_⟩
    · refine actRunning_eq hz ?_ q
      rw [tailEmpty_empty state pipe (demandFor_eq_false off), if_pos (by exact owed), toResting_empty (d := sanderAt z (axleOf e)) pipe]
      rfl
    · refine actRunning_eq hz ?_ q
      rw [tailEmpty_empty state pipe (demandFor_eq_false off), if_neg (by rw [sanderAt, free]; nofun), toClosed_empty (d := sanderAt z (axleOf e)) pipe]
      rfl
    · exact actRunning_eq hz (tailEmpty_other' (h.imp_right (Or.imp_right demand.mpr))) q
    · exact actRunning_eq hz (restExpiry_due state due) q
    · exact actRunning_eq hz (restExpiry_early h) q
    · refine actRunning_eq hz ?_ q
      rw [dutyLimit_due (spreads.mpr state) due, if_pos admitted]
      rfl
    · refine actRunning_eq hz ?_ q
      rw [dutyLimit_due (spreads.mpr state) due, if_neg (by rw [barred]; nofun),
        tailNow_spreads (by rw [sanderAt_setSander]; exact spreads.mpr state), sanderAt_setSander, toTailing_eq,
        setSander_setSander, settleBox_congr (d := { sanderAt z (axleOf e) with restOwed := true }) (e := sanderAt z (axleOf e)) rfl rfl rfl]
      rfl
    · exact actRunning_eq hz (dutyLimit_early (h.imp_left (mt spreads.mp))) q

end

section
/-! SUPPORT. Entry to FLOWING and the dosing period (R93, R97 to R100); SAND_EMPTY and FILLED (R101, R102). -/

namespace Sys2Proof.Machine

/-! ## Observations of the sanders (R99) -/

theorem buildRail_setSander (s : Station) (x : Axle) (d : Sander) : buildRail (setSander s x d) = setSander (buildRail s) x d := by
  unfold buildRail
  by_cases h : (s.port.railSlot.isNone && !railOnLine s && !(waiting s.map.outbox).isEmpty) = true
  · rw [if_pos h, if_pos (by exact h)]; rfl
  · rw [if_neg h, if_neg (by exact h)]

theorem observe_setSander (k : ObsKind) (cell : Option Nat) (mu : Nat) (s : Station) (x : Axle) (d : Sander) :
    observe k cell mu (setSander s x d) = setSander (observe k cell mu s) x d := by
  cases cell with
  | none => rfl
  | some n =>
    simp only [observe]
    rw [← buildRail_setSander]
    rfl

/-- What an own observation writes. -/
theorem observe_self (k : ObsKind) (cell : Option Nat) (mu : Nat) (s : Station) : observe k cell mu s = { s with
    map := { s.map with entries := (observe k cell mu s).map.entries, outbox := (observe k cell mu s).map.outbox }
    port := { s.port with railSlot := (observe k cell mu s).port.railSlot, seqRail := (observe k cell mu s).port.seqRail } } := by
  cases cell with
  | none => rfl
  | some c =>
    simp only [observe]
    rw [buildRail_self]

/-- R99: what recording a cell writes. -/
theorem recordCell_eq (x : Axle) (s : Station) : recordCell x s =
    setSander (observe .sanded (pick s.pos.attrSander x).mapCell 0 s) x
      { sanderAt s x with lastCell := some (routeCell (pick s.pos.attrSander x).position) } :=
  observe_setSander _ _ _ _ _ _

/-! ## The dosing period (R97, R98, R100) -/

/-- R98: a dosing period that begins with the valve opened where the box holds sand. -/
def dosed (now : Millis) (base : Nat) (p : Dosing) (d : Sander) : Sander :=
  { d with
    dosing := some p, box := (settleBox now d).box, valveOpen := decide ((settleBox now d).box ≠ 0)
    interval := if (settleBox now d).box = 0 then none else some ⟨now, (settleBox now d).box, base⟩ }

theorem openValve_dosed (now : Millis) (base : Nat) (p : Dosing) (d : Sander) :
    openValve now base { closeValve now d with dosing := some p } = dosed now base p d := by
  have box : (settleBox now { closeValve now d with dosing := some p }).box = (settleBox now d).box := by
    rw [settleBox_shut (by rfl), closeValve_eq]
  unfold dosed
  by_cases empty : (settleBox now d).box = 0
  · rw [openValve_empty base (box.trans empty), closeValve_eq, if_pos empty, empty]
    rfl
  · rw [openValve_opens base (by rw [box]; exact empty), box, closeValve_eq, if_neg empty, decide_eq_true empty]

/-- R98: the open time of a period that begins at a moment. -/
def periodOpen (s : Station) (x : Axle) : Nat :=
  400 / dividerFor (sanderRateSet s x) (speedBand s.ref.speed.natAbs) s.sanding.high

theorem beginPeriod_eq (start : Millis) (x : Axle) (s : Station) : beginPeriod start x s =
    setSander s x (dosed s.time (sanderRateSet s x).base ⟨start, (sanderRateSet s x).base, periodOpen s x⟩ (sanderAt s x)) := by
  rw [← openValve_dosed]
  rfl

theorem speedBand_eq {v band : Nat} (slow : v < 2800 → band = 0) (low : 2800 ≤ v → v < 5600 → band = 1)
    (high : 5600 ≤ v → v < 8300 → band = 2) (fast : 8300 ≤ v → band = 3) : speedBand v = band := by
  unfold speedBand
  split_ifs <;> omega

/-- R93: what an entry to FLOWING writes. -/
theorem enterFlowing_eq (x : Axle) (s : Station) : enterFlowing x s =
    setSander (observe .sanded (pick s.pos.attrSander x).mapCell 0 s) x
      (dosed s.time (sanderRateSet s x).base ⟨s.time, (sanderRateSet s x).base, periodOpen s x⟩
        { sanderAt s x with
          state := .flowing, pipe := (sanderAt s x).flowDelay
          lastCell := some (routeCell (pick s.pos.attrSander x).position) }) := by
  have recorded (d : Sander) : recordCell x (setSander s x d) =
      setSander (observe .sanded (pick s.pos.attrSander x).mapCell 0 s) x
        { d with lastCell := some (routeCell (pick s.pos.attrSander x).position) } := by
    rw [recordCell_eq, observe_setSander, setSander_setSander, sanderAt_setSander]
    rfl
  obtain ⟨_, _, e⟩ := observe_frame .sanded (pick s.pos.attrSander x).mapCell 0 s
  unfold enterFlowing
  simp only
  rw [recorded, beginPeriod_eq, sanderAt_setSander, setSander_setSander, e]
  rfl

theorem mustTail_iff (s : Station) (x : Axle) : mustTail s x = true ↔ (sanderAt s x).box = 0 ∨ ¬demandFor s x = true ∨
    ((sanderAt s x).restOwed = true ∧ s.sanding.admitted.emergency = false) := by
  simp only [mustTail, Bool.or_eq_true, beq_iff_eq, Bool.not_eq_true', Bool.and_eq_true, Bool.not_eq_true, or_assoc]

theorem pipeFull_full {x : Axle} {s : Station} (state : (sanderAt s x).state = .filling)
    (full : (sanderAt s x).flowDelay ≤ (sanderAt s x).pipe) (goesOn : ¬mustTail s x = true) : pipeFull x s = enterFlowing x s :=
  if_pos ⟨state, full, Bool.eq_false_iff.mpr goesOn⟩

theorem pipeFull_waits {x : Axle} {s : Station} (h : (sanderAt s x).state ≠ .filling ∨
    (sanderAt s x).pipe < (sanderAt s x).flowDelay ∨ mustTail s x = true) : pipeFull x s = s := by
  refine if_neg fun ⟨state, full, goesOn⟩ => ?_
  rcases h with h | h | h
  · exact h state
  · omega
  · rw [h] at goesOn; cases goesOn

theorem dosingPeriodStart_due {x : Axle} {s : Station} {p : Dosing} (state : (sanderAt s x).state = .flowing)
    (hp : (sanderAt s x).dosing = some p) (due : 400 ≤ age s.time p.start) :
    dosingPeriodStart x s = beginPeriod (after p.start 400) x s := by
  simp only [dosingPeriodStart, state, hp, due, if_true]

theorem dosingPeriodStart_waits {x : Axle} {s : Station} (h : (sanderAt s x).state ≠ .flowing ∨
    ∀ p, (sanderAt s x).dosing = some p → age s.time p.start < 400) : dosingPeriodStart x s = s := by
  unfold dosingPeriodStart
  simp only
  split
  · rename_i p state hp
    rcases h with h | h
    · exact absurd state h
    · rw [if_neg (not_le.mpr (h p hp))]
  · rfl

end Sys2Proof.Machine

open Sys2Proof Sys2Proof.Machine

/-- Settles O30: an entry to FLOWING records its cell and begins its period; both rows begin a period alike. -/
theorem flowingAndDosing : Obligations.FlowingAndDosing := by
  intro e x d set band divider openMs box q z hz hx hd hset slow low high fast hdivider hopen hbox
  subst hx hd hset
  have bandEq := speedBand_eq slow low high fast
  have openEq : periodOpen z (axleOf e) = openMs := by
    rw [hopen, hdivider, periodOpen, bandEq]; rfl
  have boxEq {v : Sander} (interval : v.interval = (pick z.sanders (axleOf e)).interval)
      (dosing : v.dosing = (pick z.sanders (axleOf e)).dosing) (same : v.box = (pick z.sanders (axleOf e)).box) :
      (settleBox z.time v).box = box := (settleBox_congr interval dosing same).trans hbox.symm
  refine ⟨fun state full sand leads on admitted => ?_, fun h => actRunning_eq hz (pipeFull_waits ?_) q, fun p state hp due => ?_,
    fun h => actRunning_eq hz (dosingPeriodStart_waits h) q⟩
  · have stays : ¬mustTail z (axleOf e) = true := by
      rw [mustTail_iff, not_or, not_or, not_not]
      refine ⟨sand, (demandFor_iff z _).mpr ⟨leads, on⟩, fun ⟨owed, barred⟩ => ?_⟩
      rcases admitted with h | h
      · rw [sanderAt, h] at owed; cases owed
      · rw [h] at barred; cases barred
    have self := observe_self .sanded (pick z.pos.attrSander (axleOf e)).mapCell 0 z
    have row := (pipeFull_full (x := axleOf e) (s := z) state full stays).trans (enterFlowing_eq _ _)
    have sandNow : (settleBox z.time { sanderAt z (axleOf e) with
        state := .flowing, pipe := (sanderAt z (axleOf e)).flowDelay
        lastCell := some (routeCell (pick z.pos.attrSander (axleOf e)).position) }).box = box := boxEq rfl rfl rfl
    rw [openEq, dosed, sandNow] at row
    refine ⟨_, actRunning_eq hz row q, ?_, fun outside => ?_, fun c o inside ho => ?_⟩
    · generalize observe .sanded (pick z.pos.attrSander (axleOf e)).mapCell 0 z = u at self ⊢
      rw [self]
      rfl
    · rw [outside]; exact ⟨rfl, rfl⟩
    · rw [inside, ho]
      exact ⟨congrArg (·.map.entries) (buildRail_self _), buildRail_obs _⟩
  · rcases h with h | h | h | h | h | ⟨owed, barred⟩
    · exact .inl h
    · exact .inr (.inl h)
    · exact .inr (.inr ((mustTail_iff _ _).mpr (.inl h)))
    · exact .inr (.inr ((mustTail_iff _ _).mpr (.inr (.inl (by rw [demandFor_eq_false (.inl h)]; nofun)))))
    · exact .inr (.inr ((mustTail_iff _ _).mpr (.inr (.inl (by rw [demandFor_eq_false (.inr h)]; nofun)))))
    · exact .inr (.inr ((mustTail_iff _ _).mpr (.inr (.inr ⟨owed, barred⟩))))
  · refine actRunning_eq hz ?_ q
    have sand : (settleBox z.time (sanderAt z (axleOf e))).box = box := boxEq rfl rfl rfl
    rw [dosingPeriodStart_due state hp due, beginPeriod_eq, openEq, dosed, sand]
    rfl

end

section
/-! SUPPORT. SAND_EMPTY and FILLED (R101, R102). -/

namespace Sys2Proof.Machine

/-! ## SAND_EMPTY (R101) -/

theorem settleBox_drained {now : Millis} {d : Sander} (h : (settleBox now d).box = 0) :
    (settleBox now { d with box := 0, emptyReported := true }).box = 0 := by
  cases hi : d.interval with
  | none => rw [settleBox_shut rfl]
  | some i =>
    unfold settleBox openMs at h ⊢
    simp only [hi] at h ⊢
    exact h

/-- R101: an estimate at 0 is reported once a stay. -/
theorem noteEmpty_empty {x : Axle} {s : Station} (h : (sanderAt s x).box = 0) : noteEmpty x s =
    { setSander s x { sanderAt s x with emptyReported := true } with
      faults := if (sanderAt s x).emptyReported then s.faults
        else recordFault s.faults s.time s.pos.attrLeading.mapCell .sandEmpty (some x) none } := by
  unfold noteEmpty
  simp only
  by_cases reported : (sanderAt s x).emptyReported = true
  · have same : { sanderAt s x with emptyReported := true } = sanderAt s x := by rw [← reported]
    rw [if_neg (by rw [reported]; nofun), if_pos reported, same]
    unfold setSander sanderAt
    rw [put_pick]
  · rw [if_pos ⟨h, Bool.eq_false_iff.mpr reported⟩, if_neg reported]
    rfl

/-- R101, R102: a sander that leaves FILLING or FLOWING at this moment, and another as it is. -/
def stopped (now : Millis) (d : Sander) : Sander := if spreading d then toTailing now d else d

theorem tailNow_eq (x : Axle) (s : Station) : tailNow x s = setSander s x (stopped s.time (sanderAt s x)) := by
  unfold stopped
  by_cases h : spreading (sanderAt s x) = true
  · rw [tailNow_spreads h, if_pos h]
  · rw [tailNow_idle h, if_neg h]
    unfold setSander sanderAt
    rw [put_pick]

theorem stopped_kept (now : Millis) (d : Sander) : (stopped now d).pipe = d.pipe ∧ (stopped now d).duty = d.duty ∧
    (stopped now d).restOwed = d.restOwed ∧ (stopped now d).emptyReported = d.emptyReported := by
  unfold stopped
  split
  · rw [toTailing_eq]; exact ⟨rfl, rfl, rfl, rfl⟩
  · exact ⟨rfl, rfl, rfl, rfl⟩

theorem stopped_spreads {now : Millis} {d : Sander} (h : d.state = .filling ∨ d.state = .flowing) :
    (stopped now d).state = .tailing ∧ (stopped now d).valveOpen = false ∧ (stopped now d).interval = none := by
  rw [stopped, if_pos ((spreading_iff d).mpr h), toTailing_eq]
  exact ⟨rfl, rfl, rfl⟩

theorem stopped_idle {now : Millis} {d : Sander} (filling : d.state ≠ .filling) (flowing : d.state ≠ .flowing) :
    (stopped now d).state = d.state := congrArg Sander.state (if_neg (not_spreading filling flowing))

theorem stopped_box {now : Millis} {d : Sander} (h : (settleBox now d).box = d.box) : (stopped now d).box = d.box := by
  unfold stopped
  split
  · rw [toTailing_eq]; exact h
  · rfl

/-- R101: what SAND_EMPTY does with an estimate that has come to 0. -/
theorem sandEmpty_empty {x : Axle} {s : Station} (h : (settleBox s.time (sanderAt s x)).box = 0) : sandEmpty x s =
    { setSander s x (stopped s.time { sanderAt s x with box := 0, emptyReported := true }) with
      faults := if (sanderAt s x).emptyReported then s.faults
        else recordFault s.faults s.time s.pos.attrLeading.mapCell .sandEmpty (some x) none } := by
  have settled : settleBox s.time (sanderAt s x) = { sanderAt s x with box := 0 } := by rw [settleBox_self, h]
  unfold sandEmpty
  simp only
  rw [if_pos h, settled, noteEmpty_empty (by rw [sanderAt_setSander]), sanderAt_setSander, setSander_setSander, tailNow_eq]
  cases x <;> rfl

theorem sandEmpty_sand {x : Axle} {s : Station} (h : (settleBox s.time (sanderAt s x)).box ≠ 0) : sandEmpty x s = s := if_neg h

/-! ## FILLED (R102) -/

theorem takeFilled_sand {x : Axle} {grams : Nat} {s : Station} (h : filledMg s.figs grams ≠ 0) :
    takeFilled x grams s = setSander s x (fillBox s.time (filledMg s.figs grams) (sanderAt s x)) := if_neg h

/-- R102: a sander whose box is set to 0, with what is then reported of it. -/
def emptied (now : Millis) (reported : Bool) (d : Sander) : Sander := { fillBox now 0 d with emptyReported := reported }

theorem emptied_kept (now : Millis) (b : Bool) (d : Sander) : (emptied now b d).pipe = d.pipe ∧
    (d.interval.isSome = d.valveOpen → (emptied now b d).valveOpen = false) ∧ (emptied now b d).state = d.state ∧
    (emptied now b d).box = 0 ∧ (emptied now b d).interval = none := by
  unfold emptied
  cases hi : d.interval with
  | none =>
    rw [fillBox_shut hi]
    exact ⟨rfl, fun h => h.symm, rfl, rfl, hi⟩
  | some i =>
    rw [fillBox_emptied hi]
    exact ⟨rfl, fun _ => rfl, rfl, rfl, rfl⟩

/-- R97: a sander that stops with its valve shut. -/
theorem stopped_shut {now : Millis} {d : Sander} (valve : d.valveOpen = false) (interval : d.interval = none) :
    (stopped now d).valveOpen = false ∧ (stopped now d).interval = none := by
  unfold stopped
  split
  · rw [toTailing_eq]; exact ⟨rfl, rfl⟩
  · exact ⟨valve, interval⟩

/-- R102: a FILLED of 0 g empties the box, reports it when sand stood in it, and stops the sander. -/
theorem takeFilled_none {x : Axle} {grams : Nat} {s : Station} (h : filledMg s.figs grams = 0) :
    takeFilled x grams s = { setSander s x (stopped s.time (emptied s.time
        ((sanderAt s x).emptyReported || decide (0 < (settleBox s.time (sanderAt s x)).box)) (sanderAt s x))) with
      faults := if (settleBox s.time (sanderAt s x)).box = 0 then s.faults
        else recordFault s.faults s.time s.pos.attrLeading.mapCell .sandEmpty (some x) none } := by
  have reported : (fillBox s.time 0 (sanderAt s x)).emptyReported = (sanderAt s x).emptyReported := by
    cases hi : (sanderAt s x).interval with
    | none => rw [fillBox_shut hi]; rfl
    | some i => rw [fillBox_emptied hi]
  unfold takeFilled
  simp only
  rw [if_pos h, h, tailNow_eq]
  by_cases stood : (settleBox s.time (sanderAt s x)).box = 0
  · rw [if_neg (by omega), if_pos stood, sanderAt_setSander, setSander_setSander, decide_eq_false (by omega), Bool.or_false,
      ← reported]
    rfl
  · rw [if_pos (by omega), if_neg stood, decide_eq_true (Nat.pos_of_ne_zero stood), Bool.or_true]
    cases x <;> rfl

/-- R102, R183, R185: what FILLED leaves once its sander is taken care of. -/
theorem answerFilled {s w : Station} {x : Axle} {v : Sander} {f : FaultTable} (h : w = { setSander s x v with faults := f }) :
    answerCode 8 .ok (requestSave w) = { s with
      sanders := put s.sanders x v, faults := f, store := (requestSave w).store, reply := some ⟨8, .ok, .empty⟩ } ∧
    (s.store.write = none → (requestSave w).store = { s.store with
      write := some (.running ⟨s.axles.a.trim, s.axles.b.trim⟩ ⟨(put s.sanders x v).a.box, (put s.sanders x v).b.box⟩ s.time) }) ∧
    (s.store.write ≠ none → (requestSave w).store = { s.store with pendingSave := true }) := by
  subst h
  refine ⟨?_, fun idle => ?_, fun busy => ?_⟩
  · obtain ⟨_, e⟩ := requestSave_frame { setSander s x v with faults := f }
    rw [answerCode, e]
    rfl
  · rw [requestSave_idle (by exact idle)]; rfl
  · rw [requestSave_busy (by exact busy)]; rfl

theorem sanderNumber_cases (n : Nat) (e : CabEnd) (h : n = match e with | .end1 => 1 | .end2 => 2) :
    sanderNumber n = some (axleOf e) := by
  cases e <;> rw [h] <;> rfl

end Sys2Proof.Machine

open Sys2Proof Sys2Proof.Machine

/-- Settles O32: SAND_EMPTY and a FILLED of 0 g stop the sander and report; a FILLED with sand begins the interval anew. -/
theorem sandEmptyAndFilled : Obligations.SandEmptyAndFilled := by
  intro e x d box q z hz hx hd hbox
  subst hx hd
  refine ⟨fun sand => actRunning_eq hz (sandEmpty_sand (by exact fun h => sand (hbox.trans h))) q, fun empty => ?_,
    fun req mg sum length atEnd hmg => ?_, fun req sum length no1 no2 => ?_⟩
  · have zero : (settleBox z.time (sanderAt z (axleOf e))).box = 0 := hbox.symm.trans empty
    obtain ⟨pipe, duty, owed, reported⟩ := stopped_kept z.time { sanderAt z (axleOf e) with box := 0, emptyReported := true }
    exact ⟨_, actRunning_eq hz (sandEmpty_empty zero) q, stopped_box (settleBox_drained zero), reported, pipe, duty, owed,
      fun spreads => stopped_spreads spreads, fun filling flowing => stopped_idle filling flowing⟩
  · have row : filled req z = answerCode 8 .ok (requestSave (takeFilled (axleOf e) (bytesAt req.args 1 2) z)) := by
      rw [filled, argByte, sanderNumber_cases _ e atEnd]
    have amount : filledMg z.figs (bytesAt req.args 1 2) = mg := hmg.symm
    have good := (taken_good 8 req (filled req) z sum (by rw [length]; rfl)).trans row
    rcases Nat.eq_zero_or_pos mg with none' | some'
    · have took := takeFilled_none (x := axleOf e) (amount.trans none')
      obtain ⟨answer, idle, busy⟩ := answerFilled took
      obtain ⟨pipe, shut, state, none'', interval⟩ := emptied_kept z.time ((sanderAt z (axleOf e)).emptyReported ||
        decide (0 < (settleBox z.time (sanderAt z (axleOf e))).box)) (sanderAt z (axleOf e))
      refine ⟨_, actRunning_eq hz (good.trans answer) q, ?_, ?_, fun h => absurd h (by omega), fun _ => ?_, idle, busy⟩
      · rw [pick_put]
      · rw [pick_put]
        exact (stopped_box (by rw [settleBox_shut interval])).trans (none''.trans none'.symm)
      · rw [pick_put]
        refine ⟨(stopped_kept _ _).1.trans pipe, fun paired => stopped_shut (shut paired) interval, fun spreads => ?_,
          fun filling flowing => ?_, ?_⟩
        · exact (stopped_spreads (by rw [state]; exact spreads)).1
        · exact (stopped_idle (by rw [state]; exact filling) (by rw [state]; exact flowing)).trans state
        · rw [hbox]; rfl
    · have took := takeFilled_sand (x := axleOf e) (by rw [amount]; omega)
      rw [amount] at took
      obtain ⟨answer, idle, busy⟩ := answerFilled (f := z.faults) took
      refine ⟨_, actRunning_eq hz (good.trans answer) q, ?_, ?_, fun _ => ?_, fun h => absurd h (by omega), idle, busy⟩
      · rw [pick_put]
      · rw [pick_put]
        cases hi : (sanderAt z (axleOf e)).interval with
        | none => rw [fillBox_shut hi]
        | some i => rw [fillBox_open hi (by omega)]
      · rw [pick_put]
        cases hi : (sanderAt z (axleOf e)).interval with
        | none =>
          rw [fillBox_shut hi, if_pos some']
          exact ⟨rfl, fun i h => absurd (hi.symm.trans h) nofun, rfl⟩
        | some i =>
          rw [fillBox_open hi (by omega)]
          refine ⟨rfl, fun j h => ?_, rfl⟩
          obtain rfl : i = j := Option.some.inj (hi.symm.trans h)
          rfl
  · refine actRunning_eq hz ((taken_good _ _ _ _ sum (by rw [length]; rfl)).trans ?_) q
    unfold filled argByte sanderNumber
    rw [if_neg no1, if_neg no2]
    rfl

end

section
/-! SUPPORT. The sander decision step by step: the times (R86, R93, R95, R96) and the run of a sander (R92 to R97). -/

namespace Sys2Proof.Machine

/-! ## Step 1 (R93, R95, R96, R98, R100) -/

/-- R86: a sander with its times advanced and its estimate brought up to the moment. -/
def timed (now : Millis) (d : Sander) : Sander :=
  settleBox now (if (advanceTimes now d).valveOpen = true ∧ openTimeOver now (advanceTimes now d) = true
    then closeValve now (advanceTimes now d) else advanceTimes now d)

/-- The valve and the box are all that step 1 writes after the times. -/
theorem timed_eq (now : Millis) (d : Sander) : ∃ b v i, timed now d =
    { advanceTimes now d with box := b, valveOpen := v, interval := i } := by
  unfold timed
  rw [settleBox_self]
  split
  · rw [closeValve_eq]; exact ⟨_, _, _, rfl⟩
  · exact ⟨_, _, _, rfl⟩

theorem settleBox_settled (now : Millis) (d : Sander) : (settleBox now (settleBox now d)).box = (settleBox now d).box := by
  cases h : d.interval with
  | none => rw [settleBox_shut h, settleBox_shut h]
  | some i =>
    have settled : settleBox now d = { d with box := i.estimate - i.base * openMs now d i / 1000 } := by
      simp only [settleBox, h]
    rw [settled]
    simp only [settleBox, openMs, h]

theorem timed_settled (now : Millis) (d : Sander) : (settleBox now (timed now d)).box = (timed now d).box :=
  settleBox_settled _ _

theorem settleBox_reported (now : Millis) (d : Sander) (r : Bool) :
    settleBox now { d with emptyReported := r } = { settleBox now d with emptyReported := r } := by
  rw [settleBox_self, settleBox_self now d, settleBox_congr (d := { d with emptyReported := r }) (e := d) rfl rfl rfl]

theorem timed_reported (now : Millis) (d : Sander) (r : Bool) :
    timed now { d with emptyReported := r } = { timed now d with emptyReported := r } := by
  have advanced : advanceTimes now { d with emptyReported := r } = { advanceTimes now d with emptyReported := r } := by
    unfold advanceTimes
    simp only
    cases d.state <;> rfl
  have closed (e : Sander) : closeValve now { e with emptyReported := r } = { closeValve now e with emptyReported := r } := by
    rw [closeValve, settleBox_reported]
    rfl
  unfold timed
  rw [advanced, closed]
  by_cases over' : (advanceTimes now d).valveOpen = true ∧ openTimeOver now (advanceTimes now d) = true
  · rw [if_pos over', if_pos (by exact over'), settleBox_reported]
  · rw [if_neg over', if_neg (by exact over'), settleBox_reported]

theorem openTimeEnd_sander (x : Axle) (s : Station) : openTimeEnd x s = setSander s x
    (if (sanderAt s x).valveOpen = true ∧ openTimeOver s.time (sanderAt s x) = true then closeValve s.time (sanderAt s x)
      else sanderAt s x) := by
  unfold openTimeEnd
  simp only
  split
  · rfl
  · unfold setSander sanderAt
    rw [put_pick]

/-- R86: what step 1 leaves of a sander. -/
theorem advanceSander_own (x : Axle) (s : Station) :
    ∃ b, sanderAt (advanceSander x s) x = { timed s.time (sanderAt s x) with emptyReported := b } := by
  unfold advanceSander
  simp only
  rw [openTimeEnd_sander, sanderAt_setSander, setSander_setSander, sanderAt_setSander, setSander_setSander]
  have note (d : Sander) : ∃ b, sanderAt (noteEmpty x (setSander s x d)) x = { d with emptyReported := b } := by
    obtain ⟨b, e⟩ := sanderAt_noteEmpty x x (setSander s x d)
    rw [sanderAt_setSander] at e
    exact ⟨b, e⟩
  exact note _

theorem advanceSander_other (x : Axle) (s : Station) :
    ∃ b, sanderAt (advanceSander x s) (otherAxle x) = { sanderAt s (otherAxle x) with emptyReported := b } := by
  unfold advanceSander
  simp only
  rw [openTimeEnd_sander, sanderAt_setSander, setSander_setSander, sanderAt_setSander, setSander_setSander]
  have note (d : Sander) : ∃ b, sanderAt (noteEmpty x (setSander s x d)) (otherAxle x) =
      { sanderAt s (otherAxle x) with emptyReported := b } := by
    obtain ⟨b, e⟩ := sanderAt_noteEmpty x (otherAxle x) (setSander s x d)
    rw [sanderAt_setSander_other] at e
    exact ⟨b, e⟩
  exact note _

/-! ## Steps 1 to 4 -/

/-- R86: the station after step 1 of a decision. -/
def advancedBoth (z : Station) : Station :=
  advanceSander .b (advanceSander .a { z with sanding := { z.sanding with lastDecision := z.time } })

/-- R86: the station after step 2. -/
def recordedBoth (z : Station) : Station := recordNewCell .b (recordNewCell .a (advancedBoth z))

/-- R86: the station after step 4. -/
def admitting (z : Station) : Station := admitSources (queryAim (dropPassedAim (recordedBoth z)))

theorem sanderDecision_eq (z : Station) : sanderDecision z = showSanders (runSander .b (runSander .a (admitting z))) := rfl

theorem advancedBoth_sander (z : Station) (x : Axle) :
    ∃ b, sanderAt (advancedBoth z) x = { timed z.time (pick z.sanders x) with emptyReported := b } := by
  have started (y : Axle) : sanderAt { z with sanding := { z.sanding with lastDecision := z.time } } y = pick z.sanders y := rfl
  have time : (advanceSander .a { z with sanding := { z.sanding with lastDecision := z.time } }).time = z.time := by
    obtain ⟨_, _, e⟩ := advanceSander_frame .a { z with sanding := { z.sanding with lastDecision := z.time } }
    rw [e]
  cases x with
  | a =>
    obtain ⟨b, own⟩ := advanceSander_own .a { z with sanding := { z.sanding with lastDecision := z.time } }
    obtain ⟨c, other⟩ := advanceSander_other .b (advanceSander .a { z with sanding := { z.sanding with lastDecision := z.time } })
    rw [show otherAxle .b = .a from rfl, own, started] at other
    exact ⟨c, other⟩
  | b =>
    obtain ⟨b, own⟩ := advanceSander_own .b (advanceSander .a { z with sanding := { z.sanding with lastDecision := z.time } })
    obtain ⟨c, other⟩ := advanceSander_other .a { z with sanding := { z.sanding with lastDecision := z.time } }
    rw [show otherAxle .a = .b from rfl, started] at other
    rw [time, other, timed_reported] at own
    exact ⟨b, own⟩

theorem admitting_sander (z : Station) (x : Axle) : ∃ b c, sanderAt (admitting z) x =
    { timed z.time (pick z.sanders x) with emptyReported := b, lastCell := c } := by
  have aimed (t : Station) : sanderAt (admitSources (queryAim (dropPassedAim t))) x = sanderAt t x := by
    obtain ⟨_, query⟩ := queryAim_frame (dropPassedAim t)
    obtain ⟨_, passed⟩ := dropPassedAim_frame t
    rw [query, passed]
    rfl
  obtain ⟨b, e⟩ := advancedBoth_sander z x
  obtain ⟨_, e1⟩ := sanderAt_recordNewCell .a x (advancedBoth z)
  obtain ⟨c, e2⟩ := sanderAt_recordNewCell .b x (recordNewCell .a (advancedBoth z))
  rw [admitting, aimed, recordedBoth, e2, e1, e]
  exact ⟨b, c, rfl⟩

/-- What a decision can write. -/
def DecisionFrame (s t : Station) : Prop :=
  ∃ a d f p m, t = { s with sanding := a, sanders := d, faults := f, port := p, map := m }

theorem DecisionFrame.trans {s t u : Station} (h : DecisionFrame s t) (h' : DecisionFrame t u) : DecisionFrame s u := by
  obtain ⟨_, _, _, _, _, rfl⟩ := h
  obtain ⟨_, _, _, _, _, rfl⟩ := h'
  exact ⟨_, _, _, _, _, rfl⟩

theorem decisionFrame_advanceSander (x : Axle) (s : Station) : DecisionFrame s (advanceSander x s) := by
  obtain ⟨_, _, e⟩ := advanceSander_frame x s
  exact ⟨_, _, _, _, _, e⟩

theorem decisionFrame_recordNewCell (x : Axle) (s : Station) : DecisionFrame s (recordNewCell x s) := by
  obtain ⟨_, _, _, e⟩ := recordNewCell_frame x s
  exact ⟨_, _, _, _, _, e⟩

theorem decisionFrame_admits (s : Station) : DecisionFrame s (admitSources (queryAim (dropPassedAim s))) := by
  obtain ⟨_, passed⟩ := dropPassedAim_frame s
  obtain ⟨_, query⟩ := queryAim_frame (dropPassedAim s)
  obtain ⟨_, admits⟩ := admitSources_frame (queryAim (dropPassedAim s))
  have first : DecisionFrame s (dropPassedAim s) := ⟨_, _, _, _, _, passed⟩
  have second : DecisionFrame (dropPassedAim s) (queryAim (dropPassedAim s)) := ⟨_, _, _, _, _, query⟩
  have third : DecisionFrame (queryAim (dropPassedAim s)) (admitSources (queryAim (dropPassedAim s))) :=
    ⟨_, _, _, _, _, admits⟩
  exact (first.trans second).trans third

theorem decisionFrame_recordedBoth (z : Station) : DecisionFrame z (recordedBoth z) := by
  have starts : DecisionFrame z { z with sanding := { z.sanding with lastDecision := z.time } } := ⟨_, _, _, _, _, rfl⟩
  exact (((starts.trans (decisionFrame_advanceSander .a _)).trans (decisionFrame_advanceSander .b _)).trans
    (decisionFrame_recordNewCell .a _)).trans (decisionFrame_recordNewCell .b _)

theorem admitting_frame (z : Station) : DecisionFrame z (admitting z) :=
  (decisionFrame_recordedBoth z).trans (decisionFrame_admits _)

/-- Step 5 runs each sander as if it ran alone. -/
theorem runBoth_runs (u : Station) (x : Axle) : ∃ s, sanderAt (showSanders (runSander .b (runSander .a u))) x =
      sanderAt (runSander x s) x ∧ sanderAt s x = sanderAt u x ∧ s.sanding = u.sanding ∧ s.pos = u.pos ∧ s.figs = u.figs ∧
    s.time = u.time ∧ s.ref = u.ref := by
  have shown (t : Station) (y : Axle) : sanderAt (showSanders t) y = sanderAt t y := rfl
  rw [shown]
  cases x with
  | a => exact ⟨u, runSander_other .b _, rfl, rfl, rfl, rfl, rfl, rfl⟩
  | b =>
    have other : sanderAt (runSander .a u) .b = sanderAt u .b := runSander_other .a u
    obtain ⟨_, _, _, r⟩ := runSander_frame .a u
    refine ⟨runSander .a u, rfl, other, ?_, ?_, ?_, ?_, ?_⟩ <;> rw [r]

/-- What the run of a sander in a decision finds: the sander as steps 1 and 2 leave it, and the station of step 4. -/
theorem sanderDecision_runs (z : Station) (x : Axle) : ∃ s b c, sanderAt (sanderDecision z) x = sanderAt (runSander x s) x ∧
    sanderAt s x = { timed z.time (pick z.sanders x) with emptyReported := b, lastCell := c } ∧
    s.sanding = (admitting z).sanding ∧ s.pos = z.pos ∧ s.figs = z.figs ∧ s.time = z.time ∧ s.ref = z.ref := by
  obtain ⟨_, _, _, _, _, e⟩ := admitting_frame z
  obtain ⟨b, c, own⟩ := admitting_sander z x
  obtain ⟨s, runs, found, sanding, pos, figs, time, ref⟩ := runBoth_runs (admitting z) x
  have kept : (admitting z).pos = z.pos ∧ (admitting z).figs = z.figs ∧ (admitting z).time = z.time ∧
      (admitting z).ref = z.ref := by rw [e]; exact ⟨rfl, rfl, rfl, rfl⟩
  obtain ⟨pos', figs', time', ref'⟩ := kept
  exact ⟨s, b, c, runs, found.trans own, sanding, pos.trans pos', figs.trans figs', time.trans time', ref.trans ref'⟩

theorem runBoth_sanding (u : Station) : (showSanders (runSander .b (runSander .a u))).sanding = { u.sanding with
    shownStates := ⟨(showSanders (runSander .b (runSander .a u))).sanders.a.state,
      (showSanders (runSander .b (runSander .a u))).sanders.b.state⟩
    shownBoxes := ⟨(showSanders (runSander .b (runSander .a u))).sanders.a.box,
      (showSanders (runSander .b (runSander .a u))).sanders.b.box⟩ } := by
  obtain ⟨_, _, _, a⟩ := runSander_frame .a u
  obtain ⟨_, _, _, b⟩ := runSander_frame .b (runSander .a u)
  rw [b, a]
  rfl

theorem sanderDecision_sanding (z : Station) : (sanderDecision z).sanding = { (admitting z).sanding with
    shownStates := ⟨(sanderDecision z).sanders.a.state, (sanderDecision z).sanders.b.state⟩
    shownBoxes := ⟨(sanderDecision z).sanders.a.box, (sanderDecision z).sanders.b.box⟩ } := by
  have shown := runBoth_sanding (admitting z)
  rw [← sanderDecision_eq] at shown
  exact shown

end Sys2Proof.Machine
end

section
/-! SUPPORT. The run of a sander in a decision, state by state (R92 to R97). -/

namespace Sys2Proof.Machine

/-! ## Entries to FILLING (R92, R95) -/

theorem openValve_eq (now : Millis) (base : Nat) (d : Sander) : ∃ v i, openValve now base d =
    { d with box := (settleBox now d).box, valveOpen := v, interval := i } := by
  by_cases empty : (settleBox now d).box = 0
  · exact ⟨_, _, by rw [openValve_empty base empty, empty]⟩
  · exact ⟨_, _, openValve_opens base empty⟩

theorem refill_eq (now : Millis) (d : Sander) : ∃ v i, refill now d = { d with
    state := .filling, lastCell := none, box := (settleBox now d).box, valveOpen := v, interval := i } := by
  obtain ⟨v, i, e⟩ := openValve_eq now d.fillBase { d with state := .filling, lastCell := none }
  have box := settleBox_congr (now := now) (d := { d with state := .filling, lastCell := none }) (e := d) rfl rfl rfl
  exact ⟨v, i, by rw [refill, e, box]⟩

theorem fillFromEmpty_eq (now : Millis) (set : RateSet) (d : Sander) : ∃ v i, fillFromEmpty now set d = { d with
    flowDelay := set.flowDelay, fillBase := set.base, pipe := 0, rest := 0, state := .filling, lastCell := none
    box := (settleBox now d).box, valveOpen := v, interval := i } := by
  obtain ⟨v, i, e⟩ := refill_eq now { d with flowDelay := set.flowDelay, fillBase := set.base, pipe := 0, rest := 0 }
  have box := settleBox_congr (now := now) (d := { d with
    flowDelay := set.flowDelay, fillBase := set.base, pipe := 0, rest := 0 }) (e := d) rfl rfl rfl
  exact ⟨v, i, by rw [fillFromEmpty, e, box]⟩

/-! ## The run by the state found -/

theorem sanderAt_put {x : Axle} {s : Station} {d : Sander} (c : Prop) [Decidable c] :
    sanderAt (if c then setSander s x d else s) x = if c then d else sanderAt s x := by
  split
  · rw [sanderAt_setSander]
  · rfl

theorem runSander_closed {x : Axle} {s : Station} (h : (sanderAt s x).state = .closed) : sanderAt (runSander x s) x =
    if demandFor s x then fillFromEmpty s.time (sanderRateSet s x) (sanderAt s x) else sanderAt s x := by
  have row : runSander x s = if demandFor s x then startFilling x s else s := by simp only [runSander, h]
  rw [row, startFilling, sanderAt_put]

theorem tailNow_own {x : Axle} {s : Station} (h : (sanderAt s x).state = .filling ∨ (sanderAt s x).state = .flowing) :
    sanderAt (tailNow x s) x = toTailing s.time (sanderAt s x) := by
  rw [tailNow_spreads ((spreading_iff _).mpr h), sanderAt_setSander]

/-- R93: a FILLING sander in a decision: it tails, enters FLOWING with its pipe full, or goes on. -/
theorem runSander_filling {x : Axle} {s : Station} (h : (sanderAt s x).state = .filling) : sanderAt (runSander x s) x =
    if mustTail s x then toTailing s.time (sanderAt s x)
    else if (sanderAt s x).flowDelay ≤ (sanderAt s x).pipe then
      dosed s.time (sanderRateSet s x).base ⟨s.time, (sanderRateSet s x).base, periodOpen s x⟩
        { sanderAt s x with
          state := .flowing, pipe := (sanderAt s x).flowDelay
          lastCell := some (routeCell (pick s.pos.attrSander x).position) }
    else sanderAt s x := by
  have row : runSander x s = if mustTail s x then tailNow x s else pipeFull x s := by simp only [runSander, h]
  rw [row]
  by_cases tails : mustTail s x = true
  · rw [if_pos tails, if_pos tails, tailNow_own (.inl h)]
  · rw [if_neg tails, if_neg tails]
    by_cases full : (sanderAt s x).flowDelay ≤ (sanderAt s x).pipe
    · rw [if_pos full, pipeFull_full h full tails, enterFlowing_eq, sanderAt_setSander]
    · rw [if_neg full, pipeFull_waits (.inr (.inl (by omega)))]

/-- What a FLOWING sander that goes on is left as: its period and its valve, and the estimate as it was settled. -/
structure FlowsOn (now : Millis) (d e : Sander) : Prop where
  kept : e = { d with dosing := e.dosing, box := e.box, valveOpen := e.valveOpen, interval := e.interval }
  box : (settleBox now d).box = d.box → e.box = d.box
  valve : ∀ p, e.dosing = some p → e.box ≠ 0 → openTimeOver now e = false → e.valveOpen = true

theorem settleBox_dosed (now : Millis) (base : Nat) (p : Dosing) (d : Sander) :
    (settleBox now (dosed now base p d)).box = (dosed now base p d).box := by
  unfold dosed
  generalize (settleBox now d).box = b
  by_cases empty : b = 0
  · rw [if_pos empty, settleBox_shut rfl]
  · rw [if_neg empty]
    simp only [settleBox, openMs, age_self, Nat.zero_min, Nat.mul_zero, Nat.zero_div, Nat.sub_zero]

theorem dosingPeriodStart_own (x : Axle) (s : Station) (h : (sanderAt s x).state = .flowing) :
    sanderAt (dosingPeriodStart x s) x = sanderAt s x ∨ ∃ base p,
      sanderAt (dosingPeriodStart x s) x = dosed s.time base p (sanderAt s x) := by
  by_cases due : ∃ p, (sanderAt s x).dosing = some p ∧ 400 ≤ age s.time p.start
  · obtain ⟨p, hp, due⟩ := due
    rw [dosingPeriodStart_due h hp due, beginPeriod_eq, sanderAt_setSander]
    exact .inr ⟨_, _, rfl⟩
  · rw [dosingPeriodStart_waits (.inr fun p hp => not_le.mp fun le => due ⟨p, hp, le⟩)]
    exact .inl rfl

/-- R97: what the reopening of a FLOWING sander's valve leaves. -/
theorem reopen_own (x : Axle) (s : Station) (h : (sanderAt s x).state = .flowing) :
    FlowsOn s.time (sanderAt s x) (sanderAt (reopen x s) x) := by
  unfold reopen
  simp only [h]
  split
  · rename_i p _ hp
    split
    · rename_i stays
      refine ⟨rfl, fun _ => rfl, fun _ _ sand within => ?_⟩
      rw [Bool.or_eq_true, Bool.or_eq_true, beq_iff_eq, or_assoc] at stays
      rcases stays with h | h | h
      · exact h
      · exact absurd h sand
      · rw [h] at within; cases within
    · rw [sanderAt_setSander]
      by_cases empty : (settleBox s.time (sanderAt s x)).box = 0
      · rw [openValve_empty _ empty]
        exact ⟨rfl, fun settled => empty.symm.trans settled, fun _ _ sand => absurd rfl sand⟩
      · rw [openValve_opens _ empty]
        exact ⟨rfl, fun settled => settled, fun _ _ _ _ => rfl⟩
  · rename_i none'
    refine ⟨rfl, fun _ => rfl, fun p hp _ _ => ?_⟩
    exact absurd hp (by intro hp; exact none' p rfl hp)

theorem runSander_flowing {x : Axle} {s : Station} (h : (sanderAt s x).state = .flowing) :
    (mustTail s x = true → sanderAt (runSander x s) x = toTailing s.time (sanderAt s x)) ∧
    (¬mustTail s x = true → FlowsOn s.time (sanderAt s x) (sanderAt (runSander x s) x)) := by
  have row : runSander x s = if mustTail s x then tailNow x s else reopen x (dosingPeriodStart x s) := by
    simp only [runSander, h]
  rw [row]
  refine ⟨fun tails => by rw [if_pos tails, tailNow_own (.inr h)], fun stays => ?_⟩
  rw [if_neg stays]
  have time : (dosingPeriodStart x s).time = s.time := by
    obtain ⟨_, e⟩ := dosingPeriodStart_frame x s; rw [e]
  rcases dosingPeriodStart_own x s h with same | ⟨base, p, begun⟩
  · have goesOn := reopen_own x (dosingPeriodStart x s) (by rw [same]; exact h)
    rwa [time, same] at goesOn
  · have goesOn := reopen_own x (dosingPeriodStart x s) (by rw [begun]; exact h)
    rw [time, begun] at goesOn
    obtain ⟨kept, box, valve⟩ := goesOn
    exact ⟨kept, fun settled => (box (settleBox_dosed _ _ _ _)).trans settled, valve⟩

theorem runSander_tailing {x : Axle} {s : Station} (h : (sanderAt s x).state = .tailing) : sanderAt (runSander x s) x =
    if demandFor s x then refill s.time (sanderAt s x)
    else if (sanderAt s x).pipe = 0 then
      if (sanderAt s x).restOwed then toResting (sanderAt s x) else toClosed (sanderAt s x)
    else sanderAt s x := by
  have row : runSander x s = if demandFor s x then setSander s x (refill s.time (sanderAt s x)) else tailEmpty x s := by
    simp only [runSander, h]
  rw [row]
  by_cases on : demandFor s x = true
  · rw [if_pos on, if_pos on, sanderAt_setSander]
  · rw [if_neg on, if_neg on]
    by_cases pipe : (sanderAt s x).pipe = 0
    · rw [if_pos pipe, tailEmpty_empty h pipe (Bool.eq_false_iff.mpr on), sanderAt_setSander]
    · rw [if_neg pipe, tailEmpty_other' (.inr (.inl pipe))]

theorem runSander_resting {x : Axle} {s : Station} (h : (sanderAt s x).state = .resting) : sanderAt (runSander x s) x =
    if demandFor s x && s.sanding.admitted.emergency then fillFromEmpty s.time (sanderRateSet s x) (sanderAt s x)
    else if 10000 ≤ (sanderAt s x).rest then toClosed { sanderAt s x with restOwed := false, rest := 0 }
    else sanderAt s x := by
  have row : runSander x s = if demandFor s x && s.sanding.admitted.emergency then startFilling x s else restExpiry x s := by
    simp only [runSander, h]
  rw [row]
  by_cases on : (demandFor s x && s.sanding.admitted.emergency) = true
  · rw [if_pos on, if_pos on, startFilling, sanderAt_setSander]
  · rw [if_neg on, if_neg on]
    by_cases due : 10000 ≤ (sanderAt s x).rest
    · rw [if_pos due, restExpiry_due h due, sanderAt_setSander]
    · rw [if_neg due, restExpiry_early (.inr (by omega))]

end Sys2Proof.Machine
end

section
/-! SUPPORT. The sander states after a decision (R92 to R96). -/

namespace Sys2Proof.Machine

/-- An estimate that is settled stays so where nothing that it reads changes. -/
theorem settled_congr {now : Millis} {d e : Sander} (h : (settleBox now e).box = e.box) (interval : d.interval = e.interval)
    (dosing : d.dosing = e.dosing) (box : d.box = e.box) : (settleBox now d).box = d.box :=
  ((settleBox_congr interval dosing box).trans h).trans box.symm

/-- A settled estimate stays as it is through the run of its sander. -/
theorem runSander_box {x : Axle} {s : Station} (settled : (settleBox s.time (sanderAt s x)).box = (sanderAt s x).box) :
    (sanderAt (runSander x s) x).box = (sanderAt s x).box := by
  have filled (set : RateSet) : (fillFromEmpty s.time set (sanderAt s x)).box = (sanderAt s x).box := by
    obtain ⟨_, _, e⟩ := fillFromEmpty_eq s.time set (sanderAt s x)
    rw [e]; exact settled
  have tailed : (toTailing s.time (sanderAt s x)).box = (sanderAt s x).box := by rw [toTailing_eq]; exact settled
  cases h : (sanderAt s x).state with
  | closed =>
    rw [runSander_closed h]
    split
    · exact filled _
    · rfl
  | filling =>
    rw [runSander_filling h]
    split
    · exact tailed
    · split
      · exact settled_congr (d := { sanderAt s x with
          state := .flowing, pipe := (sanderAt s x).flowDelay
          lastCell := some (routeCell (pick s.pos.attrSander x).position) }) settled rfl rfl rfl
      · rfl
  | flowing =>
    obtain ⟨tails, goesOn⟩ := runSander_flowing h
    by_cases ends : mustTail s x = true
    · rw [tails ends]; exact tailed
    · exact (goesOn ends).box settled
  | tailing =>
    rw [runSander_tailing h]
    split
    · obtain ⟨_, _, e⟩ := refill_eq s.time (sanderAt s x)
      rw [e]; exact settled
    · split
      · split <;> rfl
      · rfl
  | resting =>
    rw [runSander_resting h]
    split
    · exact filled _
    · split <;> rfl

/-- R96: the run of a sander that spreads keeps its duty timer and the rest it owes. -/
theorem runSander_rest {x : Axle} {s : Station} (h : (sanderAt s x).state = .filling ∨ (sanderAt s x).state = .flowing) :
    (sanderAt (runSander x s) x).duty = (sanderAt s x).duty ∧
    (sanderAt (runSander x s) x).restOwed = (sanderAt s x).restOwed := by
  have tailed : (toTailing s.time (sanderAt s x)).duty = (sanderAt s x).duty ∧
      (toTailing s.time (sanderAt s x)).restOwed = (sanderAt s x).restOwed := by rw [toTailing_eq]; exact ⟨rfl, rfl⟩
  rcases h with h | h
  · rw [runSander_filling h]
    split
    · exact tailed
    · split <;> exact ⟨rfl, rfl⟩
  · obtain ⟨tails, goesOn⟩ := runSander_flowing h
    by_cases ends : mustTail s x = true
    · rw [tails ends]; exact tailed
    · rw [(goesOn ends).kept]; exact ⟨rfl, rfl⟩

/-! ## What the run finds -/

/-- R96: rest owed after the duty timer has run. -/
theorem growDuty_owes (dt : Nat) (d : Sander) :
    (growDuty dt d).restOwed = true ↔ d.restOwed = true ∨ 30000 ≤ d.duty + dt := by
  have reached : min 30000 (d.duty + dt) = 30000 ↔ 30000 ≤ d.duty + dt := by omega
  simp only [growDuty, Bool.or_eq_true, beq_iff_eq, reached]

/-- R93, R96: the times of a sander that spreads. -/
theorem advanceTimes_spreads {now : Millis} {d : Sander} (h : d.state = .filling ∨ d.state = .flowing) :
    (advanceTimes now d).duty = min 30000 (d.duty + age now d.advancedTo) ∧
    ((advanceTimes now d).restOwed = true ↔ d.restOwed = true ∨ 30000 ≤ d.duty + age now d.advancedTo) := by
  unfold advanceTimes
  rcases h with h | h <;> simp only [h] <;> exact ⟨rfl, growDuty_owes _ _⟩

theorem advanceTimes_idle {now : Millis} {d : Sander} (filling : d.state ≠ .filling) (flowing : d.state ≠ .flowing) :
    (advanceTimes now d).restOwed = d.restOwed := by
  unfold advanceTimes
  cases h : d.state with
  | filling => exact absurd h filling
  | flowing => exact absurd h flowing
  | closed | tailing | resting => rfl

theorem advanceTimes_kept (now : Millis) (d : Sander) : (advanceTimes now d).state = d.state ∧
    (advanceTimes now d).flowDelay = d.flowDelay := by
  unfold advanceTimes growDuty
  simp only
  split <;> exact ⟨rfl, rfl⟩

end Sys2Proof.Machine

open Sys2Proof Sys2Proof.Machine

/-- Settles O28: the run of each sander by the state it is found in, over the times that step 1 advanced. -/
theorem decisionStates : Obligations.DecisionStates := by
  intro q z x hz
  refine ⟨sanderDecision z, actRunning_eq hz rfl q, fun d on ends owes dt hd hdt hon howes hends => ?_⟩
  obtain ⟨s, b, c, runs, found, sanding, pos, figs, time, ref⟩ := sanderDecision_runs z x
  have settled : (settleBox s.time (sanderAt s x)).box = (sanderAt s x).box := by
    rw [found, time]
    exact settled_congr (d := { timed z.time (pick z.sanders x) with emptyReported := b, lastCell := c })
      (timed_settled z.time (pick z.sanders x)) rfl rfl rfl
  have boxed := runSander_box settled
  obtain ⟨bx, v, i, times⟩ := timed_eq z.time (pick z.sanders x)
  rw [times, ← hd] at found
  have shown := sanderDecision_sanding z
  rw [← sanding] at shown
  have left : pick (sanderDecision z).sanders x = sanderAt (runSander x s) x := runs
  rw [left, boxed] at hends
  rw [left]
  generalize sanderDecision z = t at *
  have demand : demandFor s x = true ↔ on := by
    rw [demandFor_iff, hon, shown, leadingAxle, pos]; rfl
  have admitted : s.sanding.admitted.emergency = t.sanding.admitted.emergency := by rw [shown]
  obtain ⟨state, flowDelay⟩ := advanceTimes_kept z.time d
  rw [← admitted] at hends ⊢
  have rates : sanderRateSet s x = rateSetOf z.figs (pick z.pos.attrSander x).rateSet := by
    rw [sanderRateSet, figs, pos]
  have owed (h : d.state = .filling ∨ d.state = .flowing) : (sanderAt s x).restOwed = true ↔ owes := by
    rw [found, howes]
    refine (advanceTimes_spreads h).2.trans ?_
    rw [hdt]
    exact or_congr_right ⟨fun due => ⟨h, due⟩, fun due => due.2⟩
  have tails (h : d.state = .filling ∨ d.state = .flowing) : mustTail s x = true ↔ ends := by
    rw [mustTail_iff, hends, demand, owed h]
  have foundState : (sanderAt s x).state = d.state := by rw [found]; exact state
  refine ⟨fun h => ?_, fun h => ?_, fun h => ?_, fun h => ?_, fun h => ?_, fun h => ?_⟩
  · rw [runSander_closed (foundState.trans h)]
    refine ⟨fun ho => ?_, fun ho => ?_⟩
    · rw [if_pos (demand.mpr ho)]
      obtain ⟨_, _, e⟩ := fillFromEmpty_eq s.time (sanderRateSet s x) (sanderAt s x)
      rw [e, rates]
      exact ⟨rfl, rfl, rfl⟩
    · rw [if_neg (mt demand.mp ho)]
      exact foundState.trans h
  · have pipe : (sanderAt s x).pipe = min (d.pipe + dt) d.flowDelay := by
      rw [found, hdt]; simp only [advanceTimes, h]; rfl
    have delay : (sanderAt s x).flowDelay = d.flowDelay := by rw [found]; exact flowDelay
    rw [runSander_filling (foundState.trans h), pipe, delay]
    refine ⟨fun he => ?_, fun he full => ?_, fun he early => ?_⟩
    · rw [if_pos ((tails (.inl h)).mpr he), toTailing_eq]
      exact ⟨rfl, pipe⟩
    · rw [if_neg (mt (tails (.inl h)).mp he), if_pos (by omega)]
      exact ⟨rfl, rfl⟩
    · rw [if_neg (mt (tails (.inl h)).mp he), if_neg (by omega)]
      exact ⟨foundState.trans h, pipe.trans (by omega)⟩
  · obtain ⟨stops, goesOn⟩ := runSander_flowing (foundState.trans h)
    have pipe : (sanderAt s x).pipe = d.pipe := by rw [found]; simp only [advanceTimes, h]; rfl
    by_cases he : ends
    · rw [stops ((tails (.inr h)).mpr he), toTailing_eq]
      exact ⟨pipe, fun _ => ⟨rfl, rfl⟩, fun stays => absurd he stays⟩
    · rw [(goesOn (mt (tails (.inr h)).mp he)).kept]
      exact ⟨pipe, fun stops => absurd stops he, fun _ => foundState.trans h⟩
  · have duty : (sanderAt s x).duty = min 30000 (d.duty + dt) := by
      rw [found, hdt]; exact (advanceTimes_spreads h).1
    have kept : (sanderAt (runSander x s) x).duty = (sanderAt s x).duty ∧
        (sanderAt (runSander x s) x).restOwed = (sanderAt s x).restOwed := runSander_rest (by rw [foundState]; exact h)
    rw [kept.1, kept.2]
    exact ⟨duty, owed h⟩
  · have pipe : (sanderAt s x).pipe = d.pipe - dt := by rw [found, hdt]; simp only [advanceTimes, h]
    have delay : (sanderAt s x).flowDelay = d.flowDelay := by rw [found]; exact flowDelay
    have rest : (sanderAt s x).restOwed = d.restOwed := by
      rw [found]; exact advanceTimes_idle (by rw [h]; nofun) (by rw [h]; nofun)
    rw [runSander_tailing (foundState.trans h), pipe, rest]
    refine ⟨fun ho => ?_, fun ho falls => ?_, fun ho empty owes' => ?_, fun ho empty free => ?_⟩
    · rw [if_pos (demand.mpr ho)]
      obtain ⟨_, _, e⟩ := refill_eq s.time (sanderAt s x)
      rw [e]
      exact ⟨rfl, pipe, delay⟩
    · rw [if_neg (mt demand.mp ho), if_neg (by omega)]
      exact ⟨foundState.trans h, pipe⟩
    · rw [if_neg (mt demand.mp ho), if_pos (by omega), if_pos owes']
      exact ⟨rfl, rfl⟩
    · rw [if_neg (mt demand.mp ho), if_pos (by omega), if_neg (by rw [free]; nofun)]
      exact ⟨rfl, rfl⟩
  · have rest : (sanderAt s x).rest = d.rest + dt := by rw [found, hdt]; simp only [advanceTimes, h]
    have owes' : (sanderAt s x).restOwed = d.restOwed := by
      rw [found]; exact advanceTimes_idle (by rw [h]; nofun) (by rw [h]; nofun)
    have barred (hb : ¬on ∨ s.sanding.admitted.emergency = false) :
        ¬(demandFor s x && s.sanding.admitted.emergency) = true := by
      rw [Bool.and_eq_true, demand]
      rintro ⟨ho, he⟩
      rcases hb with hb | hb
      · exact hb ho
      · rw [hb] at he; cases he
    rw [runSander_resting (foundState.trans h), rest]
    refine ⟨fun ho emergency => ?_, fun hb due => ?_, fun hb early => ?_⟩
    · rw [if_pos (by rw [demand.mpr ho, emergency]; rfl)]
      obtain ⟨_, _, e⟩ := fillFromEmpty_eq s.time (sanderRateSet s x) (sanderAt s x)
      rw [e]
      exact ⟨rfl, rfl, owes'⟩
    · rw [if_neg (barred hb), if_pos due]
      exact ⟨rfl, rfl, rfl⟩
    · rw [if_neg (barred hb), if_neg (by omega)]
      exact ⟨foundState.trans h, rest⟩

end

section
/-! SUPPORT. The valves after a decision (R97), the cells that it records (R99), what it leaves of the map and the port. -/

namespace Sys2Proof.Machine

/-! ## The valves (R97) -/

/-- R92 to R96: a sander spreads after its run under a demand alone. -/
theorem runSander_spreads {x : Axle} {s : Station} (h : (sanderAt (runSander x s) x).state = .filling ∨
    (sanderAt (runSander x s) x).state = .flowing) : demandFor s x = true := by
  have stays (ends : ¬mustTail s x = true) : demandFor s x = true := by
    rw [mustTail_iff, not_or, not_or, not_not] at ends
    exact ends.2.1
  have tailed : ¬((toTailing s.time (sanderAt s x)).state = .filling ∨ (toTailing s.time (sanderAt s x)).state = .flowing) := by
    rw [toTailing_eq]; nofun
  cases found : (sanderAt s x).state with
  | closed =>
    rw [runSander_closed found] at h
    by_contra off
    rw [if_neg off, found] at h
    rcases h with h | h <;> cases h
  | filling =>
    rw [runSander_filling found] at h
    by_cases ends : mustTail s x = true
    · rw [if_pos ends] at h
      exact absurd h tailed
    · exact stays ends
  | flowing =>
    by_cases ends : mustTail s x = true
    · rw [(runSander_flowing found).1 ends] at h
      exact absurd h tailed
    · exact stays ends
  | tailing =>
    rw [runSander_tailing found] at h
    by_contra off
    rw [if_neg off] at h
    revert h
    split
    · split <;> nofun
    · rw [found]; nofun
  | resting =>
    rw [runSander_resting found] at h
    by_contra off
    rw [if_neg (by rw [Bool.and_eq_true]; exact fun on => off on.1)] at h
    revert h
    split
    · nofun
    · rw [found]; nofun

/-- R97: within the open time of its period a sander left FLOWING with sand in its box has its valve open. -/
theorem runSander_valve {x : Axle} {s : Station} {p : Dosing} (h : (sanderAt (runSander x s) x).state = .flowing)
    (hp : (sanderAt (runSander x s) x).dosing = some p) (sand : (sanderAt (runSander x s) x).box ≠ 0)
    (within : openTimeOver s.time (sanderAt (runSander x s) x) = false) : (sanderAt (runSander x s) x).valveOpen = true := by
  have tailed : (toTailing s.time (sanderAt s x)).state ≠ .flowing := by rw [toTailing_eq]; nofun
  have filled (set : RateSet) : (fillFromEmpty s.time set (sanderAt s x)).state ≠ .flowing := by
    obtain ⟨_, _, e⟩ := fillFromEmpty_eq s.time set (sanderAt s x)
    rw [e]; nofun
  cases found : (sanderAt s x).state with
  | closed =>
    rw [runSander_closed found] at h
    split at h
    · exact absurd h (filled _)
    · rw [found] at h; cases h
  | filling =>
    rw [runSander_filling found] at h sand ⊢
    split at h
    · exact absurd h tailed
    · rename_i stays
      rw [if_neg stays] at sand ⊢
      split at h
      · rename_i full
        rw [if_pos full] at sand ⊢
        exact decide_eq_true sand
      · rw [found] at h; cases h
  | flowing =>
    obtain ⟨tails, goesOn⟩ := runSander_flowing found
    by_cases ends : mustTail s x = true
    · rw [tails ends] at h
      exact absurd h tailed
    · exact (goesOn ends).valve p hp sand within
  | tailing =>
    rw [runSander_tailing found] at h
    split at h
    · obtain ⟨_, _, e⟩ := refill_eq s.time (sanderAt s x)
      rw [e] at h; cases h
    · split at h
      · split at h <;> cases h
      · rw [found] at h; cases h
  | resting =>
    rw [runSander_resting found] at h
    split at h
    · exact absurd h (filled _)
    · split at h
      · cases h
      · rw [found] at h; cases h

/-! ## Step 2: the cells recorded (R99) -/

theorem recordNewCell_other (x : Axle) (s : Station) :
    sanderAt (recordNewCell x s) (otherAxle x) = sanderAt s (otherAxle x) := by
  unfold recordNewCell
  simp only
  split
  · exact recordCell_other x s
  · rfl

/-- R99: what step 2 of a decision writes into the map, by the state and the last recorded cell that the decision found. -/
theorem recordNewCell_entries {z s : Station} {x : Axle} {es' : List MapEntry} (h : CellRecorded z x s.map.entries es')
    (pos : s.pos = z.pos) (figs : s.figs = z.figs) (time : s.time = z.time)
    (state : (sanderAt s x).state = (pick z.sanders x).state) (last : (sanderAt s x).lastCell = (pick z.sanders x).lastCell) :
    (recordNewCell x s).map.entries = es' := by
  obtain ⟨records, keeps⟩ := h (pick z.sanders x) (pick z.pos.attrSander x) _ rfl rfl Iff.rfl
  unfold recordNewCell
  simp only
  rw [state, last, pos]
  by_cases enters : ((pick z.sanders x).state = .flowing ∨ (pick z.sanders x).state = .tailing) ∧
      (pick z.sanders x).lastCell ≠ some (routeCell (pick z.pos.attrSander x).position)
  · have merged : (recordCell x s).map.entries =
        (observe .sanded (pick z.pos.attrSander x).mapCell 0 s).map.entries := by rw [recordCell_eq, pos]; rfl
    rw [if_pos enters, merged]
    cases cell : (pick z.pos.attrSander x).mapCell with
    | none => exact (keeps (.inr cell)).symm
    | some c =>
      rw [records c enters cell, ← figs, ← pos, ← time]
      exact congrArg (·.map.entries) (buildRail_self _)
  · rw [if_neg enters]
    exact (keeps (.inl enters)).symm

theorem advanceTimes_last (now : Millis) (d : Sander) : (advanceTimes now d).lastCell = d.lastCell := by
  unfold advanceTimes growDuty
  simp only
  split <;> rfl

theorem advancedBoth_found (z : Station) (x : Axle) : (sanderAt (advancedBoth z) x).state = (pick z.sanders x).state ∧
    (sanderAt (advancedBoth z) x).lastCell = (pick z.sanders x).lastCell := by
  obtain ⟨_, own⟩ := advancedBoth_sander z x
  obtain ⟨_, _, _, times⟩ := timed_eq z.time (pick z.sanders x)
  rw [own, times]
  exact ⟨(advanceTimes_kept _ _).1, advanceTimes_last _ _⟩

/-- What step 1 of a decision leaves besides the sanders and the faults. -/
theorem advancedBoth_frame (z : Station) : ∃ d f, advancedBoth z = { z with
    sanding := { z.sanding with lastDecision := z.time }, sanders := d, faults := f } := by
  obtain ⟨_, _, a⟩ := advanceSander_frame .a { z with sanding := { z.sanding with lastDecision := z.time } }
  obtain ⟨_, _, b⟩ := advanceSander_frame .b (advanceSander .a { z with sanding := { z.sanding with lastDecision := z.time } })
  rw [advancedBoth, b, a]
  exact ⟨_, _, rfl⟩

/-- R86, R99: the station after step 2, by the map's entries that `CellRecorded` gives. -/
theorem recordedBoth_entries {z : Station} {es1 es2 : List MapEntry} (first : CellRecorded z .a z.map.entries es1)
    (second : CellRecorded z .b es1 es2) : (recordedBoth z).map.entries = es2 := by
  obtain ⟨stateA, lastA⟩ := advancedBoth_found z .a
  obtain ⟨stateB, lastB⟩ := advancedBoth_found z .b
  obtain ⟨_, _, e⟩ := advancedBoth_frame z
  have kept : (advancedBoth z).pos = z.pos ∧ (advancedBoth z).figs = z.figs ∧ (advancedBoth z).time = z.time ∧
      (advancedBoth z).map = z.map := by rw [e]; exact ⟨rfl, rfl, rfl, rfl⟩
  obtain ⟨pos, figs, time, map⟩ := kept
  have entriesA : (recordNewCell .a (advancedBoth z)).map.entries = es1 :=
    recordNewCell_entries (by rw [map]; exact first) pos figs time stateA lastA
  have other : sanderAt (recordNewCell .a (advancedBoth z)) .b = sanderAt (advancedBoth z) .b := recordNewCell_other .a _
  obtain ⟨_, _, _, r⟩ := recordNewCell_frame .a (advancedBoth z)
  have kept' : (recordNewCell .a (advancedBoth z)).pos = z.pos ∧ (recordNewCell .a (advancedBoth z)).figs = z.figs ∧
      (recordNewCell .a (advancedBoth z)).time = z.time := by rw [r]; exact ⟨pos, figs, time⟩
  obtain ⟨pos', figs', time'⟩ := kept'
  exact recordNewCell_entries (by rw [entriesA]; exact second) pos' figs' time' (by rw [other, stateB]) (by rw [other, lastB])

/-! ## What a decision leaves of the map and the port -/

theorem unobserved_recordNewCell (x : Axle) (s : Station) : unobserved (recordNewCell x s) = unobserved s := by
  unfold recordNewCell
  simp only
  split
  · rw [recordCell_eq]
    exact unobserved_observe _ _ _ _
  · rfl

theorem unobserved_enterFlowing (x : Axle) (s : Station) : unobserved (enterFlowing x s) = unobserved s := by
  rw [enterFlowing_eq]
  exact unobserved_observe _ _ _ _

theorem unobserved_runSander (x : Axle) (s : Station) : unobserved (runSander x s) = unobserved s := by
  have tails (t : Station) : unobserved (tailNow x t) = unobserved t := by rw [tailNow_eq]; rfl
  unfold runSander
  simp only
  split
  · split <;> rfl
  · split
    · exact tails s
    · unfold pipeFull
      simp only
      split
      · exact unobserved_enterFlowing x s
      · rfl
  · split
    · exact tails s
    · obtain ⟨_, r⟩ := reopen_frame x (dosingPeriodStart x s)
      obtain ⟨_, d⟩ := dosingPeriodStart_frame x s
      rw [r, d]
      rfl
  · split
    · rfl
    · obtain ⟨_, e⟩ := tailEmpty_frame x s; rw [e]; rfl
  · split
    · rfl
    · obtain ⟨_, e⟩ := restExpiry_frame x s; rw [e]; rfl

theorem unobserved_recordedBoth (z : Station) : unobserved (recordedBoth z) = unobserved z := by
  obtain ⟨_, _, e⟩ := advancedBoth_frame z
  have advanced : unobserved (advancedBoth z) = unobserved z := by rw [e]; rfl
  rw [recordedBoth, unobserved_recordNewCell, unobserved_recordNewCell, advanced]

theorem unobserved_admits (s : Station) : unobserved (admitSources (queryAim (dropPassedAim s))) = unobserved s := by
  obtain ⟨_, query⟩ := queryAim_frame (dropPassedAim s)
  obtain ⟨_, passed⟩ := dropPassedAim_frame s
  have admits (t : Station) : unobserved (admitSources t) = unobserved t := rfl
  rw [admits, query, passed]
  rfl

theorem unobserved_sanderDecision (z : Station) : unobserved (sanderDecision z) = unobserved z := by
  have shows (t : Station) : unobserved (showSanders t) = unobserved t := rfl
  rw [sanderDecision_eq, shows, unobserved_runSander, unobserved_runSander, admitting, unobserved_admits,
    unobserved_recordedBoth]

end Sys2Proof.Machine
end

section
/-! SUPPORT. The aim, the sources and the admission of a decision (R86 to R91). -/

namespace Sys2Proof.Machine

/-! ## Step 3: the aim (R89, R90) -/

/-- R90: the aim that is left when a passed one has been removed. -/
def unpassedAim (s : Station) : Option Aim :=
  s.sanding.aim.filter fun a =>
    !isBeyond s.pos.sense (routeCell (pick s.pos.attrSander (leadingAxle s)).position) a.routeCell

theorem dropPassedAim_eq (s : Station) : dropPassedAim s = { s with sanding := { s.sanding with aim := unpassedAim s } } := by
  unfold dropPassedAim unpassedAim
  cases h : s.sanding.aim with
  | none =>
    simp only [Option.filter_none]
    rw [← h]
  | some a =>
    simp only [Option.filter_some]
    cases isBeyond s.pos.sense (routeCell (pick s.pos.attrSander (leadingAxle s)).position) a.routeCell
    · simp only [Bool.false_eq_true, if_false, Bool.not_false, if_true]
      rw [← h]
    · rfl

theorem unpassedAim_eq_some (s : Station) (a : Aim) : unpassedAim s = some a ↔ s.sanding.aim = some a ∧
    (s.pos.sense = .up → routeCell (pick s.pos.attrSander (leadingAxle s)).position ≤ a.routeCell) ∧
    (s.pos.sense = .down → a.routeCell ≤ routeCell (pick s.pos.attrSander (leadingAxle s)).position) := by
  rw [unpassedAim, Option.filter_eq_some_iff, Bool.not_eq_true']
  refine and_congr_right fun _ => ?_
  cases s.pos.sense <;> simp [isBeyond]

/-- R89: the answer of a decision's look-ahead query. -/
def aimAnswer (s : Station) : Option (Nat × Aim) :=
  lookAhead s (pick s.pos.attrSander (leadingAxle s)).position
    (preArmDistance s.ref.speed (sanderRateSet s (leadingAxle s)).flowDelay)

/-- R89: the aim that a query leaves. -/
def queriedAim (s : Station) : Option Aim :=
  match aimAnswer s with
  | some (mu, a) => if mu < 100 then some a else s.sanding.aim
  | none => s.sanding.aim

theorem queryAim_eq (s : Station) : queryAim s = { s with sanding := { s.sanding with aim := queriedAim s } } := by
  have query : queryAim s = match aimAnswer s with
      | some (mu, a) => if mu < 100 then { s with sanding := { s.sanding with aim := some a } } else s
      | none => s := rfl
  rw [query]
  unfold queriedAim
  cases aimAnswer s with
  | none => rfl
  | some answer =>
    obtain ⟨mu, a⟩ := answer
    by_cases low : mu < 100
    · simp only [low, if_true]
    · simp only [low, if_false]

/-! ## Steps 1 to 3 -/

/-- R86: the station after step 3 of a decision. -/
def aiming (z : Station) : Station := queryAim (dropPassedAim (recordedBoth z))

theorem recordedBoth_frame (z : Station) : ∃ d f p m, recordedBoth z = { z with
    sanding := { z.sanding with lastDecision := z.time }, sanders := d, faults := f, port := p, map := m } := by
  obtain ⟨_, _, e⟩ := advancedBoth_frame z
  obtain ⟨_, _, _, e1⟩ := recordNewCell_frame .a (advancedBoth z)
  obtain ⟨_, _, _, e2⟩ := recordNewCell_frame .b (recordNewCell .a (advancedBoth z))
  rw [recordedBoth, e2, e1, e]
  exact ⟨_, _, _, _, rfl⟩

theorem aiming_eq (z : Station) : aiming z = { recordedBoth z with sanding := { (recordedBoth z).sanding with
    aim := queriedAim (dropPassedAim (recordedBoth z)) } } := by
  have query := queryAim_eq (dropPassedAim (recordedBoth z))
  have passed := dropPassedAim_eq (recordedBoth z)
  rw [aiming, query]
  generalize queriedAim (dropPassedAim (recordedBoth z)) = a
  rw [passed]

/-! ## Step 4: the sources (R87 to R89) -/

theorem stillAhead_dropExpired (now : Millis) (e : Option Millis) :
    stillAhead now (dropExpired now e) = true ↔ ∃ m, e = some m ∧ before now m = true := by
  constructor
  · intro h
    cases he : dropExpired now e with
    | none => rw [he] at h; cases h
    | some m => exact ⟨m, (dropExpired_eq_some _ _ _).mp he⟩
  · rintro ⟨m, he, ahead⟩
    rw [(dropExpired_eq_some now e m).mpr ⟨he, ahead⟩]
    exact ahead

theorem cabSands_iff (s : Station) (c : CabEnd) : cabSands s c = true ↔ ∃ r, pick s.port.demands (axleOf c) = some r ∧
    age s.time r.arrived < 100 ∧ r.content.driverSand = true := by
  unfold cabSands
  cases h : currentDemand s c with
  | none =>
    refine ⟨nofun, fun ⟨r, hr, young, _⟩ => ?_⟩
    rw [(currentDemand_iff s c r).mpr ⟨hr, young⟩] at h
    cases h
  | some r =>
    obtain ⟨hr, young⟩ := (currentDemand_iff s c r).mp h
    refine ⟨fun sand => ⟨r, hr, young, sand⟩, fun ⟨o, ho, _, sand⟩ => ?_⟩
    obtain rfl : r = o := Option.some.inj (hr.symm.trans ho)
    exact sand

/-- R87: the station with what has expired removed. -/
def unexpired (s : Station) : Station := hillSandExpiry (slipHoldExpiry s)

theorem admitSources_eq (s : Station) : admitSources s = { unexpired s with sanding := { (unexpired s).sanding with
    asks := asking (unexpired s), admitted := unbarred (inhibits (unexpired s)) (asking (unexpired s))
    demandOn := anySource (unbarred (inhibits (unexpired s)) (asking (unexpired s)))
    high := anyHigh (unbarred (inhibits (unexpired s)) (asking (unexpired s))) } } := rfl

theorem asking_unexpired (s : Station) :
    ((asking (unexpired s)).slip = true ↔
      ∃ e, (s.sanding.slipHold = some e ∨ s.sanding.reslipHold = some e) ∧ before s.time e = true) ∧
    (asking (unexpired s)).preArm = s.sanding.aim.isSome ∧
    ((asking (unexpired s)).driver = true ↔ ∃ (c : Axle) (r : DemandRec), pick s.port.demands c = some r ∧
      age s.time r.arrived < 100 ∧ r.content.driverSand = true) ∧
    ((asking (unexpired s)).hillStart = true ↔ ∃ e, s.sanding.hillExpiry = some e ∧ before s.time e = true) ∧
    ((asking (unexpired s)).rollback = true ↔ s.hold.state = .rollback) ∧
    ((asking (unexpired s)).emergency = true ↔ s.blend.effMode = .emergency) := by
  refine ⟨?_, rfl, ?_, stillAhead_dropExpired _ _, beq_iff_eq, beq_iff_eq⟩
  · refine (Bool.or_eq_true _ _).to_iff.trans ?_
    refine (or_congr (stillAhead_dropExpired _ _) (stillAhead_dropExpired _ _)).trans ?_
    exact ⟨fun h => h.elim (fun ⟨e, h, b⟩ => ⟨e, .inl h, b⟩) fun ⟨e, h, b⟩ => ⟨e, .inr h, b⟩,
      fun ⟨e, h, b⟩ => h.elim (fun h => .inl ⟨e, h, b⟩) fun h => .inr ⟨e, h, b⟩⟩
  · have cabs : (asking (unexpired s)).driver = (cabSands s .end1 || cabSands s .end2) := rfl
    rw [cabs, Bool.or_eq_true, cabSands_iff, cabSands_iff]
    exact ⟨fun h => h.elim (fun h => ⟨.a, h⟩) fun h => ⟨.b, h⟩, fun ⟨c, h⟩ => by cases c; exacts [.inl h, .inr h]⟩

/-! ## Step 4: the admission (R91) -/

theorem unbarred_iff (i : Inhibits) (a : Sources) :
    ((unbarred i a).slip = true ↔ a.slip = true ∧ ¬i.window = true ∧ ¬i.standstill = true ∧ ¬i.reserve = true ∧
      ¬i.empty = true ∧ ¬i.rest = true ∧ i.degraded = false) ∧
    ((unbarred i a).preArm = true ↔ a.preArm = true ∧ ¬i.window = true ∧ ¬i.standstill = true ∧ ¬i.reserve = true ∧
      ¬i.empty = true ∧ ¬i.rest = true ∧ i.degraded = false) ∧
    ((unbarred i a).driver = true ↔ a.driver = true ∧ ¬i.window = true ∧ ¬i.standstill = true ∧ ¬i.reserve = true ∧
      ¬i.empty = true ∧ ¬i.rest = true ∧ i.degraded = false) ∧
    ((unbarred i a).hillStart = true ↔ a.hillStart = true ∧ ¬i.window = true ∧ ¬i.empty = true ∧ ¬i.rest = true ∧
      i.degraded = false) ∧
    ((unbarred i a).rollback = true ↔ a.rollback = true ∧ ¬i.empty = true ∧ ¬i.rest = true) ∧
    ((unbarred i a).emergency = true ↔ a.emergency = true ∧ ¬i.empty = true) := by
  simp only [unbarred, Bool.and_eq_true, Bool.not_eq_true', Bool.not_eq_true, and_assoc, and_self]

theorem anySource_iff (a : Sources) : anySource a = true ↔ a.slip = true ∨ a.preArm = true ∨ a.driver = true ∨
    a.hillStart = true ∨ a.rollback = true ∨ a.emergency = true := by
  simp only [anySource, Bool.or_eq_true, or_assoc]

theorem anyHigh_iff (a : Sources) : anyHigh a = true ↔ a.hillStart = true ∨ a.rollback = true ∨ a.emergency = true := by
  simp only [anyHigh, Bool.or_eq_true, or_assoc]

theorem inhibits_unexpired (s : Station) :
    ((inhibits (unexpired s)).window = true ↔ (pick s.pos.attrSander (leadingAxle s)).sandInhibit = true ∨ s.pos.state = .lost) ∧
    ((inhibits (unexpired s)).standstill = true ↔ s.ref.speed.natAbs < 300) ∧
    ((inhibits (unexpired s)).reserve = true ↔ (sanderAt s (leadingAxle s)).box ≤ 2000000) ∧
    ((inhibits (unexpired s)).empty = true ↔ (sanderAt s (leadingAxle s)).box = 0) ∧
    (inhibits (unexpired s)).rest = (sanderAt s (leadingAxle s)).restOwed ∧
    (inhibits (unexpired s)).degraded = s.degraded := by
  refine ⟨?_, decide_eq_true_iff, decide_eq_true_iff, beq_iff_eq, rfl, rfl⟩
  exact (Bool.or_eq_true _ _).to_iff.trans (or_congr Iff.rfl beq_iff_eq)

end Sys2Proof.Machine
end

section
/-! SUPPORT. The admission of a decision as its result shows it. -/

namespace Sys2Proof.Machine

/-- R86: what steps 1 to 3 leave of the rest of the station. -/
theorem aiming_frame (z : Station) : ∃ a d f p m, aiming z = { z with
    sanding := { z.sanding with lastDecision := z.time, aim := a }, sanders := d, faults := f, port := p, map := m } := by
  obtain ⟨_, _, _, _, e⟩ := recordedBoth_frame z
  have aims := aiming_eq z
  generalize queriedAim (dropPassedAim (recordedBoth z)) = a at aims
  rw [aims, e]
  exact ⟨_, _, _, _, _, rfl⟩

theorem unobserved_aiming (z : Station) : unobserved (aiming z) = unobserved z := by
  have only (r : Station) (a : Sanding) : unobserved { r with sanding := a } = unobserved r := rfl
  rw [aiming_eq, only, unobserved_recordedBoth]

theorem admitting_aiming (z : Station) : admitting z = admitSources (aiming z) := rfl

/-- R91: the sander at the leading axle as the admission judges it. -/
theorem admission_sander (z : Station) (x : Axle) :
    (sanderAt (aiming z) x).box = (pick (sanderDecision z).sanders x).box ∧
    ((sanderAt (aiming z) x).restOwed = true ↔ (pick z.sanders x).restOwed = true ∨
      (((pick z.sanders x).state = .filling ∨ (pick z.sanders x).state = .flowing) ∧
        30000 ≤ (pick z.sanders x).duty + age z.time (pick z.sanders x).advancedTo)) := by
  obtain ⟨s, b, c, runs, found, -, -, -, time, -⟩ := sanderDecision_runs z x
  obtain ⟨b', c', own⟩ := admitting_sander z x
  have judged : sanderAt (aiming z) x = sanderAt (admitting z) x := by
    have admits (t : Station) : sanderAt (admitSources t) x = sanderAt t x := rfl
    rw [admitting_aiming, admits]
  have settled : (settleBox s.time (sanderAt s x)).box = (sanderAt s x).box := by
    rw [found, time]
    exact settled_congr (d := { timed z.time (pick z.sanders x) with emptyReported := b, lastCell := c })
      (timed_settled z.time (pick z.sanders x)) rfl rfl rfl
  have box := runSander_box settled
  rw [← runs, found] at box
  refine ⟨by rw [judged, own]; exact box.symm, ?_⟩
  obtain ⟨_, _, _, times⟩ := timed_eq z.time (pick z.sanders x)
  rw [judged, own, times]
  by_cases spreads : (pick z.sanders x).state = .filling ∨ (pick z.sanders x).state = .flowing
  · refine (advanceTimes_spreads spreads).2.trans (or_congr_right ?_)
    exact ⟨fun due => ⟨spreads, due⟩, fun due => due.2⟩
  · obtain ⟨filling, flowing⟩ := not_or.mp spreads
    have kept : (advanceTimes z.time (pick z.sanders x)).restOwed = (pick z.sanders x).restOwed := advanceTimes_idle filling flowing
    refine (Eq.congr_left kept).trans ⟨.inl, fun h => h.resolve_right fun due => spreads due.1⟩

/-- What step 4 leaves of the sander control, as the decision's result shows it. -/
theorem sanderDecision_admits (z : Station) :
    (sanderDecision z).sanding.asks = asking (unexpired (aiming z)) ∧
    (sanderDecision z).sanding.admitted = unbarred (inhibits (unexpired (aiming z))) (asking (unexpired (aiming z))) ∧
    (sanderDecision z).sanding.demandOn =
      anySource (unbarred (inhibits (unexpired (aiming z))) (asking (unexpired (aiming z)))) ∧
    (sanderDecision z).sanding.high = anyHigh (unbarred (inhibits (unexpired (aiming z))) (asking (unexpired (aiming z)))) ∧
    (sanderDecision z).sanding.aim = queriedAim (dropPassedAim (recordedBoth z)) ∧
    (sanderDecision z).sanding.shownStates = ⟨(sanderDecision z).sanders.a.state, (sanderDecision z).sanders.b.state⟩ ∧
    (sanderDecision z).sanding.shownBoxes = ⟨(sanderDecision z).sanders.a.box, (sanderDecision z).sanders.b.box⟩ := by
  have sanding := sanderDecision_sanding z
  have aim : (unexpired (aiming z)).sanding.aim = queriedAim (dropPassedAim (recordedBoth z)) := by
    have drops (t : Station) : (unexpired t).sanding.aim = t.sanding.aim := rfl
    rw [drops, aiming_eq]
  rw [admitting_aiming, admitSources_eq] at sanding
  rw [← aim]
  generalize sanderDecision z = t at *
  generalize unexpired (aiming z) = u at *
  rw [sanding]
  exact ⟨rfl, rfl, rfl, rfl, rfl, rfl, rfl⟩

/-- What steps 1 to 3 leave as it was. -/
theorem aiming_kept (z : Station) : (aiming z).time = z.time ∧ (aiming z).pos = z.pos ∧ (aiming z).ref = z.ref ∧
    (aiming z).figs = z.figs ∧ (aiming z).hold = z.hold ∧ (aiming z).blend = z.blend ∧ (aiming z).degraded = z.degraded ∧
    (aiming z).sanding.slipHold = z.sanding.slipHold ∧ (aiming z).sanding.reslipHold = z.sanding.reslipHold ∧
    (aiming z).sanding.hillExpiry = z.sanding.hillExpiry ∧ (aiming z).port.demands = z.port.demands := by
  have port := port_of_unobserved (unobserved_aiming z)
  have demands : (aiming z).port.demands = z.port.demands := by rw [port]
  obtain ⟨_, _, _, _, _, aims⟩ := aiming_frame z
  rw [demands, aims]
  exact ⟨rfl, rfl, rfl, rfl, rfl, rfl, rfl, rfl, rfl, rfl, rfl⟩

/-- R87 to R89: the sources that ask at a decision, by what it found. -/
theorem asking_aiming (z : Station) :
    ((asking (unexpired (aiming z))).slip = true ↔
      ∃ e, (z.sanding.slipHold = some e ∨ z.sanding.reslipHold = some e) ∧ before z.time e = true) ∧
    (asking (unexpired (aiming z))).preArm = (queriedAim (dropPassedAim (recordedBoth z))).isSome ∧
    ((asking (unexpired (aiming z))).driver = true ↔ ∃ (c : Axle) (r : DemandRec), pick z.port.demands c = some r ∧
      age z.time r.arrived < 100 ∧ r.content.driverSand = true) ∧
    ((asking (unexpired (aiming z))).hillStart = true ↔ ∃ e, z.sanding.hillExpiry = some e ∧ before z.time e = true) ∧
    ((asking (unexpired (aiming z))).rollback = true ↔ z.hold.state = .rollback) ∧
    ((asking (unexpired (aiming z))).emergency = true ↔ z.blend.effMode = .emergency) := by
  obtain ⟨time, -, -, -, hold, blend, -, slip, reslip, hill, demands⟩ := aiming_kept z
  have asks := asking_unexpired (aiming z)
  have aim : (aiming z).sanding.aim = queriedAim (dropPassedAim (recordedBoth z)) := by rw [aiming_eq]
  rw [time, hold, blend, slip, reslip, hill, demands, aim] at asks
  exact asks

/-- R91: the inhibits of a decision, by what it found and by the sander that it judges. -/
theorem inhibits_aiming (z : Station) :
    ((inhibits (unexpired (aiming z))).window = true ↔
      (pick z.pos.attrSander (leadingAxle z)).sandInhibit = true ∨ z.pos.state = .lost) ∧
    ((inhibits (unexpired (aiming z))).standstill = true ↔ z.ref.speed.natAbs < 300) ∧
    ((inhibits (unexpired (aiming z))).reserve = true ↔ (sanderAt (aiming z) (leadingAxle z)).box ≤ 2000000) ∧
    ((inhibits (unexpired (aiming z))).empty = true ↔ (sanderAt (aiming z) (leadingAxle z)).box = 0) ∧
    (inhibits (unexpired (aiming z))).rest = (sanderAt (aiming z) (leadingAxle z)).restOwed ∧
    (inhibits (unexpired (aiming z))).degraded = z.degraded := by
  obtain ⟨-, pos, ref, -, -, -, degraded, -⟩ := aiming_kept z
  have holds := inhibits_unexpired (aiming z)
  have leading : leadingAxle (aiming z) = leadingAxle z := by unfold leadingAxle; rw [pos]
  rw [leading, pos, ref, degraded] at holds
  exact holds

theorem queriedAim_cases (s : Station) :
    (∀ mu a, aimAnswer s = some (mu, a) → mu < 100 → queriedAim s = some a) ∧
    ((∀ mu a, aimAnswer s = some (mu, a) → 100 ≤ mu) → queriedAim s = s.sanding.aim) := by
  unfold queriedAim
  refine ⟨fun mu a answer low => ?_, fun high => ?_⟩
  · rw [answer]
    exact if_pos low
  · cases answer : aimAnswer s with
    | none => rfl
    | some b => exact if_neg (not_lt.mpr (high b.1 b.2 answer))

/-- What the query of a decision reads. -/
theorem aimAnswer_congr {s t : Station} (pos : s.pos = t.pos) (figs : s.figs = t.figs) (ref : s.ref = t.ref)
    (entries : s.map.entries = t.map.entries) : aimAnswer s = aimAnswer t := by
  unfold aimAnswer sanderRateSet leadingAxle lookAhead stretch
  rw [pos, figs, ref, entries]

/-- R89, R90: the query of a decision, over the map's entries as its step 2 leaves them, and the aim that it finds. -/
theorem aimAnswer_recorded (z : Station) {es1 es2 : List MapEntry} (first : CellRecorded z .a z.map.entries es1)
    (second : CellRecorded z .b es1 es2) :
    aimAnswer (dropPassedAim (recordedBoth z)) = aimAnswer { z with map := { z.map with entries := es2 } } := by
  have entries := recordedBoth_entries first second
  obtain ⟨_, _, _, _, e⟩ := recordedBoth_frame z
  obtain ⟨_, passed⟩ := dropPassedAim_frame (recordedBoth z)
  refine aimAnswer_congr ?_ ?_ ?_ ?_
  · rw [passed, e]
  · rw [passed, e]
  · rw [passed, e]
  · rw [passed]
    exact entries

theorem unpassed_recorded (z : Station) : (dropPassedAim (recordedBoth z)).sanding.aim = unpassedAim z := by
  obtain ⟨_, _, _, _, e⟩ := recordedBoth_frame z
  rw [dropPassedAim_eq, e]
  rfl

/-- R91: in an inhibit window a demand comes from EMERGENCY or ROLLBACK alone. -/
theorem demand_in_window {s : Station} (demand : (admitSources s).sanding.demandOn = true)
    (window : (pick s.pos.attrSander (leadingAxle s)).sandInhibit = true ∨ s.pos.state = .lost) :
    (admitSources s).sanding.admitted.emergency = true ∨ (admitSources s).sanding.admitted.rollback = true := by
  obtain ⟨inhibit, -⟩ := inhibits_unexpired s
  obtain ⟨slip, preArm, driver, hill, -⟩ := unbarred_iff (inhibits (unexpired s)) (asking (unexpired s))
  have holds := inhibit.mpr window
  rcases (anySource_iff _).mp demand with h | h | h | h | h | h
  · exact absurd holds (slip.mp h).2.1
  · exact absurd holds (preArm.mp h).2.1
  · exact absurd holds (driver.mp h).2.1
  · exact absurd holds (hill.mp h).2.1
  · exact .inr h
  · exact .inl h

end Sys2Proof.Machine

open Sys2Proof Sys2Proof.Machine

/-- Settles O29: a decision keeps the valves' law, and a sander that spreads after it has its demand; in an inhibit window only
EMERGENCY or ROLLBACK is left. -/
theorem decisionValves : Obligations.DecisionValves := by
  intro q z hz law
  have kept := sandersLaw_sanderDecision ((valvesLaw_iff z).mp law)
  have valves : ValvesLaw (sanderDecision z) := (valvesLaw_iff _).mpr kept
  have fills (fill : FillingLaw z) : SandersLaw True (sanderDecision z) :=
    sandersLaw_sanderDecision ((fillingLaw_iff (running_life hz) law).mp fill)
  have runs := sanderDecision_runs z
  have sanding := sanderDecision_sanding z
  refine ⟨sanderDecision z, actRunning_eq hz rfl q, valves, fun x p state hp sand within => ?_, fun fill x state => ?_,
    fun x isOpen => ?_⟩
  · obtain ⟨s, _, _, run, -, -, -, -, time, -⟩ := runs x
    have run' : pick (sanderDecision z).sanders x = sanderAt (runSander x s) x := run
    rw [run'] at state hp sand ⊢
    refine runSander_valve state hp sand (openTimeOver_eq_false fun p' hp' => ?_)
    obtain rfl : p = p' := Option.some.inj (hp.symm.trans hp')
    rw [time]
    exact within.imp_left fun h => h.ge
  · obtain ⟨valve, fill'⟩ := fills fill x
    have isOpen := (fill' trivial).1 state
    exact ⟨isOpen, (valve.1 isOpen).2⟩
  · obtain ⟨⟨spread, -⟩, -⟩ := kept x
    obtain ⟨spreads, sand⟩ := spread isOpen
    obtain ⟨s, _, _, run, -, admits, pos, -, -, -⟩ := runs x
    have run' : sanderAt (sanderDecision z) x = sanderAt (runSander x s) x := run
    rw [run', spreading_iff] at spreads
    obtain ⟨leads, demand⟩ := (demandFor_iff s x).mp (runSander_spreads spreads)
    obtain ⟨_, _, _, _, _, aims⟩ := aiming_frame z
    have posA : (aiming z).pos = z.pos := by rw [aims]
    have window := demand_in_window (s := aiming z) (by rw [admits] at demand; exact demand)
    rw [sanding]
    rw [admits] at demand
    refine ⟨by rw [leads, leadingAxle, pos]; rfl, demand, sand, fun inhibit => window ?_⟩
    have leadsA : leadingAxle (aiming z) = x := by rw [leads, leadingAxle, leadingAxle, posA, pos]
    rw [leadsA, posA]
    exact inhibit

/-- Settles O27: what asks, what inhibits and what is admitted, read off step 4; the aim off step 3. -/
theorem decisionAdmission : Obligations.DecisionAdmission := by
  intro q z x hz hx
  have map := map_of_unobserved (unobserved_sanderDecision z)
  have port := port_of_unobserved (unobserved_sanderDecision z)
  obtain ⟨_, _, _, _, _, frame⟩ := sanderDecision_frame z
  obtain ⟨asks, admitted, demandOn, high, aim, shownStates, shownBoxes⟩ := sanderDecision_admits z
  obtain ⟨box, rest⟩ := admission_sander z x
  obtain ⟨slip, preArm, driver, hill, rollback, emergency⟩ := asking_aiming z
  obtain ⟨windowI, stillI, reserveI, emptyI, restI, degradedI⟩ := inhibits_aiming z
  rw [← hx] at windowI reserveI emptyI restI
  rw [box] at reserveI emptyI
  have recorded := @aimAnswer_recorded z
  obtain ⟨poor, other⟩ := queriedAim_cases (dropPassedAim (recordedBoth z))
  rw [unpassed_recorded] at other
  have passed := unpassedAim_eq_some z
  rw [← hx] at passed
  refine ⟨sanderDecision z, actRunning_eq hz rfl q, ?_⟩
  generalize sanderDecision z = t at *
  generalize unexpired (aiming z) = u at *
  refine ⟨?_, by rw [asks]; exact slip, by rw [asks, preArm, aim], by rw [asks]; exact driver, by rw [asks]; exact hill,
    by rw [asks]; exact rollback, by rw [asks]; exact emergency, fun es1 es2 answer first second hanswer => ?_, shownStates,
    shownBoxes, fun window still reserve empty rest' hwindow hstill hreserve hempty hrest => ?_⟩
  · rw [← map, ← port, frame]
  · have query : aimAnswer (dropPassedAim (recordedBoth z)) = answer := by
      rw [recorded first second, hanswer, hx]
      unfold aimAnswer preArmDistance
      have forward : (max 0 z.ref.speed).toNat = z.ref.speed.toNat := by omega
      rw [forward]
      rfl
    rw [query] at poor other
    rw [aim]
    refine ⟨poor, fun high a => ?_⟩
    rw [other high]
    exact passed a
  · obtain ⟨slipA, preArmA, driverA, hillA, rollbackA, emergencyA⟩ := unbarred_iff (inhibits u) (asking u)
    have demand := anySource_iff (unbarred (inhibits u) (asking u))
    have level := anyHigh_iff (unbarred (inhibits u) (asking u))
    rw [← hwindow] at windowI
    rw [← hstill] at stillI
    rw [← hreserve] at reserveI
    rw [← hempty] at emptyI
    have restIff : (inhibits u).rest = true ↔ rest' := (Eq.congr_left restI).trans (rest.trans hrest.symm)
    rw [windowI, stillI, reserveI, emptyI, restIff, degradedI] at slipA preArmA driverA
    rw [windowI, emptyI, restIff, degradedI] at hillA
    rw [emptyI, restIff] at rollbackA
    rw [emptyI] at emergencyA
    rw [asks, admitted, demandOn, high]
    refine ⟨fun a b source => ?_, hillA, rollbackA, emergencyA, demand, level⟩
    rcases source with ⟨rfl, rfl⟩ | ⟨rfl, rfl⟩ | ⟨rfl, rfl⟩
    · exact slipA
    · exact preArmA
    · exact driverA

end

section
/-! SUPPORT. The tests and rules of an axle's state machine at a sample (R25 to R31, R33, R42 to R44): what each writes to the
record of its axle. -/

namespace Sys2Proof.Machine

/-! ## Ceilings (R23) -/

theorem ceilingOf_congr {s t : Station} {x : Axle} (time : t.time = s.time) (cap : t.ref.capApplied = s.ref.capApplied)
    (figs : t.figs = s.figs) (limit : (pick t.creep x).preLimit = (pick s.creep x).preLimit)
    (ceiling : (pick t.creep x).ceiling = (pick s.creep x).ceiling) : ceilingOf t x = ceilingOf s x := by
  simp only [ceilingOf, reslipForce, uncertainCap, time, cap, figs, limit, ceiling]

theorem capBy_le (cap : Option Nat) (n : Nat) : capBy cap n ≤ n := by
  cases cap with
  | none => exact le_rfl
  | some c => exact min_le_right _ _

theorem capBy_le_cap (c n : Nat) : capBy (some c) n ≤ c := min_le_left _ _

/-- R23: the ceiling is within each of its figures. -/
theorem ceilingOf_le (s : Station) (x : Axle) : ceilingOf s x ≤ s.figs.axleMax ∧
    (∀ p, (pick s.creep x).preLimit = some p → ceilingOf s x ≤ p) ∧
    (∀ r, (pick s.creep x).ceiling = some r → before s.time r.expires = true → ceilingOf s x ≤ r.force) ∧
    (s.ref.capApplied = true → ceilingOf s x ≤ 300 * s.figs.axleMax / 1000) := by
  have capped : ceilingOf s x ≤ capBy (uncertainCap s) s.figs.axleMax := (capBy_le _ _).trans (capBy_le _ _)
  refine ⟨capped.trans (capBy_le _ _), fun p hp => ?_, fun r hr stands => ?_, fun applied => ?_⟩
  · unfold ceilingOf; simp only [hp]; exact capBy_le_cap _ _
  · have force : reslipForce s.time (pick s.creep x) = some r.force := by simp [reslipForce, hr, stands]
    refine (capBy_le _ _).trans ?_
    rw [force]; exact capBy_le_cap _ _
  · have cap : uncertainCap s = some (300 * s.figs.axleMax / 1000) := if_pos applied
    rw [cap] at capped
    exact capped.trans (capBy_le_cap _ _)

theorem raiseToward_capped (step bound limit : Nat) : min (raiseToward step bound limit) bound = min (limit + step) bound := by
  unfold raiseToward; split <;> omega

/-! ## SLIPPING (R28, R29, R33) -/

theorem lowestPeak_le {l : List Reslip} {r : Reslip} (h : r ∈ l) : lowestPeak l ≤ r.peak := by
  induction l with
  | nil => cases h
  | cons a l ih =>
    cases l with
    | nil => obtain rfl : r = a := by simpa using h
             exact le_rfl
    | cons b l =>
      rcases List.mem_cons.mp h with rfl | h
      · exact min_le_left _ _
      · exact (min_le_right _ _).trans (ih h)

theorem le_lowestPeak {l : List Reslip} {n : Nat} (some' : l ≠ []) (h : ∀ r ∈ l, n ≤ r.peak) : n ≤ lowestPeak l := by
  induction l with
  | nil => exact absurd rfl some'
  | cons a l ih =>
    cases l with
    | nil => exact h a (by simp)
    | cons b l => exact le_min (h a (by simp)) (ih (by simp) fun r hr => h r (List.mem_cons_of_mem _ hr))

/-- R33: the re-slip history once an entry has joined it. -/
def joinedReslips (now : Millis) (peak : Nat) (l : List Reslip) : List Reslip :=
  (⟨now, peak⟩ :: l.filter fun r => age now r.time ≤ 5000).take 3

theorem joinedReslips_filter (now : Millis) (peak : Nat) (l : List Reslip) :
    joinedReslips now peak (l.filter fun r => age now r.time ≤ 5000) = joinedReslips now peak l := by
  simp [joinedReslips, List.filter_filter]

/-- R28, R33: the record of an axle that has entered SLIPPING. -/
def slidRecord (now : Millis) (c : AxleCreep) : AxleCreep :=
  { slippingRecord c with
    reslips := joinedReslips now (peakOf c) c.reslips
    ceiling := if (joinedReslips now (peakOf c) c.reslips).length = 3
      then some ⟨900 * lowestPeak (joinedReslips now (peakOf c) c.reslips) / 1000, after now 10000⟩ else c.ceiling }

/-- R33, R87: what an entry to SLIPPING asks of the sander control. -/
def slidSanding (now : Millis) (c : AxleCreep) (g : Sanding) : Sanding :=
  { g with
    slipHold := some (after now 3000)
    reslipHold := if (joinedReslips now (peakOf c) c.reslips).length = 3 then some (after now 10000) else g.reslipHold }

theorem joinReslips_eq (peak : Nat) (x : Axle) (s : Station) : joinReslips peak x s =
    { setCreep s x { pick s.creep x with
        reslips := joinedReslips s.time peak (pick s.creep x).reslips
        ceiling := if (joinedReslips s.time peak (pick s.creep x).reslips).length = 3
          then some ⟨900 * lowestPeak (joinedReslips s.time peak (pick s.creep x).reslips) / 1000, after s.time 10000⟩
          else (pick s.creep x).ceiling } with
      sanding := { s.sanding with
        reslipHold := if (joinedReslips s.time peak (pick s.creep x).reslips).length = 3
          then some (after s.time 10000) else s.sanding.reslipHold } } := by
  unfold joinReslips joinedReslips
  simp only
  split <;> rfl

/-- R28, R33, R36: an entry to SLIPPING writes the record of its axle and the requests, and offers its observation. -/
theorem enterSlipping_entered (x : Axle) (s : Station) : ∃ p m, enterSlipping x s =
    { setCreep s x (slidRecord s.time (pick s.creep x)) with
      sanding := slidSanding s.time (pick s.creep x) s.sanding, port := p, map := m } := by
  obtain ⟨p, m, e⟩ := peakObservation_frame (peakOf (pick s.creep x)) x (setCreep s x (slippingRecord (pick s.creep x)))
  refine ⟨p, m, ?_⟩
  unfold enterSlipping
  simp only
  rw [slipRequest, e, joinReslips_eq]
  simp only [setCreep_creep, pick_put, setCreep_time]
  simp only [setCreep, put_put]
  rfl

theorem slippingRule_calms {x : Axle} {s : Station} (h : creepNow s x ≤ targetNow s) :
    slippingRule x s = setCreep s x { pick s.creep x with state := .recovering, stateTime := 0 } := if_pos h

theorem slippingRule_slides {x : Axle} {s : Station} (h : targetNow s < creepNow s x) : slippingRule x s = slipPersistent x s :=
  if_neg (not_le.mpr h)

/-! ## LOCKED (R42 to R44) -/

theorem lockCondition_iff (s : Station) (x : Axle) : lockCondition s x = true ↔ s.creepDir = .braking ∧ 2000 < s.ref.speed ∧
    (pick s.axles x).forward < (100 * s.ref.speed).tdiv 1000 := by
  simp [lockCondition, and_assoc]

theorem runsFree_iff (s : Station) (x : Axle) : runsFree s x = true ↔ (pick s.axles x).edgeSeen = false ∧
    ∃ r, s.link.brake.state = .present ∧ s.link.brake.report = some r ∧ pick r.friction x = 0 := by
  unfold runsFree brakeUsed
  by_cases h : s.link.brake.state = .present
  · cases s.link.brake.report <;> simp [h]
  · simp [h]

/-- R42: a wheel below 100‰ of a reference above 2,000 mm/s is below 500‰ of it. -/
theorem lockCondition_slow {s : Station} {x : Axle} (h : lockCondition s x = true) :
    (pick s.axles x).forward < (500 * s.ref.speed).tdiv 1000 := by
  obtain ⟨-, fast, slow⟩ := (lockCondition_iff s x).mp h
  rw [Int.tdiv_eq_ediv_of_nonneg (by omega)] at slow ⊢
  omega

/-- R43: the wheel turns again. -/
theorem lockedRule_turns {x : Axle} {s : Station} (h : (500 * s.ref.speed).tdiv 1000 ≤ (pick s.axles x).forward) :
    lockedRule x s = setCreep s x { pick s.creep x with state := .recovering, stateTime := 0 } := if_pos h

theorem lockedRule_stands {x : Axle} {s : Station} (h : (pick s.axles x).forward < (500 * s.ref.speed).tdiv 1000) :
    lockedRule x s = releaseSample x (wheelLockExpiry x s) := if_neg (not_le.mpr h)

theorem releaseSample_unset {x : Axle} {s : Station} (h : (pick s.creep x).wheelLock = false) : releaseSample x s = s :=
  if_neg (by simp [h])

theorem releaseSample_set {x : Axle} {s : Station} (h : (pick s.creep x).wheelLock = true) : releaseSample x s =
    releaseExpiry x (setCreep s x { pick s.creep x with release := runTimer 5 (runsFree s x) (pick s.creep x).release }) := if_pos h

/-- R42: the record of an axle whose wheel stands in LOCKED, its WHEEL_LOCK flag brought up to the state time. -/
def wheelLocked (c : AxleCreep) : Bool := c.wheelLock || decide (800 ≤ c.stateTime)

/-- R42: the table once a wheel that stands in LOCKED has reported WHEEL_LOCK, where it had not. -/
def wheelLockTable (s : Station) (x : Axle) : FaultTable :=
  if wheelLocked (pick s.creep x) && !(pick s.creep x).wheelLock
  then recordFault s.faults s.time s.pos.attrLeading.mapCell .wheelLock (some x) none else s.faults

theorem runsFree_marked (s : Station) (x : Axle) (c : AxleCreep) (f : FaultTable) :
    runsFree { setCreep s x c with faults := f } x = runsFree s x := rfl

theorem wheelLockExpiry_locked {x : Axle} {s : Station} (h : (pick s.creep x).state = .locked) : wheelLockExpiry x s =
    { setCreep s x { pick s.creep x with wheelLock := wheelLocked (pick s.creep x) } with faults := wheelLockTable s x } := by
  by_cases due : 800 ≤ (pick s.creep x).stateTime ∧ (pick s.creep x).wheelLock = false
  · obtain ⟨old, unset⟩ := due
    rw [wheelLockExpiry_due h old unset]
    simp [wheelLockTable, wheelLocked, old, unset, report]
  · have early : (pick s.creep x).stateTime < 800 ∨ (pick s.creep x).wheelLock = true := by
      rcases not_and_or.mp due with young | set
      · exact .inl (not_le.mp young)
      · exact .inr (by simpa using set)
    rw [wheelLockExpiry_early (.inr early)]
    have kept : wheelLocked (pick s.creep x) = (pick s.creep x).wheelLock := by
      rcases early with young | set
      · simp [wheelLocked, not_le.mpr young]
      · simp [wheelLocked, set]
    have table : wheelLockTable s x = s.faults := by rw [wheelLockTable, kept]; simp
    rw [kept, table]
    exact (setCreep_pick s x).symm

/-- R44: the conditions under which a sample declares an axle failed that its state machine finds in LOCKED. -/
def Declared (s : Station) (x : Axle) : Prop :=
  (pick s.creep x).state = .locked ∧ (pick s.axles x).forward < (500 * s.ref.speed).tdiv 1000 ∧
    wheelLocked (pick s.creep x) = true ∧ runsFree s x = true ∧ ∃ n, (pick s.creep x).release = some n ∧ 1000 ≤ n + 5

/-- R44: the release timer of a sample in LOCKED. -/
def releaseTimer (s : Station) (x : Axle) : Option Nat :=
  if wheelLocked (pick s.creep x) then runTimer 5 (runsFree s x) (pick s.creep x).release else (pick s.creep x).release

theorem reached_runTimer (figure : Nat) (holds : Bool) (t : Option Nat) (h : 5 < figure) :
    reached figure (runTimer 5 holds t) = true ↔ holds = true ∧ ∃ n, t = some n ∧ figure ≤ n + 5 := by
  cases holds <;> cases t <;> simp [reached, runTimer]
  omega

/-- R42, R44: a wheel that stands in LOCKED and is not declared failed. -/
theorem lockedRule_keeps {x : Axle} {s : Station} (locked : (pick s.creep x).state = .locked)
    (slow : (pick s.axles x).forward < (500 * s.ref.speed).tdiv 1000) (kept : ¬Declared s x) : lockedRule x s =
    { setCreep s x { pick s.creep x with wheelLock := wheelLocked (pick s.creep x), release := releaseTimer s x } with
      faults := wheelLockTable s x } := by
  rw [lockedRule_stands slow, wheelLockExpiry_locked locked]
  by_cases set : wheelLocked (pick s.creep x) = true
  · rw [releaseSample_set (by simpa using set), releaseExpiry, if_neg, releaseTimer, if_pos set, runsFree_marked]
    · simp [setCreep]
    · intro h
      obtain ⟨-, -, n, hn, le⟩ := (releaseReached_iff _).mp h
      simp only [setCreep_creep, pick_put] at hn
      obtain ⟨free, m, hm, le'⟩ := (reached_runTimer 1000 (runsFree s x) (pick s.creep x).release (by decide)).mp
        ((reached_iff _ _).mpr ⟨n, hn, le⟩)
      exact kept ⟨locked, slow, set, free, m, hm, le'⟩
  · rw [releaseSample_unset (by simpa using set), releaseTimer, if_neg set]

/-- R44: a wheel that stands in LOCKED and is declared failed. -/
theorem lockedRule_declares {x : Axle} {s : Station} (h : Declared s x) :
    (pick (lockedRule x s).axles x).sensor = .failed ∧ (lockedRule x s).faults =
      recordFault (wheelLockTable s x) s.time s.pos.attrLeading.mapCell .speedSensor (some x) none := by
  obtain ⟨locked, slow, set, free, n, hn, le⟩ := h
  rw [lockedRule_stands slow, wheelLockExpiry_locked locked, releaseSample_set (by simpa using set), releaseExpiry, runsFree_marked,
    if_pos]
  · rw [failSensor_eq]
    exact ⟨by simp, rfl⟩
  · refine (releaseReached_iff _).mpr ⟨by simpa using locked, by simpa using set, n + 5, ?_, le⟩
    have timer : runTimer 5 (runsFree s x) (pick s.creep x).release = some (n + 5) := by rw [free, hn]; rfl
    simpa using timer

/-! ## The tests (R25) -/

theorem runTests_locks {x : Axle} {s : Station} (h : lockReached (pick s.creep x) = true)
    (slow : (pick s.axles x).forward < (500 * s.ref.speed).tdiv 1000) :
    runTests x s = setCreep s x (lockedRecord (pick s.creep x)) := by
  have standing : lockedRule x (setCreep s x (lockedRecord (pick s.creep x))) = setCreep s x (lockedRecord (pick s.creep x)) := by
    rw [lockedRule_stands (by exact slow), wheelLockExpiry_early (.inr (.inl (by simp [lockedRecord]))),
      releaseSample_unset (by simp [lockedRecord])]
  unfold runTests
  simp only
  rw [if_pos h, lockExpiry_due h, standing]

theorem runTests_slips {x : Axle} {s : Station} (h : lockReached (pick s.creep x) = false)
    (tested : slipTested (pick s.creep x).state = true) (slipping : slips s x = true) :
    runTests x s = slippingRule x (enterSlipping x s) := by
  unfold runTests
  simp [h, tested, slipping]

theorem runTests_own {x : Axle} {s : Station} (h : lockReached (pick s.creep x) = false)
    (grips : slipTested (pick s.creep x).state = false ∨ slips s x = false) : runTests x s = ownRule x s := by
  unfold runTests
  rcases grips with grips | grips <;> simp [h, grips]

end Sys2Proof.Machine

end

section
/-! SUPPORT. What the state machine of an axle reports at a sample (R29, R42, R44). -/

namespace Sys2Proof.Machine

/-! ## Rules that report nothing -/

/-- No axle unit and no fault record is written, and no report flag of the axle comes up. -/
structure Quiet (x : Axle) (s t : Station) : Prop where
  axles : t.axles = s.axles
  faults : t.faults = s.faults
  slip : (pick s.creep x).slipReported = false → (pick t.creep x).slipReported = false
  wheel : (pick s.creep x).wheelLock = false → (pick t.creep x).wheelLock = false

theorem Quiet.refl (x : Axle) (s : Station) : Quiet x s s := ⟨rfl, rfl, id, id⟩

theorem Quiet.trans {x : Axle} {s t u : Station} (h : Quiet x s t) (k : Quiet x t u) : Quiet x s u :=
  ⟨k.axles.trans h.axles, k.faults.trans h.faults, k.slip ∘ h.slip, k.wheel ∘ h.wheel⟩

theorem quiet_setCreep {x : Axle} {s : Station} {c : AxleCreep}
    (slip : (pick s.creep x).slipReported = false → c.slipReported = false)
    (wheel : (pick s.creep x).wheelLock = false → c.wheelLock = false) : Quiet x s (setCreep s x c) :=
  ⟨rfl, rfl, by simpa using slip, by simpa using wheel⟩

theorem quiet_regulatingRule (x : Axle) (s : Station) : Quiet x s (regulatingRule x s) := by
  have calm (t : Station) : Quiet x t (calmExpiry x t) := by
    unfold calmExpiry
    simp only
    split
    · exact quiet_setCreep id id
    · exact .refl x t
  refine Quiet.trans ?_ (calm _)
  exact quiet_setCreep id id

theorem quiet_enterRegulating (x : Axle) (s : Station) : Quiet x s (enterRegulating x s) := by
  refine Quiet.trans ?_ (quiet_regulatingRule x _)
  exact quiet_setCreep id id

theorem quiet_adheringRule (x : Axle) (s : Station) : Quiet x s (adheringRule x s) := by
  unfold adheringRule
  simp only
  split
  · exact quiet_setCreep id id
  · exact quiet_enterRegulating x s

theorem quiet_reapplyingRule (x : Axle) (s : Station) : Quiet x s (reapplyingRule x s) := by
  unfold reapplyingRule reapplied
  simp only
  split
  · exact quiet_enterRegulating x s
  · split <;> exact quiet_setCreep id id

theorem quiet_enterSlipping (x : Axle) (s : Station) : Quiet x s (enterSlipping x s) := by
  obtain ⟨_, _, e⟩ := enterSlipping_entered x s
  rw [e]
  exact ⟨rfl, rfl, fun _ => by simp [slidRecord, slippingRecord], fun h => by simpa [slidRecord, slippingRecord] using h⟩

theorem quiet_recoveringRule (x : Axle) (s : Station) : Quiet x s (recoveringRule x s) := by
  unfold recoveringRule recoveryHoldExpiry
  simp only
  split
  · exact quiet_enterSlipping x s
  · split
    · refine Quiet.trans ?_ (quiet_reapplyingRule x _)
      exact quiet_setCreep id id
    · exact .refl x s

/-- R28, R29: the rule of SLIPPING reports nothing where the state has just been entered. -/
theorem slippingRule_entered (x : Axle) (s : Station) : slippingRule x (enterSlipping x s) = setCreep (enterSlipping x s) x
    { slidRecord s.time (pick s.creep x) with
      state := if creepNow s x ≤ targetNow s then .recovering else .slipping } := by
  obtain ⟨p, m, e⟩ := enterSlipping_entered x s
  have record : pick (enterSlipping x s).creep x = slidRecord s.time (pick s.creep x) := by rw [e]; simp
  have creep : creepNow (enterSlipping x s) x = creepNow s x := by rw [e]; rfl
  have target : targetNow (enterSlipping x s) = targetNow s := by rw [e]; rfl
  by_cases calms : creepNow s x ≤ targetNow s
  · rw [slippingRule_calms (by rw [creep, target]; exact calms), record, if_pos calms]
    rfl
  · rw [slippingRule_slides (by rw [creep, target]; exact not_le.mp calms),
      slipPersistent_early (.inr (.inl (by rw [record]; simp [slidRecord, slippingRecord]))), if_neg calms]
    conv_lhs => rw [← setCreep_pick (enterSlipping x s) x, record]
    rfl

/-! ## The reports of a sample -/

/-- What an axle whose sensor stays OK adds to the fault table, from its record before and after its rule. -/
def flagReports (s : Station) (x : Axle) (before after : AxleCreep) : FaultTable :=
  if before.slipReported = false ∧ after.slipReported = true then
    recordFault s.faults s.time s.pos.attrLeading.mapCell .slipPersistent (some x) none
  else if before.wheelLock = false ∧ after.wheelLock = true then
    recordFault s.faults s.time s.pos.attrLeading.mapCell .wheelLock (some x) none
  else s.faults

theorem flagReports_quiet {s : Station} {x : Axle} {before after : AxleCreep}
    (slip : before.slipReported = false → after.slipReported = false)
    (wheel : before.wheelLock = false → after.wheelLock = false) : flagReports s x before after = s.faults := by
  have noSlip : ¬(before.slipReported = false ∧ after.slipReported = true) := fun ⟨h, k⟩ => by rw [slip h] at k; cases k
  have noLock : ¬(before.wheelLock = false ∧ after.wheelLock = true) := fun ⟨h, k⟩ => by rw [wheel h] at k; cases k
  rw [flagReports, if_neg noSlip, if_neg noLock]

/-- The axle reports as its flags come up, WHEEL_LOCK in LOCKED alone. -/
structure Flagged (x : Axle) (s t : Station) : Prop where
  axles : t.axles = s.axles
  faults : t.faults = flagReports s x (pick s.creep x) (pick t.creep x)
  wheel : (pick s.creep x).state ≠ .locked → (pick s.creep x).wheelLock = false → (pick t.creep x).wheelLock = false

theorem Quiet.flagged {x : Axle} {s t : Station} (h : Quiet x s t) : Flagged x s t :=
  ⟨h.axles, h.faults.trans (flagReports_quiet h.slip h.wheel).symm, fun _ => h.wheel⟩

theorem flagged_slippingRule (x : Axle) (s : Station) : Flagged x s (slippingRule x s) := by
  by_cases calms : creepNow s x ≤ targetNow s
  · rw [slippingRule_calms calms]
    refine Quiet.flagged ?_
    exact quiet_setCreep id id
  · rw [slippingRule_slides (not_le.mp calms)]
    by_cases due : (pick s.creep x).state = .slipping ∧ 1500 ≤ (pick s.creep x).stateTime ∧ (pick s.creep x).slipReported = false
    · obtain ⟨slipping, old, fresh⟩ := due
      rw [slipPersistent_due slipping old fresh]
      exact ⟨rfl, by simp [report, flagReports, fresh], fun _ h => by simpa [report] using h⟩
    · have early : slipPersistent x s = s := if_neg due
      rw [early]
      exact (Quiet.refl x s).flagged

theorem flagged_lockedRule {x : Axle} {s : Station} (locked : (pick s.creep x).state = .locked) (kept : ¬Declared s x) :
    Flagged x s (lockedRule x s) := by
  by_cases turns : (500 * s.ref.speed).tdiv 1000 ≤ (pick s.axles x).forward
  · rw [lockedRule_turns turns]
    refine Quiet.flagged ?_
    exact quiet_setCreep id id
  · rw [lockedRule_keeps locked (not_le.mp turns) kept]
    refine ⟨rfl, ?_, fun other => absurd locked other⟩
    cases fresh : (pick s.creep x).wheelLock <;> simp [flagReports, wheelLockTable, fresh]

/-- R25: the tests and the rule of a sample that declares no failure. -/
theorem flagged_runTests {x : Axle} {s : Station} (kept : ¬Declared s x)
    (slow : lockReached (pick s.creep x) = true → (pick s.axles x).forward < (500 * s.ref.speed).tdiv 1000) :
    Flagged x s (runTests x s) := by
  cases lock : lockReached (pick s.creep x) with
  | true =>
    rw [runTests_locks lock (slow lock)]
    refine Quiet.flagged ?_
    exact quiet_setCreep id fun _ => rfl
  | false =>
    by_cases slipping : slipTested (pick s.creep x).state = true ∧ slips s x = true
    · obtain ⟨tested, slipping⟩ := slipping
      rw [runTests_slips lock tested slipping, slippingRule_entered]
      refine ((quiet_enterSlipping x s).trans (quiet_setCreep (fun _ => rfl) fun h => ?_)).flagged
      obtain ⟨_, _, e⟩ := enterSlipping_entered x s
      rw [e] at h
      simpa using h
    · have grips : slipTested (pick s.creep x).state = false ∨ slips s x = false := by
        rcases not_and_or.mp slipping with h | h
        · exact .inl (by simpa using h)
        · exact .inr (by simpa using h)
      rw [runTests_own lock grips]
      unfold ownRule
      split
      · exact (quiet_adheringRule x s).flagged
      · exact (quiet_regulatingRule x s).flagged
      · exact flagged_slippingRule x s
      · exact (quiet_recoveringRule x s).flagged
      · exact (quiet_reapplyingRule x s).flagged
      · rename_i locked
        exact flagged_lockedRule locked kept

theorem runTests_locked {x : Axle} {s : Station} (h : (pick s.creep x).state = .locked) : runTests x s = lockedRule x s := by
  have reached' : lockReached (pick s.creep x) = false := by simp [lockReached, h]
  rw [runTests_own reached' (.inl (by rw [h]; rfl)), ownRule, h]

/-! ## A sample of one axle's machine -/

/-- R42: an axle whose lock timer has reached its figure at a sample meets the lock condition there. -/
theorem lockReached_advanceLock {x : Axle} {s : Station} (h : lockReached (pick (advanceLock x s).creep x) = true) :
    lockCondition s x = true := by
  obtain ⟨-, n, hn, -⟩ := (lockReached_iff _).mp h
  simp only [advanceLock, setCreep_creep, pick_put, runTimer] at hn
  split at hn
  · rename_i runs; simpa using (Bool.and_eq_true _ _ ▸ runs : _ ∧ _).2
  · cases hn

theorem declared_advanceLock (x : Axle) (s : Station) : Declared (advanceLock x s) x ↔ Declared s x := by
  have free : runsFree (advanceLock x s) x = runsFree s x := rfl
  simp only [Declared, free]
  simp [advanceLock, wheelLocked]

/-- R44: a sample that declares an axle failed. -/
theorem machineSample_declares {x : Axle} {s : Station} (ok : (pick s.axles x).sensor = .ok) (h : Declared s x) :
    (pick (machineSample x s).axles x).sensor = .failed ∧ (machineSample x s).faults =
      recordFault (wheelLockTable s x) s.time s.pos.attrLeading.mapCell .speedSensor (some x) none := by
  have declared := (declared_advanceLock x s).mpr h
  obtain ⟨failed, table⟩ := lockedRule_declares declared
  rw [← runTests_locked declared.1] at failed table
  have keeps : machineSample x s = runTests x (advanceLock x s) := by
    unfold machineSample
    simp only
    rw [if_pos ok, if_neg (by rw [failed]; nofun)]
  rw [keeps]
  refine ⟨failed, table.trans ?_⟩
  simp [wheelLockTable, advanceLock, wheelLocked, setCreep]

/-- The station once the tests and the rule of an axle's sample have acted. -/
def tested (x : Axle) (s : Station) : Station := runTests x (advanceLock x s)

theorem machineSample_keeps {x : Axle} {s : Station} (ok : (pick s.axles x).sensor = .ok) (kept : ¬Declared s x) :
    (machineSample x s).axles = s.axles ∧ machineSample x s = pushCreep x (lowerToCeiling x (tested x s)) ∧
      Flagged x s (machineSample x s) := by
  have flagged : Flagged x (advanceLock x s) (tested x s) :=
    flagged_runTests (by rwa [declared_advanceLock]) fun h => (lockCondition_slow (s := s) (lockReached_advanceLock h) :)
  have axles : (tested x s).axles = s.axles := flagged.axles
  have pushed : machineSample x s = pushCreep x (lowerToCeiling x (tested x s)) := by
    unfold machineSample
    simp only
    rw [if_pos ok, if_pos (by rw [← tested, axles]; exact ok)]
    rfl
  refine ⟨by rw [pushed]; exact axles, pushed, by rw [pushed]; exact axles, ?_, fun other unset => ?_⟩
  · rw [pushed]
    refine flagged.faults.trans ?_
    simp [flagReports, advanceLock, pushCreep, lowerToCeiling, setCreep]
  · rw [pushed]
    have := flagged.wheel (by simpa [advanceLock] using other) (by simpa [advanceLock] using unset)
    simpa [pushCreep, lowerToCeiling] using this

end Sys2Proof.Machine

end

section
/-! SUPPORT. The record that the tests and the rule of a sample leave, test by test and state by state (R25 to R31, R42 to R44). -/

namespace Sys2Proof.Machine

/-! ## The lock timer -/

/-- R42: the lock timer of a sample. -/
def lockTimer (s : Station) (x : Axle) : Option Nat :=
  runTimer 5 ((pick s.creep x).state != .locked && lockCondition s x) (pick s.creep x).lock

/-- R42: the record of an axle as the tests of a sample find it. -/
def timedRecord (s : Station) (x : Axle) : AxleCreep := { pick s.creep x with lock := lockTimer s x }

theorem advanceLock_eq (x : Axle) (s : Station) : advanceLock x s = setCreep s x (timedRecord s x) := rfl

theorem advanceLock_creep (x : Axle) (s : Station) : pick (advanceLock x s).creep x = timedRecord s x := by
  rw [advanceLock_eq, setCreep_creep, pick_put]

@[simp] theorem creepNow_advanceLock (x : Axle) (s : Station) : creepNow (advanceLock x s) x = creepNow s x := rfl

@[simp] theorem targetNow_advanceLock (x : Axle) (s : Station) : targetNow (advanceLock x s) = targetNow s := rfl

@[simp] theorem thresholdNow_advanceLock (x : Axle) (s : Station) : thresholdNow (advanceLock x s) = thresholdNow s := rfl

@[simp] theorem demandTotal_advanceLock (x : Axle) (s : Station) : demandTotal (advanceLock x s) x = demandTotal s x := rfl

@[simp] theorem time_advanceLock (x : Axle) (s : Station) : (advanceLock x s).time = s.time := rfl

@[simp] theorem ceilingOf_advanceLock (x : Axle) (s : Station) : ceilingOf (advanceLock x s) x = ceilingOf s x :=
  ceilingOf_congr rfl rfl rfl (by rw [advanceLock_creep]; rfl) (by rw [advanceLock_creep]; rfl)

theorem slips_advanceLock (x : Axle) (s : Station) : slips (advanceLock x s) x = slips s x := by
  unfold slips
  rw [advanceLock_creep]
  rfl

/-- R42: the lock timer of the sample is below its figure, or the axle is LOCKED. -/
def Unlocked (s : Station) (x : Axle) : Prop := lockReached (timedRecord s x) = false

theorem tested_own {x : Axle} {s : Station} (lock : Unlocked s x)
    (grips : slipTested (pick s.creep x).state = false ∨ slips s x = false) : tested x s = ownRule x (advanceLock x s) :=
  runTests_own (by rw [advanceLock_creep]; exact lock) (by rw [advanceLock_creep, slips_advanceLock]; exact grips)

theorem ownRule_state {x : Axle} {s : Station} {c : CreepState} (h : (pick s.creep x).state = c) :
    ownRule x (advanceLock x s) = match c with
      | .adhering => adheringRule x (advanceLock x s)
      | .regulating => regulatingRule x (advanceLock x s)
      | .slipping => slippingRule x (advanceLock x s)
      | .recovering => recoveringRule x (advanceLock x s)
      | .reapplying => reapplyingRule x (advanceLock x s)
      | .locked => lockedRule x (advanceLock x s) := by
  have state : (pick (advanceLock x s).creep x).state = c := by rw [advanceLock_creep]; exact h
  unfold ownRule
  rw [state]
  cases c <;> rfl

/-! ## The tests -/

theorem tested_locks {x : Axle} {s : Station} (lock : lockReached (timedRecord s x) = true) :
    pick (tested x s).creep x = lockedRecord (timedRecord s x) := by
  have reached' : lockReached (pick (advanceLock x s).creep x) = true := by rw [advanceLock_creep]; exact lock
  have slow : (pick (advanceLock x s).axles x).forward < (500 * (advanceLock x s).ref.speed).tdiv 1000 :=
    lockCondition_slow (s := s) (lockReached_advanceLock reached')
  rw [tested, runTests_locks reached' slow, advanceLock_creep, setCreep_creep, pick_put]

/-- R28, R33: the record and the requests of an axle that enters SLIPPING at a sample, in the state that its rule leaves. -/
structure Slid (x : Axle) (s t : Station) (state : CreepState) : Prop where
  record : pick t.creep x = { slidRecord s.time (timedRecord s x) with state := state }
  sanding : t.sanding = slidSanding s.time (timedRecord s x) s.sanding

theorem tested_slips {x : Axle} {s : Station} (lock : Unlocked s x) (tests : slipTested (pick s.creep x).state = true)
    (slipping : slips s x = true) :
    Slid x s (tested x s) (if creepNow s x ≤ targetNow s then .recovering else .slipping) := by
  have eq : tested x s = slippingRule x (enterSlipping x (advanceLock x s)) :=
    runTests_slips (by rw [advanceLock_creep]; exact lock) (by rw [advanceLock_creep]; exact tests)
      (by rw [slips_advanceLock]; exact slipping)
  obtain ⟨_, _, e⟩ := enterSlipping_entered x (advanceLock x s)
  rw [eq, slippingRule_entered]
  refine ⟨?_, ?_⟩
  · rw [setCreep_creep, pick_put, advanceLock_creep]; rfl
  · rw [e, advanceLock_creep]; rfl

/-! ## ADHERING and REGULATING (R26, R27) -/

theorem tested_adheres {x : Axle} {s : Station} (lock : Unlocked s x) (state : (pick s.creep x).state = .adhering)
    (grips : slips s x = false) (calm : creepNow s x ≤ targetNow s) : pick (tested x s).creep x =
      { timedRecord s x with limit := raiseToward 100 (ceilingOf s x) (pick s.creep x).limit } := by
  have rule : adheringRule x (advanceLock x s) = setCreep (advanceLock x s) x { pick (advanceLock x s).creep x with
      limit := raiseToward 100 (ceilingOf (advanceLock x s) x) (pick (advanceLock x s).creep x).limit } := if_pos calm
  rw [tested_own lock (.inr grips), ownRule_state state]
  simp only [rule, advanceLock_creep, ceilingOf_advanceLock, setCreep_creep, pick_put]
  rfl

/-- R26, R31: the record of an axle that creeps beyond the target. -/
def creptRecord (c : AxleCreep) : AxleCreep := { c with state := .regulating, stateTime := 0, calm := none, limit := c.limit - 250 }

theorem enterRegulating_crept {x : Axle} {s : Station} (creeps : targetNow s < creepNow s x) :
    pick (enterRegulating x (advanceLock x s)).creep x = creptRecord (timedRecord s x) := by
  rw [enterRegulating_eq (by exact creeps), advanceLock_creep, setCreep_creep, pick_put]
  rfl

theorem tested_crept {x : Axle} {s : Station} (lock : Unlocked s x)
    (state : (pick s.creep x).state = .adhering ∨ (pick s.creep x).state = .reapplying) (grips : slips s x = false)
    (creeps : targetNow s < creepNow s x) : pick (tested x s).creep x = creptRecord (timedRecord s x) := by
  rw [tested_own lock (.inr grips)]
  rcases state with state | state
  · have rule : adheringRule x (advanceLock x s) = enterRegulating x (advanceLock x s) := if_neg (not_le.mpr creeps)
    rw [ownRule_state state]
    simp only [rule, enterRegulating_crept creeps]
  · have rule : reapplyingRule x (advanceLock x s) = enterRegulating x (advanceLock x s) := if_pos creeps
    rw [ownRule_state state]
    simp only [rule, enterRegulating_crept creeps]

/-- R27: the record of a sample in REGULATING before the calm timer is judged. -/
def regulatedRecord (s : Station) (x : Axle) : AxleCreep :=
  { timedRecord s x with
    limit := regulatedLimit (creepNow s x) (targetNow s) (ceilingOf s x) (pick s.creep x).limit
    calm := runTimer 5 (decide (creepNow s x ≤ targetNow s)) (pick s.creep x).calm }

theorem regulatingRule_advanceLock (x : Axle) (s : Station) :
    regulatingRule x (advanceLock x s) = calmExpiry x (setCreep s x (regulatedRecord s x)) := by
  unfold regulatingRule
  simp only
  rw [advanceLock_creep, ceilingOf_advanceLock]
  exact congrArg (calmExpiry x) (setCreep_setCreep s x _ _)

theorem tested_regulated {x : Axle} {s : Station} (lock : Unlocked s x) (state : (pick s.creep x).state = .regulating)
    (grips : slips s x = false) (early : (∀ n, (regulatedRecord s x).calm = some n → n < 100) ∨
      (regulatedRecord s x).limit < demandTotal s x) : pick (tested x s).creep x = regulatedRecord s x := by
  rw [tested_own lock (.inr grips), ownRule_state state]
  simp only
  rw [regulatingRule_advanceLock, calmExpiry_early (.inr (by simpa using early)), setCreep_creep, pick_put]

theorem tested_calmed {x : Axle} {s : Station} {n : Nat} (lock : Unlocked s x) (state : (pick s.creep x).state = .regulating)
    (grips : slips s x = false) (calm : (regulatedRecord s x).calm = some n) (old : 100 ≤ n)
    (meets : demandTotal s x ≤ (regulatedRecord s x).limit) : pick (tested x s).creep x =
      { regulatedRecord s x with state := .adhering, stateTime := 0, calm := none } := by
  have state' : (regulatedRecord s x).state = .regulating := state
  rw [tested_own lock (.inr grips), ownRule_state state]
  simp only
  rw [regulatingRule_advanceLock, calmExpiry_due (n := n) (by simpa using state') (by simpa using calm) old (by simpa using meets)]
  simp

/-! ## RECOVERING and REAPPLYING (R30, R31) -/

theorem tested_reapplies {x : Axle} {s : Station} (lock : Unlocked s x) (state : (pick s.creep x).state = .reapplying)
    (grips : slips s x = false) (calm : creepNow s x ≤ targetNow s) : pick (tested x s).creep x =
      reapplied (min (demandTotal s x) (ceilingOf s x)) (timedRecord s x) := by
  rw [tested_own lock (.inr grips), ownRule_state state]
  simp only
  rw [reapplyingRule_holds (by exact calm), advanceLock_creep, setCreep_creep, pick_put, ceilingOf_advanceLock,
    demandTotal_advanceLock]

theorem tested_recovering {x : Axle} {s : Station} (lock : Unlocked s x) (state : (pick s.creep x).state = .recovering)
    (holds : creepNow s x ≤ thresholdNow s) : tested x s = recoveryHoldExpiry x (advanceLock x s) := by
  rw [tested_own lock (.inl (by rw [state]; rfl)), ownRule_state state]
  exact if_neg (not_lt.mpr holds)

theorem tested_recovers {x : Axle} {s : Station} (lock : Unlocked s x) (state : (pick s.creep x).state = .recovering)
    (holds : creepNow s x ≤ thresholdNow s) (young : (pick s.creep x).stateTime < 200) :
    pick (tested x s).creep x = timedRecord s x := by
  rw [tested_recovering lock state holds, recoveryHoldExpiry_early (.inr (.inl (by rw [advanceLock_creep]; exact young))),
    advanceLock_creep]

theorem tested_recovered {x : Axle} {s : Station} (lock : Unlocked s x) (state : (pick s.creep x).state = .recovering)
    (holds : creepNow s x ≤ thresholdNow s) (old : 200 ≤ (pick s.creep x).stateTime) (calm : creepNow s x ≤ targetNow s) :
    pick (tested x s).creep x = reapplied (min (demandTotal s x) (ceilingOf s x))
      { timedRecord s x with state := .reapplying, stateTime := 0 } := by
  have state' : (timedRecord s x).state = .recovering := state
  rw [tested_recovering lock state holds, recoveryHoldExpiry_reapplies (by rw [advanceLock_creep]; exact state')
    (by rw [advanceLock_creep]; exact old) (by exact holds) (by exact calm), advanceLock_creep, setCreep_creep, pick_put,
    ceilingOf_advanceLock, demandTotal_advanceLock]

theorem tested_recovered_creeps {x : Axle} {s : Station} (lock : Unlocked s x) (state : (pick s.creep x).state = .recovering)
    (holds : creepNow s x ≤ thresholdNow s) (old : 200 ≤ (pick s.creep x).stateTime) (creeps : targetNow s < creepNow s x) :
    pick (tested x s).creep x = creptRecord (timedRecord s x) := by
  have state' : (timedRecord s x).state = .recovering := state
  rw [tested_recovering lock state holds, recoveryHoldExpiry_creeps (by rw [advanceLock_creep]; exact state')
    (by rw [advanceLock_creep]; exact old) (by exact holds) (by exact creeps), advanceLock_creep, setCreep_creep, pick_put]
  rfl

theorem tested_recovering_slips {x : Axle} {s : Station} (lock : Unlocked s x) (state : (pick s.creep x).state = .recovering)
    (slides : thresholdNow s < creepNow s x) : Slid x s (tested x s) .slipping := by
  have rule : recoveringRule x (advanceLock x s) = enterSlipping x (advanceLock x s) := if_pos slides
  obtain ⟨_, _, e⟩ := enterSlipping_entered x (advanceLock x s)
  rw [tested_own lock (.inl (by rw [state]; rfl)), ownRule_state state]
  simp only
  rw [rule, e, advanceLock_creep]
  refine ⟨?_, rfl⟩
  rw [setCreep_creep, pick_put]
  rfl

/-! ## SLIPPING (R28, R29) -/

theorem tested_slipping {x : Axle} {s : Station} (lock : Unlocked s x) (state : (pick s.creep x).state = .slipping) :
    tested x s = slippingRule x (advanceLock x s) := by
  rw [tested_own lock (.inl (by rw [state]; rfl)), ownRule_state state]

theorem tested_slipping_calms {x : Axle} {s : Station} (lock : Unlocked s x) (state : (pick s.creep x).state = .slipping)
    (calm : creepNow s x ≤ targetNow s) :
    pick (tested x s).creep x = { timedRecord s x with state := .recovering, stateTime := 0 } := by
  rw [tested_slipping lock state, slippingRule_calms (by exact calm), advanceLock_creep, setCreep_creep, pick_put]

theorem tested_slipping_persists {x : Axle} {s : Station} (lock : Unlocked s x) (state : (pick s.creep x).state = .slipping)
    (slides : targetNow s < creepNow s x) (old : 1500 ≤ (pick s.creep x).stateTime)
    (fresh : (pick s.creep x).slipReported = false) :
    pick (tested x s).creep x = { timedRecord s x with limit := 0, slipReported := true } := by
  have state' : (timedRecord s x).state = .slipping := state
  rw [tested_slipping lock state, slippingRule_slides (by exact slides), slipPersistent_due (by rw [advanceLock_creep]; exact state')
    (by rw [advanceLock_creep]; exact old) (by rw [advanceLock_creep]; exact fresh), advanceLock_creep]
  simp [report]

theorem tested_slipping_lasts {x : Axle} {s : Station} (lock : Unlocked s x) (state : (pick s.creep x).state = .slipping)
    (slides : targetNow s < creepNow s x) (early : (pick s.creep x).stateTime < 1500 ∨ (pick s.creep x).slipReported = true) :
    pick (tested x s).creep x = timedRecord s x := by
  rw [tested_slipping lock state, slippingRule_slides (by exact slides),
    slipPersistent_early (.inr (by rw [advanceLock_creep]; exact early)), advanceLock_creep]

/-! ## LOCKED (R42 to R44) -/

theorem tested_locked {x : Axle} {s : Station} (state : (pick s.creep x).state = .locked) :
    tested x s = lockedRule x (advanceLock x s) := runTests_locked (by rw [advanceLock_creep]; exact state)

theorem tested_locked_turns {x : Axle} {s : Station} (state : (pick s.creep x).state = .locked)
    (turns : (500 * s.ref.speed).tdiv 1000 ≤ (pick s.axles x).forward) :
    pick (tested x s).creep x = { timedRecord s x with state := .recovering, stateTime := 0 } := by
  rw [tested_locked state, lockedRule_turns (by exact turns), advanceLock_creep, setCreep_creep, pick_put]

theorem tested_locked_stands {x : Axle} {s : Station} (state : (pick s.creep x).state = .locked)
    (slow : (pick s.axles x).forward < (500 * s.ref.speed).tdiv 1000) (kept : ¬Declared s x) :
    pick (tested x s).creep x =
      { timedRecord s x with wheelLock := wheelLocked (pick s.creep x), release := releaseTimer s x } := by
  have timer : releaseTimer (advanceLock x s) x = releaseTimer s x := by
    unfold releaseTimer
    rw [advanceLock_creep]
    rfl
  rw [tested_locked state, lockedRule_keeps (by rw [advanceLock_creep]; exact state) (by exact slow)
    (by rwa [declared_advanceLock]), timer, advanceLock_creep]
  rw [setCreep_creep, pick_put]
  rfl

end Sys2Proof.Machine

end

section
/-! SUPPORT. One sample of an axle's state machine, from the record that its tests find to the record after the whole sample
(R21, R23, R25 to R33, R42 to R44). -/

namespace Sys2Proof.Machine

/-! ## From the record after the rule to the station after the sample -/

/-- The station `t` after a whole sample has what the machine of the axle `x`, which found the station `s`, left of its record,
and the requests that it sent. -/
structure SampledFrom (s t : Station) (x : Axle) : Prop where
  time : t.time = s.time
  figs : t.figs = s.figs
  ref : t.ref = s.ref
  dir : t.creepDir = s.creepDir
  forward : (pick t.axles x).forward = (pick s.axles x).forward
  demand : demandTotal t x = demandTotal s x
  record : ∃ e f, pick t.creep x = { pick (tested x s).creep x with
    limit := min (pick (tested x s).creep x).limit (ceilingOf t x)
    history := (if (pick s.creep x).history.length < 4 then (pick s.creep x).history else (pick s.creep x).history.tail) ++
      [creepNow s x]
    electric := e, friction := f }
  peaks : (pick (tested x s).creep x).peaks = (pick s.creep x).peaks
  slipHold : (tested x s).sanding.slipHold = some (after s.time 3000) → t.sanding.slipHold = some (after s.time 3000)
  reslipHold : (tested x s).sanding.reslipHold = some (after s.time 10000) → t.sanding.reslipHold = some (after s.time 10000)

theorem SampledFrom.leaves {s t : Station} {x : Axle} (k : SampledFrom s t x) {r : AxleCreep}
    (h : pick (tested x s).creep x = r) : ∃ l e f, pick t.creep x =
      { r with limit := min r.limit (ceilingOf t x), history := l, electric := e, friction := f } := by
  obtain ⟨e, f, record⟩ := k.record
  rw [h] at record
  exact ⟨_, e, f, record⟩

/-- R23: a rule that writes neither figure of the ceiling finds the ceiling that stands after the sample. -/
theorem SampledFrom.ceiling {s t : Station} {x : Axle} (k : SampledFrom s t x) {r : AxleCreep}
    (h : pick (tested x s).creep x = r) (limit : r.preLimit = (pick s.creep x).preLimit)
    (ceiling : r.ceiling = (pick s.creep x).ceiling) : ceilingOf s x = ceilingOf t x := by
  obtain ⟨_, _, _, u⟩ := k.leaves h
  exact (ceilingOf_congr k.time (by rw [k.ref]) k.figs (by rw [u]; exact limit) (by rw [u]; exact ceiling)).symm

/-- What a sample leaves of the fields of an axle's record that its state machine speaks of. -/
def LeftAt (u : AxleCreep) (state : CreepState) (stateTime limit : Nat) (calm : Option Nat) : Prop :=
  u.state = state ∧ u.stateTime = stateTime ∧ u.limit = limit ∧ u.calm = calm

section
variable {s t : Station} {x : Axle}

/-! ## ADHERING, REGULATING, REAPPLYING and RECOVERING -/

theorem sampled_adheres (k : SampledFrom s t x) (lock : Unlocked s x) (state : (pick s.creep x).state = .adhering)
    (grips : slips s x = false) (calm : creepNow s x ≤ targetNow s) : LeftAt (pick t.creep x) .adhering (pick s.creep x).stateTime
      (min ((pick s.creep x).limit + 100) (ceilingOf t x)) (pick s.creep x).calm := by
  have record := tested_adheres lock state grips calm
  obtain ⟨_, _, _, u⟩ := k.leaves record
  have ceiling := k.ceiling record rfl rfl
  rw [u]
  refine ⟨state, rfl, ?_, rfl⟩
  simp only [ceiling, raiseToward_capped]

/-- R26, R27, R30, R31: the axle creeps beyond the target and is in REGULATING with its limit a step lower. -/
theorem sampled_crept (k : SampledFrom s t x) (h : pick (tested x s).creep x = creptRecord (timedRecord s x)) :
    LeftAt (pick t.creep x) .regulating 0 (min ((pick s.creep x).limit - 250) (ceilingOf t x)) none := by
  obtain ⟨_, _, _, u⟩ := k.leaves h
  rw [u]
  exact ⟨rfl, rfl, rfl, rfl⟩

theorem sampled_regulates_creeps (k : SampledFrom s t x) (lock : Unlocked s x) (state : (pick s.creep x).state = .regulating)
    (grips : slips s x = false) (creeps : targetNow s < creepNow s x) : LeftAt (pick t.creep x) .regulating
      (pick s.creep x).stateTime (min ((pick s.creep x).limit - 250) (ceilingOf t x)) none := by
  have calm : (regulatedRecord s x).calm = none := by simp [regulatedRecord, runTimer, not_le.mpr creeps]
  have limit : (regulatedRecord s x).limit = (pick s.creep x).limit - 250 := if_pos creeps
  obtain ⟨_, _, _, u⟩ := k.leaves (tested_regulated lock state grips (.inl fun n h => by rw [calm] at h; cases h))
  rw [u]
  exact ⟨state, rfl, by simp only [limit], calm⟩

/-- R27: the limit of a sample in REGULATING at or below the target. -/
theorem regulatedRecord_limit {lim : Nat} (ceiling : ceilingOf s x = ceilingOf t x) (calm : creepNow s x ≤ targetNow s)
    (low : creepNow s x < (targetNow s).tdiv 2 → lim = if (pick s.creep x).limit < ceilingOf t x
      then min ((pick s.creep x).limit + 100) (ceilingOf t x) else (pick s.creep x).limit)
    (high : (targetNow s).tdiv 2 ≤ creepNow s x → lim = (pick s.creep x).limit) : (regulatedRecord s x).limit = lim := by
  have unfolds : (regulatedRecord s x).limit =
      if creepNow s x < (targetNow s).tdiv 2 then raiseToward 100 (ceilingOf s x) (pick s.creep x).limit
      else (pick s.creep x).limit := if_neg (not_lt.mpr calm)
  rw [unfolds, ceiling]
  split
  · rename_i below; exact (low below).symm
  · rename_i above; exact (high (not_lt.mp above)).symm

theorem regulatedRecord_calm {n : Nat} (calm : creepNow s x ≤ targetNow s) (fresh : (pick s.creep x).calm = none → n = 0)
    (runs : ∀ m, (pick s.creep x).calm = some m → n = m + 5) : (regulatedRecord s x).calm = some n := by
  have unfolds : (regulatedRecord s x).calm = runTimer 5 true (pick s.creep x).calm := by
    simp only [regulatedRecord, decide_eq_true calm]
  rw [unfolds]
  cases h : (pick s.creep x).calm with
  | none => rw [fresh h]; rfl
  | some m => rw [runs m h]; rfl

theorem sampled_regulates (k : SampledFrom s t x) (lock : Unlocked s x) (state : (pick s.creep x).state = .regulating)
    (grips : slips s x = false) (calm : creepNow s x ≤ targetNow s) {lim n : Nat}
    (low : creepNow s x < (targetNow s).tdiv 2 → lim = if (pick s.creep x).limit < ceilingOf t x
      then min ((pick s.creep x).limit + 100) (ceilingOf t x) else (pick s.creep x).limit)
    (high : (targetNow s).tdiv 2 ≤ creepNow s x → lim = (pick s.creep x).limit)
    (fresh : (pick s.creep x).calm = none → n = 0) (runs : ∀ m, (pick s.creep x).calm = some m → n = m + 5) :
    (100 ≤ n → demandTotal s x ≤ lim → LeftAt (pick t.creep x) .adhering 0 (min lim (ceilingOf t x)) none) ∧
    (n < 100 ∨ lim < demandTotal s x →
      LeftAt (pick t.creep x) .regulating (pick s.creep x).stateTime (min lim (ceilingOf t x)) (some n)) := by
  have timer := regulatedRecord_calm calm fresh runs
  have limit (h : ceilingOf s x = ceilingOf t x) := regulatedRecord_limit h calm low high
  by_cases due : 100 ≤ n ∧ demandTotal s x ≤ (regulatedRecord s x).limit
  · obtain ⟨old, meets⟩ := due
    have record := tested_calmed lock state grips timer old meets
    have limit := limit (k.ceiling record rfl rfl)
    obtain ⟨_, _, _, u⟩ := k.leaves record
    rw [limit] at meets
    refine ⟨fun _ _ => ?_, fun h => by omega⟩
    rw [u]
    exact ⟨rfl, rfl, by simp only [limit], rfl⟩
  · have early : (∀ m, (regulatedRecord s x).calm = some m → m < 100) ∨ (regulatedRecord s x).limit < demandTotal s x := by
      rcases not_and_or.mp due with young | short
      · exact .inl fun m h => by rw [timer] at h; obtain rfl := Option.some.inj h; omega
      · exact .inr (not_le.mp short)
    have record := tested_regulated lock state grips early
    have limit := limit (k.ceiling record rfl rfl)
    obtain ⟨_, _, _, u⟩ := k.leaves record
    rw [limit] at due
    refine ⟨fun h h' => absurd ⟨h, h'⟩ due, fun _ => ?_⟩
    rw [u]
    exact ⟨state, rfl, by simp only [limit], timer⟩

/-- R30, R31: the record after REAPPLYING's rule; `d` is the record that the rule finds. -/
theorem sampled_reapplied (k : SampledFrom s t x) {d : AxleCreep} (own : d.preLimit = (pick s.creep x).preLimit ∧
      d.ceiling = (pick s.creep x).ceiling ∧ d.limit = (pick s.creep x).limit)
    (h : pick (tested x s).creep x = reapplied (min (demandTotal s x) (ceilingOf s x)) d) {goal lim : Nat}
    (hgoal : goal = min (demandTotal s x) (ceilingOf t x))
    (hlim : lim = if (pick s.creep x).limit < goal then min ((pick s.creep x).limit + 150) goal else (pick s.creep x).limit) :
    (goal ≤ lim → LeftAt (pick t.creep x) .adhering 0 (min lim (ceilingOf t x)) d.calm) ∧
    (lim < goal → LeftAt (pick t.creep x) d.state d.stateTime (min lim (ceilingOf t x)) d.calm) := by
  obtain ⟨preLimit, reslip, limit⟩ := own
  have kept (n : Nat) : (reapplied n d).preLimit = d.preLimit ∧ (reapplied n d).ceiling = d.ceiling := by
    unfold reapplied
    simp only
    split <;> exact ⟨rfl, rfl⟩
  have ceiling := k.ceiling h ((kept _).1.trans preLimit) ((kept _).2.trans reslip)
  have raised : raiseToward 150 goal d.limit = lim := by rw [limit]; exact hlim.symm
  rw [ceiling, ← hgoal] at h
  refine ⟨fun reaches => ?_, fun below => ?_⟩
  · rw [reapplied_reaches (by rw [raised]; exact reaches), raised] at h
    obtain ⟨_, _, _, u⟩ := k.leaves h
    rw [u]
    exact ⟨rfl, rfl, rfl, rfl⟩
  · rw [reapplied_below (by rw [raised]; exact below), raised] at h
    obtain ⟨_, _, _, u⟩ := k.leaves h
    rw [u]
    exact ⟨rfl, rfl, rfl, rfl⟩

/-- The rule leaves the record as it found it but for the state and its time. -/
theorem sampled_stays (k : SampledFrom s t x) {c : CreepState} {n : Nat}
    (h : pick (tested x s).creep x = { timedRecord s x with state := c, stateTime := n }) :
    LeftAt (pick t.creep x) c n (min (pick s.creep x).limit (ceilingOf t x)) (pick s.creep x).calm ∧
      (pick t.creep x).slipReported = (pick s.creep x).slipReported := by
  obtain ⟨_, _, _, u⟩ := k.leaves h
  rw [u]
  exact ⟨⟨rfl, rfl, rfl, rfl⟩, rfl⟩

/-! ## What is left of the lock timer -/

/-- R42: no rule but the lock test writes the lock timer. -/
theorem sampled_lock (k : SampledFrom s t x) (h : (pick (tested x s).creep x).lock = lockTimer s x) :
    (pick t.creep x).lock = lockTimer s x := by
  obtain ⟨_, _, record⟩ := k.record
  rw [record]
  exact h

end

end Sys2Proof.Machine

end

section
/-! SUPPORT. MachineSampled of one axle: the state machine's clauses put together (R21, R25 to R33, R42 to R44). -/

namespace Sys2Proof.Machine

/-! ## The record that the tests find -/

/-- R19, R21, R32, R33: the record `d` that an axle's tests find at a sample, from its record `c` before the sample. -/
structure Readied (now : Millis) (turn : Prop) (hist : List Int) (c d : AxleCreep) : Prop where
  limit : d.limit = c.limit
  calm : d.calm = c.calm
  slipReported : d.slipReported = c.slipReported
  reslips : d.reslips = c.reslips.filter fun r => age now r.time ≤ 5000
  history : d.history = hist
  turned : turn → c.state = .slipping ∨ c.state = .locked ∨ c.state = .recovering → d.state = .recovering ∧ d.stateTime = 0
  straight : ¬turn ∨ (c.state ≠ .slipping ∧ c.state ≠ .locked ∧ c.state ≠ .recovering) →
    d.state = c.state ∧ d.stateTime = c.stateTime + 5
  cleared : turn → d.lock = none ∧ d.wheelLock = false ∧ d.state ≠ .locked
  kept : ¬turn → d.lock = c.lock ∧ d.release = c.release ∧ d.wheelLock = c.wheelLock

theorem reapplied_kept (n : Nat) (c : AxleCreep) : (reapplied n c).lock = c.lock ∧ (reapplied n c).history = c.history := by
  unfold reapplied
  simp only
  split <;> exact ⟨rfl, rfl⟩

/-- R21, R42: below its figure the lock timer outlives the tests and the rule, and so does the creep history. -/
theorem tested_kept {x : Axle} {s : Station} (lock : Unlocked s x) (kept : ¬Declared s x) :
    (pick (tested x s).creep x).lock = lockTimer s x ∧ (pick (tested x s).creep x).history = (pick s.creep x).history := by
  by_cases slipping : slipTested (pick s.creep x).state = true ∧ slips s x = true
  · obtain ⟨tests, slipping⟩ := slipping
    rw [(tested_slips lock tests slipping).record]; exact ⟨rfl, rfl⟩
  · have grips (tests : slipTested (pick s.creep x).state = true) : slips s x = false := by
      cases h : slips s x with
      | true => exact absurd ⟨tests, h⟩ slipping
      | false => rfl
    cases state : (pick s.creep x).state with
    | adhering =>
      rcases le_or_gt (creepNow s x) (targetNow s) with calm | creeps
      · rw [tested_adheres lock state (grips (by rw [state]; rfl)) calm]; exact ⟨rfl, rfl⟩
      · rw [tested_crept lock (.inl state) (grips (by rw [state]; rfl)) creeps]; exact ⟨rfl, rfl⟩
    | regulating =>
      rw [tested_own lock (.inr (grips (by rw [state]; rfl))), ownRule_state state]
      simp only
      rw [regulatingRule_advanceLock]
      unfold calmExpiry
      simp only
      split <;> rw [setCreep_creep, pick_put]
      · rw [setCreep_creep, pick_put]; exact ⟨rfl, rfl⟩
      · exact ⟨rfl, rfl⟩
    | reapplying =>
      rcases le_or_gt (creepNow s x) (targetNow s) with calm | creeps
      · rw [tested_reapplies lock state (grips (by rw [state]; rfl)) calm, (reapplied_kept _ _).1, (reapplied_kept _ _).2]
        exact ⟨rfl, rfl⟩
      · rw [tested_crept lock (.inr state) (grips (by rw [state]; rfl)) creeps]; exact ⟨rfl, rfl⟩
    | recovering =>
      rcases le_or_gt (creepNow s x) (thresholdNow s) with holds | slides
      · rcases lt_or_ge (pick s.creep x).stateTime 200 with young | old
        · rw [tested_recovers lock state holds young]; exact ⟨rfl, rfl⟩
        · rcases le_or_gt (creepNow s x) (targetNow s) with calm | creeps
          · rw [tested_recovered lock state holds old calm, (reapplied_kept _ _).1, (reapplied_kept _ _).2]; exact ⟨rfl, rfl⟩
          · rw [tested_recovered_creeps lock state holds old creeps]; exact ⟨rfl, rfl⟩
      · rw [(tested_recovering_slips lock state slides).record]; exact ⟨rfl, rfl⟩
    | slipping =>
      rcases le_or_gt (creepNow s x) (targetNow s) with calm | slides
      · rw [tested_slipping_calms lock state calm]; exact ⟨rfl, rfl⟩
      · by_cases due : 1500 ≤ (pick s.creep x).stateTime ∧ (pick s.creep x).slipReported = false
        · rw [tested_slipping_persists lock state slides due.1 due.2]; exact ⟨rfl, rfl⟩
        · rw [tested_slipping_lasts lock state slides (by
            rcases not_and_or.mp due with young | set
            · exact .inl (not_le.mp young)
            · exact .inr (by simpa using set))]
          exact ⟨rfl, rfl⟩
    | locked =>
      rcases lt_or_ge (pick s.axles x).forward ((500 * s.ref.speed).tdiv 1000) with slow | turns
      · rw [tested_locked_stands state slow kept]; exact ⟨rfl, rfl⟩
      · rw [tested_locked_turns state turns]; exact ⟨rfl, rfl⟩

/-! ## The figures of the sample -/

theorem slips_iff (s : Station) (x : Axle) : slips s x = true ↔ thresholdNow s < creepNow s x ∨
    ∃ a b d e, (pick s.creep x).history = [a, b, d, e] ∧ a + 50 < creepNow s x := by
  rw [slips, Bool.or_eq_true, decide_eq_true_eq]
  refine or_congr_right ?_
  unfold accelerates
  split
  · rename_i c _ _ _ h
    rw [decide_eq_true_eq, h]
    constructor
    · exact fun less => ⟨_, _, _, _, rfl, less⟩
    · rintro ⟨a, b, d, e, same, less⟩
      obtain ⟨rfl, -⟩ := List.cons.inj same
      exact less
  · rename_i other
    constructor
    · nofun
    · rintro ⟨a, b, d, e, same, -⟩
      exact absurd same (other a b d e)

theorem creepNow_moving {s : Station} {x : Axle} (moving : s.creepDir ≠ .rest) : creepNow s x =
    if s.creepDir = .braking then s.ref.speed - (pick s.axles x).forward else (pick s.axles x).forward - s.ref.speed := by
  unfold creepNow creepIn
  cases h : s.creepDir <;> simp_all

/-- R42: the lock timer of a sample by the lock condition. -/
theorem lockTimer_cases (s : Station) (x : Axle) :
    (¬((pick s.creep x).state ≠ .locked ∧ lockCondition s x = true) → lockTimer s x = none) ∧
    ((pick s.creep x).state ≠ .locked ∧ lockCondition s x = true →
      ((pick s.creep x).lock = none → lockTimer s x = some 0) ∧
      ∀ n, (pick s.creep x).lock = some n → lockTimer s x = some (n + 5)) := by
  have holds : ((pick s.creep x).state != .locked && lockCondition s x) = true ↔
      (pick s.creep x).state ≠ .locked ∧ lockCondition s x = true := by simp
  unfold lockTimer
  refine ⟨fun h => ?_, fun h => ?_⟩
  · rw [← holds, Bool.not_eq_true] at h
    rw [h]; rfl
  · rw [← holds] at h
    rw [h]
    exact ⟨fun n => by rw [n]; rfl, fun n hn => by rw [hn]; rfl⟩

/-- R42: the lock timer reaches its figure in no axle that is LOCKED. -/
theorem lockReached_timed {s : Station} {x : Axle} {n : Nat} (h : lockTimer s x = some n) (old : 150 ≤ n) :
    lockReached (timedRecord s x) = true := by
  obtain ⟨stops, -⟩ := lockTimer_cases s x
  by_cases holds : (pick s.creep x).state ≠ .locked ∧ lockCondition s x = true
  · exact (lockReached_iff _).mpr ⟨holds.1, n, h, old⟩
  · rw [stops holds] at h; cases h

theorem unlocked_of_timer {s : Station} {x : Axle} (h : ∀ n, lockTimer s x = some n → n < 150) : Unlocked s x := by
  unfold Unlocked lockReached
  have early : reached 150 (timedRecord s x).lock = false := reached_eq_false h
  rw [early, Bool.and_false]

section
variable {z s t : Station} {x : Axle} {turn : Prop} {hist : List Int}

/-! ## SLIPPING and LOCKED -/

/-- R28, R33: what an entry to SLIPPING leaves after the whole sample. -/
theorem sampled_slid (k : SampledFrom s t x) {c : AxleCreep} {state : CreepState} {peak : Nat}
    (ready : Readied s.time turn hist c (pick s.creep x)) (time : z.time = s.time) (hpeak : peakOf (pick s.creep x) = peak)
    (slid : Slid x s (tested x s) state) :
    (pick t.creep x).state = state ∧ SlipEntered z t c (pick t.creep x) peak (ceilingOf t x) := by
  obtain ⟨record, sanding⟩ := slid
  obtain ⟨_, _, _, u⟩ := k.leaves record
  have peak' : peakOf (timedRecord s x) = peak := hpeak
  have joined : joinedReslips s.time peak (timedRecord s x).reslips = joinedReslips s.time peak c.reslips := by
    have own : (timedRecord s x).reslips = _ := ready.reslips
    rw [own, joinedReslips_filter]
  have limit : (timedRecord s x).limit = c.limit := ready.limit
  have reslips : (pick t.creep x).reslips = joinedReslips s.time peak c.reslips := by
    rw [u]; simp only [slidRecord, peak', joined]
  have ceiling : (pick t.creep x).ceiling = (slidRecord s.time (timedRecord s x)).ceiling := by rw [u]
  refine ⟨by rw [u], ?_, by rw [u]; rfl, by rw [u]; rfl, ?_, by rw [reslips, time]; rfl, fun low three least met => ?_⟩
  · rw [u]; simp only [slidRecord, slippingRecord, peak', limit]
  · rw [time]; exact k.slipHold (by rw [sanding]; rfl)
  · rw [reslips] at three least met
    have some' : joinedReslips s.time peak c.reslips ≠ [] := fun h => by rw [h] at three; cases three
    obtain ⟨r, hr, hlow⟩ := met
    have lowest : lowestPeak (joinedReslips s.time peak c.reslips) = low :=
      le_antisymm (hlow ▸ lowestPeak_le hr) (le_lowestPeak some' least)
    refine ⟨?_, ?_⟩
    · rw [ceiling, time]
      simp only [slidRecord, peak', joined, if_pos three, lowest]
    · rw [time]
      exact k.reslipHold (by rw [sanding]; simp only [slidSanding, peak', joined, if_pos three])

/-- R42: what an entry to LOCKED leaves. -/
theorem sampled_locks (k : SampledFrom s t x) (lock : lockReached (timedRecord s x) = true) {peak : Nat}
    (hpeak : peakOf (pick s.creep x) = peak) : (pick t.creep x).state = .locked ∧
      (pick t.creep x).limit = min (min (pick s.creep x).limit (700 * peak / 1000)) (ceilingOf t x) ∧
      (pick t.creep x).stateTime = 0 ∧ (pick t.creep x).lock = none ∧ (pick t.creep x).release = none ∧
      (pick t.creep x).wheelLock = false := by
  obtain ⟨_, _, _, u⟩ := k.leaves (tested_locks lock)
  have peak' : peakOf (timedRecord s x) = peak := hpeak
  rw [u]
  refine ⟨rfl, ?_, rfl, rfl, rfl, rfl⟩
  simp only [lockedRecord, peak']
  rfl

/-- R42, R44: a wheel that stands in LOCKED. -/
theorem sampled_stands (k : SampledFrom s t x) (state : (pick s.creep x).state = .locked)
    (slow : (pick s.axles x).forward < (500 * s.ref.speed).tdiv 1000) (kept : ¬Declared s x) :
    LeftAt (pick t.creep x) .locked (pick s.creep x).stateTime (min (pick s.creep x).limit (ceilingOf t x)) (pick s.creep x).calm ∧
      (pick t.creep x).wheelLock = wheelLocked (pick s.creep x) ∧ (pick t.creep x).release = releaseTimer s x := by
  obtain ⟨_, _, _, u⟩ := k.leaves (tested_locked_stands state slow kept)
  rw [u]
  exact ⟨⟨state, rfl, rfl, rfl⟩, rfl, rfl⟩

/-- R29: a sample in SLIPPING beyond the target, and the report at 1,500 ms. -/
theorem sampled_slides (k : SampledFrom s t x) (lock : Unlocked s x) (state : (pick s.creep x).state = .slipping)
    (slides : targetNow s < creepNow s x) : (pick t.creep x).state = .slipping ∧
    (pick t.creep x).stateTime = (pick s.creep x).stateTime ∧
    (1500 ≤ (pick s.creep x).stateTime → (pick s.creep x).slipReported = false →
      (pick t.creep x).limit = 0 ∧ (pick t.creep x).slipReported = true) ∧
    ((pick s.creep x).stateTime < 1500 ∨ (pick s.creep x).slipReported = true →
      (pick t.creep x).limit = min (pick s.creep x).limit (ceilingOf t x) ∧
      (pick t.creep x).slipReported = (pick s.creep x).slipReported) := by
  by_cases due : 1500 ≤ (pick s.creep x).stateTime ∧ (pick s.creep x).slipReported = false
  · obtain ⟨old, fresh⟩ := due
    obtain ⟨_, _, _, u⟩ := k.leaves (tested_slipping_persists lock state slides old fresh)
    rw [u]
    exact ⟨state, rfl, fun _ _ => ⟨Nat.zero_min _, rfl⟩, fun h => by simp_all; omega⟩
  · have early : (pick s.creep x).stateTime < 1500 ∨ (pick s.creep x).slipReported = true := by
      rcases not_and_or.mp due with h | h
      · exact .inl (not_le.mp h)
      · exact .inr (by simpa using h)
    obtain ⟨⟨hs, ht, hl, -⟩, hr⟩ := sampled_stays k (tested_slipping_lasts lock state slides early)
    exact ⟨hs.trans state, ht, fun h h' => absurd ⟨h, h'⟩ due, fun _ => ⟨hl, hr⟩⟩

/-- R30, R31: REAPPLYING's rule at or below the target, in REAPPLYING or at the end of RECOVERING. -/
theorem sampled_raises (k : SampledFrom s t x) (lock : Unlocked s x) (calm : creepNow s x ≤ targetNow s)
    (state : ((pick s.creep x).state = .reapplying ∧ slips s x = false) ∨
      ((pick s.creep x).state = .recovering ∧ creepNow s x ≤ thresholdNow s ∧ 200 ≤ (pick s.creep x).stateTime))
    {goal lim : Nat} (hgoal : goal = min (demandTotal s x) (ceilingOf t x))
    (hlim : lim = if (pick s.creep x).limit < goal then min ((pick s.creep x).limit + 150) goal else (pick s.creep x).limit) :
    (pick t.creep x).limit = min lim (ceilingOf t x) ∧
    (goal ≤ lim → (pick t.creep x).state = .adhering ∧ (pick t.creep x).stateTime = 0) ∧
    (lim < goal → (pick t.creep x).state = .reapplying ∧ (pick t.creep x).stateTime =
      if (pick s.creep x).state = .recovering then 0 else (pick s.creep x).stateTime) := by
  have outcome : (goal ≤ lim → LeftAt (pick t.creep x) .adhering 0 (min lim (ceilingOf t x)) (pick s.creep x).calm) ∧
      (lim < goal → LeftAt (pick t.creep x) .reapplying
        (if (pick s.creep x).state = .recovering then 0 else (pick s.creep x).stateTime) (min lim (ceilingOf t x))
        (pick s.creep x).calm) := by
    rcases state with ⟨state, grips⟩ | ⟨state, holds, old⟩
    · have raises := sampled_reapplied k (d := timedRecord s x) ⟨rfl, rfl, rfl⟩ (tested_reapplies lock state grips calm) hgoal hlim
      have stays : (timedRecord s x).state = .reapplying := state
      rw [stays] at raises
      rw [if_neg (by rw [state]; nofun)]
      exact raises
    · rw [if_pos state]
      exact sampled_reapplied k (d := { timedRecord s x with state := .reapplying, stateTime := 0 }) ⟨rfl, rfl, rfl⟩
        (tested_recovered lock state holds old calm) hgoal hlim
  obtain ⟨reaches, below⟩ := outcome
  refine ⟨?_, fun h => ?_, fun h => ?_⟩
  · rcases lt_or_ge lim goal with h | h
    · exact (below h).2.2.1
    · exact (reaches h).2.2.1
  · obtain ⟨hs, ht, -⟩ := reaches h
    exact ⟨hs, ht⟩
  · obtain ⟨hs, ht, -⟩ := below h
    exact ⟨hs, ht⟩

end

end Sys2Proof.Machine

end

section
/-! SUPPORT. MachineSampled of an axle whose sensor stays OK through a sample (R21, R25 to R33, R42 to R44). -/

namespace Sys2Proof.Machine

section
variable {z s t : Station} {x : Axle} {turn : Prop} {hist : List Int}

/-- R32: the state and the state time that the tests find are those that MachineSampled speaks of. -/
theorem Readied.found {now : Millis} {c d : AxleCreep} (ready : Readied now turn hist c d) {state : CreepState} {time : Nat}
    (turned : turn → c.state = .slipping ∨ c.state = .locked ∨ c.state = .recovering → state = .recovering ∧ time = 0)
    (straight : ¬turn ∨ (c.state ≠ .slipping ∧ c.state ≠ .locked ∧ c.state ≠ .recovering) →
      state = c.state ∧ time = c.stateTime + 5) : d.state = state ∧ d.stateTime = time := by
  by_cases h : turn ∧ (c.state = .slipping ∨ c.state = .locked ∨ c.state = .recovering)
  · obtain ⟨h, loose⟩ := h
    obtain ⟨hs, ht⟩ := turned h loose
    obtain ⟨ds, dt⟩ := ready.turned h loose
    exact ⟨ds.trans hs.symm, dt.trans ht.symm⟩
  · have h : ¬turn ∨ (c.state ≠ .slipping ∧ c.state ≠ .locked ∧ c.state ≠ .recovering) := by
      rcases not_and_or.mp h with h | h
      · exact .inl h
      · exact .inr (by simpa [not_or] using h)
    obtain ⟨hs, ht⟩ := straight h
    obtain ⟨ds, dt⟩ := ready.straight h
    exact ⟨ds.trans hs.symm, dt.trans ht.symm⟩

/-- R32, R42: the lock timer of the sample is that which MachineSampled speaks of. -/
theorem Readied.timer {now : Millis} {c : AxleCreep} (ready : Readied now turn hist c (pick s.creep x)) {locks : Prop}
    {lock : Option Nat} (hlocks : locks ↔ (pick s.creep x).state ≠ .locked ∧ lockCondition s x = true)
    (stops : ¬locks → lock = none) (starts : locks → turn ∨ c.lock = none → lock = some 0)
    (runs : ∀ n, locks → ¬turn → c.lock = some n → lock = some (n + 5)) : lockTimer s x = lock := by
  obtain ⟨off, on⟩ := lockTimer_cases s x
  rw [← hlocks] at off on
  by_cases h : locks
  · obtain ⟨fresh, older⟩ := on h
    by_cases turned : turn
    · obtain ⟨clear, -⟩ := ready.cleared turned
      rw [starts h (.inl turned), fresh clear]
    · obtain ⟨same, -⟩ := ready.kept turned
      rw [same] at fresh older
      cases hc : c.lock with
      | none => rw [starts h (.inr hc), fresh hc]
      | some n => rw [runs n h turned hc, older n hc]
  · rw [stops h, off h]

/-- R42, R44: the WHEEL_LOCK flag and the release timer of a wheel that stands in LOCKED. -/
theorem released_of (c : AxleCreep) {d u : AxleCreep} {runs : Bool} {free : Prop} (hfree : runs = true ↔ free)
    (kept : d.release = c.release ∧ d.wheelLock = c.wheelLock) (wheel : u.wheelLock = wheelLocked d)
    (release : u.release = if wheelLocked d then runTimer 5 runs d.release else d.release) :
    (u.wheelLock = true ↔ c.wheelLock = true ∨ 800 ≤ d.stateTime) ∧
      (u.wheelLock = true → free → c.release = none → u.release = some 0) ∧
      (∀ n, u.wheelLock = true → free → c.release = some n → u.release = some (n + 5)) ∧
      (u.wheelLock = true → ¬free → u.release = none) := by
  obtain ⟨timer, flag⟩ := kept
  refine ⟨?_, fun set h fresh => ?_, fun n set h old => ?_, fun set h => ?_⟩
  · rw [wheel, wheelLocked, flag, Bool.or_eq_true, decide_eq_true_eq]
  · rw [release, if_pos (wheel ▸ set), hfree.mpr h, timer, fresh]; rfl
  · rw [release, if_pos (wheel ▸ set), hfree.mpr h, timer, old]; rfl
  · have off : runs = false := by rw [← hfree] at h; simpa using h
    rw [release, if_pos (wheel ▸ set), off]; rfl

/-- One sample of the state machine, put together from what each test and rule leaves. -/
theorem machineSampled_of (k : SampledFrom s t x) (kept : ¬Declared s x) (moving : t.creepDir ≠ .rest)
    (ready : Readied s.time turn hist (pick z.creep x) (pick s.creep x)) (now : z.time = s.time)
    (free : runsFree s x = true ↔ (pick z.axles x).edgeSeen = false ∧ ∃ r, z.link.brake.state = .present ∧
      z.link.brake.report = some r ∧ pick r.friction x = 0) : MachineSampled z t x turn hist := by
  intro c u v fwd creep target slip peak ceiling demand time state locks slips' lock hc hu hv hfwd hcreep htarget hslip hle hmem
    hceiling hdemand turned straight hlocks stops starts runs hslips
  have creep' : creepNow s x = creep := by
    rw [creepNow_moving (by rw [← k.dir]; exact moving), hcreep, hv, hfwd, k.dir, k.ref, k.forward]
  have target' : targetNow s = target := by rw [htarget, hv, k.ref]; rfl
  have slip' : thresholdNow s = slip := by rw [hslip, hv, k.ref]; rfl
  have demand' : demandTotal s x = demand := by rw [hdemand, ← k.demand]; rfl
  rw [← hc] at ready
  obtain ⟨state', time'⟩ := ready.found turned straight
  have locks' : locks ↔ (pick s.creep x).state ≠ .locked ∧ lockCondition s x = true := by
    rw [hlocks, lockCondition_iff, state', hv, hfwd, k.dir, k.ref, k.forward]
  have lock' : lockTimer s x = lock := ready.timer locks' stops starts runs
  have slips'' : slips s x = true ↔ slips' := by rw [slips_iff, ready.history, creep', slip', hslips]
  have grips (h : ¬slips') : slips s x = false := by rw [← slips''] at h; simpa using h
  obtain ⟨_, _, whole⟩ := k.record
  have peak' : peakOf (pick s.creep x) = peak := by
    have peaks : u.peaks = (pick s.creep x).peaks := by rw [hu, whole]; exact k.peaks
    rw [peaks] at hle hmem
    exact peakOf_eq hle hmem
  have slow : (pick s.axles x).forward < (500 * s.ref.speed).tdiv 1000 ↔ fwd < (500 * v).tdiv 1000 := by
    rw [hfwd, hv, k.forward, k.ref]
  have limit : (pick s.creep x).limit = c.limit := ready.limit
  have calm : (pick s.creep x).calm = c.calm := ready.calm
  have reported : (pick s.creep x).slipReported = c.slipReported := ready.slipReported
  have slid {st : CreepState} (h : Slid x s (tested x s) st) := sampled_slid k ready now peak' h
  subst hceiling
  rw [← hu] at slid
  refine ⟨by rw [hu, whole, ready.history, creep'], fun n hn old => ?_, fun young => ?_⟩
  · have locked := sampled_locks k (lockReached_timed (lock'.trans hn) old) peak'
    rwa [← hu, limit] at locked
  have unlocked : Unlocked s x := unlocked_of_timer (by rw [lock']; exact young)
  refine ⟨by rw [hu, sampled_lock k (tested_kept unlocked kept).1, lock'], fun st slides => ?_, fun st still low => ?_,
    fun st still high => ?_, fun st still high => ?_, fun lim n st still low below above fresh older => ?_,
    fun goal lim st still low hgoal hlim => ?_, fun st holds old high => ?_, fun st holds recent => ?_, fun st slides => ?_,
    fun st low => ?_, fun st high => ?_, fun st turns => ?_, fun st stands => ?_⟩
  · have tests : slipTested (pick s.creep x).state = true := by rw [state']; rcases st with st | st | st <;> rw [st] <;> rfl
    have entered := slid (tested_slips unlocked tests (slips''.mpr slides))
    rwa [creep', target'] at entered
  · obtain ⟨hs, ht, hl, -⟩ := sampled_adheres k unlocked (state'.trans st) (grips still) (by rw [creep', target']; exact low)
    rw [← hu] at hs ht hl
    exact ⟨hs, ht.trans time', by rw [hl, limit]⟩
  · have states : (pick s.creep x).state = .adhering ∨ (pick s.creep x).state = .reapplying := by rw [state']; exact st
    obtain ⟨hs, ht, hl, hcalm⟩ := sampled_crept k (tested_crept unlocked states (grips still) (by rw [creep', target']; exact high))
    rw [← hu] at hs ht hl hcalm
    exact ⟨hs, ht, hcalm, by rw [hl, limit]⟩
  · obtain ⟨hs, ht, hl, hcalm⟩ := sampled_regulates_creeps k unlocked (state'.trans st) (grips still) (by
      rw [creep', target']; exact high)
    rw [← hu] at hs ht hl hcalm
    exact ⟨hs, ht.trans time', hcalm, by rw [hl, limit]⟩
  · obtain ⟨due, early⟩ := sampled_regulates (lim := lim) (n := n) k unlocked (state'.trans st) (grips still)
      (by rw [creep', target']; exact low) (by rw [creep', target', limit]; exact below)
      (by rw [creep', target', limit]; exact above) (by rw [calm]; exact fresh) (by rw [calm]; exact older)
    rw [demand', ← hu] at due early
    refine ⟨?_, fun old meets => ?_, fun h => ?_⟩
    · rcases lt_or_ge n 100 with h | h
      · exact (early (.inl h)).2.2.1
      · rcases lt_or_ge lim demand with h' | h'
        · exact (early (.inr h')).2.2.1
        · exact (due h h').2.2.1
    · obtain ⟨hs, ht, -, hcalm⟩ := due old meets
      exact ⟨hs, ht, hcalm⟩
    · obtain ⟨hs, ht, -, hcalm⟩ := early h
      exact ⟨hs, ht.trans time', hcalm⟩
  · have raises := sampled_raises (goal := goal) (lim := lim) k unlocked (by rw [creep', target']; exact low) (by
      rw [state', creep', slip', time']
      exact st.imp (fun h => ⟨h, grips (still h)⟩) id) (by rw [demand']; exact hgoal) (by rw [limit]; exact hlim)
    rwa [← hu, state', time'] at raises
  · obtain ⟨hs, ht, hl, hcalm⟩ := sampled_crept k (tested_recovered_creeps unlocked (state'.trans st)
      (by rw [creep', slip']; exact holds) (by rw [time']; exact old) (by rw [creep', target']; exact high))
    rw [← hu] at hs ht hl hcalm
    exact ⟨hs, ht, hcalm, by rw [hl, limit]⟩
  · obtain ⟨⟨hs, ht, hl, -⟩, -⟩ := sampled_stays k (tested_recovers unlocked (state'.trans st) (by rw [creep', slip']; exact holds)
      (by rw [time']; exact recent))
    rw [← hu] at hs ht hl
    exact ⟨hs.trans (state'.trans st), ht.trans time', by rw [hl, limit]⟩
  · exact slid (tested_recovering_slips unlocked (state'.trans st) (by rw [creep', slip']; exact slides))
  · obtain ⟨⟨hs, ht, hl, -⟩, -⟩ := sampled_stays k (tested_slipping_calms unlocked (state'.trans st) (by rw [creep', target']; exact low))
    rw [← hu] at hs ht hl
    exact ⟨hs, ht, by rw [hl, limit]⟩
  · have persists := sampled_slides k unlocked (state'.trans st) (by rw [creep', target']; exact high)
    rwa [← hu, time', limit, reported] at persists
  · obtain ⟨⟨hs, ht, hl, -⟩, -⟩ := sampled_stays k (tested_locked_turns (state'.trans st) (by
      rw [← k.ref, ← k.forward, ← hv, ← hfwd]; exact turns))
    rw [← hu] at hs ht hl
    exact ⟨hs, ht, by rw [hl, limit]⟩
  · have locked := state'.trans st
    have same : ¬turn := fun h => (ready.cleared h).2.2 locked
    obtain ⟨-, own⟩ := ready.kept same
    obtain ⟨⟨hs, ht, hl, -⟩, wheel, release⟩ := sampled_stands k locked (slow.mpr stands) kept
    rw [← hu] at hs ht hl wheel release
    obtain ⟨flag, -⟩ := released_of c Iff.rfl own wheel release
    rw [time'] at flag
    refine ⟨hs, ht.trans time', by rw [hl, limit], flag, fun runs' hfree => ?_⟩
    obtain ⟨-, rest⟩ := released_of c (free.trans hfree.symm) own wheel release
    exact rest

end

end Sys2Proof.Machine

end

section
/-! SUPPORT. The two state machines of a sample, each from the station that it finds (R19, R25, R32, R41). -/

namespace Sys2Proof.Machine

/-! ## Before the machines (R19, R32) -/

/-- R19, R32: the station once the state times have grown and a change of direction has acted. -/
def readied (turn : Bool) (s : Station) : Station :=
  if turn then redirect .b (redirect .a (growStateTime .b (growStateTime .a s))) else growStateTime .b (growStateTime .a s)

/-- The station as the machine of an axle finds it: axle A's comes first. -/
def machineInput (turn : Bool) (s : Station) : Axle → Station
  | .a => readied turn s
  | .b => machineSample .a (readied turn s)

theorem runMachines_moving {turn : Bool} {s : Station} (moving : s.creepDir ≠ .rest) :
    runMachines turn s = machineSample .b (machineSample .a (readied turn s)) := by
  unfold runMachines
  cases h : s.creepDir with
  | rest => exact absurd h moving
  | traction | braking | backward => rfl

theorem runMachines_rest {turn : Bool} {s : Station} (rest : s.creepDir = .rest) :
    runMachines turn s = restSample .b (restSample .a s) := by
  unfold runMachines
  rw [rest]

/-- R19, R32: the record of an axle with its sensor OK as its machine finds it. -/
def readiedRecord (turn : Bool) (c : AxleCreep) : AxleCreep :=
  if turn then redirectAxle { c with stateTime := c.stateTime + 5 } else { c with stateTime := c.stateTime + 5 }

theorem growStateTimes_eq (s : Station) : growStateTime .b (growStateTime .a s) = { s with creep :=
    ⟨if s.axles.a.sensor = .ok then { s.creep.a with stateTime := s.creep.a.stateTime + 5 } else s.creep.a,
     if s.axles.b.sensor = .ok then { s.creep.b with stateTime := s.creep.b.stateTime + 5 } else s.creep.b⟩ } := by
  unfold growStateTime
  cases a : s.axles.a.sensor <;> cases b : s.axles.b.sensor <;> simp [pick, put, setCreep, a, b]

theorem redirects_eq (s : Station) : redirect .b (redirect .a s) = { s with creep :=
    ⟨if s.axles.a.sensor = .ok then redirectAxle s.creep.a else s.creep.a,
     if s.axles.b.sensor = .ok then redirectAxle s.creep.b else s.creep.b⟩ } := by
  unfold redirect
  cases a : s.axles.a.sensor <;> cases b : s.axles.b.sensor <;> simp [pick, put, setCreep, a, b]

theorem readied_eq (turn : Bool) (s : Station) : readied turn s = { s with creep :=
    ⟨if s.axles.a.sensor = .ok then readiedRecord turn s.creep.a else s.creep.a,
     if s.axles.b.sensor = .ok then readiedRecord turn s.creep.b else s.creep.b⟩ } := by
  unfold readied readiedRecord
  cases turn
  · exact growStateTimes_eq s
  · rw [if_pos rfl, redirects_eq, growStateTimes_eq]
    cases a : s.axles.a.sensor <;> cases b : s.axles.b.sensor <;> rfl

theorem readied_creep (turn : Bool) (s : Station) (x : Axle) : pick (readied turn s).creep x =
    if (pick s.axles x).sensor = .ok then readiedRecord turn (pick s.creep x) else pick s.creep x := by
  rw [readied_eq]
  cases x <;> rfl

/-! ## What the machines take from and leave to each other -/

theorem machineInput_frame (turn : Bool) (s : Station) (x : Axle) : ∃ a c f g p m, machineInput turn s x =
    { s with axles := a, creep := c, faults := f, sanding := g, port := p, map := m } := by
  have ready := readied_eq turn s
  cases x with
  | a => exact ⟨_, _, _, _, _, _, ready⟩
  | b =>
    obtain ⟨a, c, f, g, p, m, e⟩ := machineSample_frame .a (readied turn s)
    refine ⟨a, c, f, g, p, m, ?_⟩
    rw [machineInput, e, ready]

theorem FailsAtMost.other {x : Axle} {s t : Station} (h : FailsAtMost x s t) :
    pick t.axles (otherAxle x) = pick s.axles (otherAxle x) := by
  rcases h with h | h <;> rw [h]
  exact pick_put_other _ _ _

theorem FailsAtMost.unread {x : Axle} {s t : Station} (h : FailsAtMost x s t) :
    (pick t.axles x).forward = (pick s.axles x).forward := by
  rcases h with h | h <;> rw [h]
  rw [pick_put]

theorem readied_axles (turn : Bool) (s : Station) : (readied turn s).axles = s.axles := by rw [readied_eq]

theorem machineSample_partner (x : Axle) (s : Station) :
    pick (machineSample x s).creep (otherAxle x) = pick s.creep (otherAxle x) := congrArg (·.1) (foreign_machineSample x s)

/-- The machine of an axle finds the axle's unit and record as no other machine writes them. -/
theorem machineInput_own (turn : Bool) (s : Station) (x : Axle) :
    pick (machineInput turn s x).axles x = pick s.axles x ∧
    pick (machineInput turn s x).creep x = pick (readied turn s).creep x := by
  cases x with
  | a => exact ⟨by rw [machineInput, readied_axles], rfl⟩
  | b =>
    have unit := (failsAtMost_machineSample .a (readied turn s)).other
    rw [readied_axles] at unit
    exact ⟨unit, machineSample_partner .a (readied turn s)⟩

/-- What the machines leave of an axle's unit and record is what its own machine left. -/
theorem runMachines_own {turn : Bool} {s : Station} (moving : s.creepDir ≠ .rest) (x : Axle) :
    pick (runMachines turn s).axles x = pick (machineSample x (machineInput turn s x)).axles x ∧
    pick (runMachines turn s).creep x = pick (machineSample x (machineInput turn s x)).creep x := by
  rw [runMachines_moving moving]
  cases x with
  | a =>
    exact ⟨(failsAtMost_machineSample .b (machineSample .a (readied turn s))).other,
      machineSample_partner .b (machineSample .a (readied turn s))⟩
  | b => exact ⟨rfl, rfl⟩

/-! ## Requests (R33, R87) -/

/-- What the machine of an axle does to the requests for sand. -/
def Requests (s t : Station) : Prop :=
  (t.sanding.slipHold = s.sanding.slipHold ∨ t.sanding.slipHold = some (after s.time 3000)) ∧
  (t.sanding.reslipHold = s.sanding.reslipHold ∨ t.sanding.reslipHold = some (after s.time 10000))

theorem requests_of_eq {s t : Station} (h : t.sanding = s.sanding) : Requests s t := by
  rw [Requests, h]; exact ⟨.inl rfl, .inl rfl⟩

theorem requests_enterSlipping (x : Axle) (s : Station) : Requests s (enterSlipping x s) := by
  obtain ⟨_, _, e⟩ := enterSlipping_entered x s
  rw [Requests, e]
  refine ⟨.inr rfl, ?_⟩
  simp only [slidSanding]
  split
  · exact .inr rfl
  · exact .inl rfl

theorem requests_runTests (x : Axle) (s : Station) : Requests s (runTests x s) := by
  unfold runTests
  simp only
  split
  · obtain ⟨_, _, _, e⟩ := lockedRule_frame x (lockExpiry x s)
    obtain ⟨_, e'⟩ := lockExpiry_frame x s
    exact requests_of_eq (by rw [e, e'])
  · split
    · rw [slippingRule_entered]
      exact requests_enterSlipping x s
    · unfold ownRule
      split
      · obtain ⟨_, e⟩ := adheringRule_frame x s; exact requests_of_eq (by rw [e])
      · obtain ⟨_, e⟩ := regulatingRule_frame x s; exact requests_of_eq (by rw [e])
      · obtain ⟨_, _, e⟩ := slippingRule_frame x s; exact requests_of_eq (by rw [e])
      · unfold recoveringRule recoveryHoldExpiry
        simp only
        split
        · exact requests_enterSlipping x s
        · split
          · obtain ⟨_, e⟩ := reapplyingRule_frame x
              (setCreep s x { pick s.creep x with state := .reapplying, stateTime := 0 })
            exact requests_of_eq (by rw [e]; rfl)
          · exact requests_of_eq rfl
      · obtain ⟨_, e⟩ := reapplyingRule_frame x s; exact requests_of_eq (by rw [e])
      · obtain ⟨_, _, _, e⟩ := lockedRule_frame x s; exact requests_of_eq (by rw [e])

theorem requests_machineSample (x : Axle) (s : Station) : Requests s (machineSample x s) := by
  have tests := requests_runTests x (advanceLock x s)
  unfold machineSample
  simp only
  split
  · split <;> exact tests
  · exact requests_of_eq rfl

/-- The requests that an axle's machine has sent stand after both machines. -/
theorem runMachines_requests {turn : Bool} {s : Station} (moving : s.creepDir ≠ .rest) (x : Axle) :
    ((machineSample x (machineInput turn s x)).sanding.slipHold = some (after s.time 3000) →
      (runMachines turn s).sanding.slipHold = some (after s.time 3000)) ∧
    ((machineSample x (machineInput turn s x)).sanding.reslipHold = some (after s.time 10000) →
      (runMachines turn s).sanding.reslipHold = some (after s.time 10000)) := by
  rw [runMachines_moving moving]
  cases x with
  | b => exact ⟨id, id⟩
  | a =>
    have time : (machineSample .a (readied turn s)).time = s.time := by
      obtain ⟨_, _, _, _, _, _, e⟩ := machineInput_frame turn s .b
      rw [machineInput] at e
      rw [e]
    obtain ⟨slip, reslip⟩ := requests_machineSample .b (machineSample .a (readied turn s))
    rw [time] at slip reslip
    refine ⟨fun h => ?_, fun h => ?_⟩
    · rcases slip with same | sent
      · exact same.trans h
      · exact sent
    · rcases reslip with same | sent
      · exact same.trans h
      · exact sent

/-! ## Failed sensors (R41) -/

theorem followPartners_axles (s : Station) : (followPartners s).axles = s.axles := by
  obtain ⟨_, e⟩ := followPartners_frame s; rw [e]

theorem followPartners_none {s : Station} {x : Axle} (ok : (pick s.axles x).sensor = .ok)
    (partner : (pick s.axles (otherAxle x)).sensor = .ok) : followPartners s = s := by
  have still : s.axles.a.sensor = .ok ∧ s.axles.b.sensor = .ok := by
    cases x
    · exact ⟨ok, partner⟩
    · exact ⟨partner, ok⟩
  simp [followPartners, followPartner, bothFailed, otherAxle, pick, still]

/-- R41: an axle whose sensor is OK follows nobody. -/
theorem followPartners_ok {s : Station} {x : Axle} (ok : (pick s.axles x).sensor = .ok) :
    pick (followPartners s).creep x = pick s.creep x := by
  cases partner : (pick s.axles (otherAxle x)).sensor with
  | ok => rw [followPartners_none ok partner]
  | failed =>
    rw [followPartners_one (x := otherAxle x) partner (by cases x <;> exact ok), setCreep_creep]
    cases x <;> rfl

/-- R41: following its partner an axle keeps all but its state and its limit. -/
theorem followPartners_flags (s : Station) (x : Axle) :
    (pick (followPartners s).creep x).slipReported = (pick s.creep x).slipReported ∧
    (pick (followPartners s).creep x).wheelLock = (pick s.creep x).wheelLock := by
  have follow (y : Axle) (t : Station) : (pick (followPartner y t).creep x).slipReported = (pick t.creep x).slipReported ∧
      (pick (followPartner y t).creep x).wheelLock = (pick t.creep x).wheelLock := by
    unfold followPartner
    simp only
    split
    · cases x <;> cases y <;> exact ⟨rfl, rfl⟩
    · exact ⟨rfl, rfl⟩
  have both (t : Station) : (pick (bothFailed t).creep x).slipReported = (pick t.creep x).slipReported ∧
      (pick (bothFailed t).creep x).wheelLock = (pick t.creep x).wheelLock := by
    unfold bothFailed
    split
    · cases x <;> exact ⟨rfl, rfl⟩
    · exact ⟨rfl, rfl⟩
  rw [followPartners, (both _).1, (both _).2, (follow _ _).1, (follow _ _).2, (follow _ _).1, (follow _ _).2]
  exact ⟨rfl, rfl⟩

end Sys2Proof.Machine

end

section
/-! SUPPORT. From the machines of a sample to the station after it (R25, R40, R41, R172), for whatever station the hold unit
leaves. -/

namespace Sys2Proof.Machine

/-! ## After the machines -/

/-- R25 to R41, R172: what a sample's last steps make of the station that its hold unit leaves. -/
def commanded (seeded : Bool) (s : Station) : Station := ordered (celled seeded s)

/-- The station as the machine of an axle finds it at a sample. -/
def found (seeded : Bool) (s : Station) (x : Axle) : Station := machineInput (turns s) (entered seeded s) x

/-- R25: the station as both machines leave it. -/
def run (seeded : Bool) (s : Station) : Station := runMachines (turns s) (entered seeded s)

theorem speedSample_commanded (s : Station) :
    ∃ p, speedSample s = { commanded (seeds (measured s)) (held s) with port := p } := by
  obtain ⟨p, e⟩ := announced_frame (fun s => ordered (celled (seeds (measured s)) (held s))) s
  exact ⟨p, by rw [speedSample_steps, e]; rfl⟩

theorem commanded_frame (seeded : Bool) (s : Station) : ∃ a c l p m r, commanded seeded s =
    { run seeded s with axles := a, creep := c, link := l, port := p, map := m, cellRec := r } := by
  obtain ⟨_, _, _, e⟩ := celled_frame seeded s
  obtain ⟨_, e2⟩ := followPartners_frame (runMachines (turns s) (entered seeded s))
  rw [commanded, ordered, formOrders_eq, e, machined, e2]
  exact ⟨_, _, _, _, _, _, rfl⟩

theorem ordered_axle (s : Station) (x : Axle) : (pick (ordered s).axles x).sensor = (pick s.axles x).sensor ∧
    (pick (ordered s).axles x).forward = (pick s.axles x).forward := by
  rw [ordered, formOrders_eq]
  cases x <;> exact ⟨rfl, rfl⟩

theorem commanded_axle (seeded : Bool) (s : Station) (x : Axle) :
    (pick (commanded seeded s).axles x).sensor = (pick (run seeded s).axles x).sensor ∧
    (pick (commanded seeded s).axles x).forward = (pick (run seeded s).axles x).forward := by
  obtain ⟨_, _, _, e⟩ := celled_frame seeded s
  have axles : (celled seeded s).axles = (run seeded s).axles := by rw [e]; exact followPartners_axles _
  rw [← axles]
  exact ordered_axle _ x

/-- R40: of an axle's record the steps after the machines write the orders, and R41's state and limit. -/
theorem commanded_creep (seeded : Bool) (s : Station) (x : Axle) : ∃ e f, pick (commanded seeded s).creep x =
    { pick (followPartners (run seeded s)).creep x with electric := e, friction := f } := by
  rw [commanded, ordered_creep, celled_creep]
  exact ⟨_, _, rfl⟩

theorem commanded_ok {seeded : Bool} {s : Station} {x : Axle} (ok : (pick (run seeded s).axles x).sensor = .ok) :
    ∃ e f, pick (commanded seeded s).creep x = { pick (run seeded s).creep x with electric := e, friction := f } := by
  obtain ⟨e, f, h⟩ := commanded_creep seeded s x
  rw [followPartners_ok ok] at h
  exact ⟨e, f, h⟩

theorem entered_dir (seeded : Bool) (s : Station) : (entered seeded s).creepDir = sampleDir s := by rw [entered_eq]

theorem run_frame (seeded : Bool) (s : Station) : ∃ a c f g p m, run seeded s =
    { s with creepDir := sampleDir s, axles := a, creep := c, faults := f, sanding := g, port := p, map := m } := by
  obtain ⟨_, _, _, _, _, _, e⟩ := runMachines_frame (turns s) (entered seeded s)
  rw [run, e, entered_eq]
  exact ⟨_, _, _, _, _, _, rfl⟩

theorem found_frame (seeded : Bool) (s : Station) (x : Axle) : ∃ a c f g p m, found seeded s x =
    { s with creepDir := sampleDir s, axles := a, creep := c, faults := f, sanding := g, port := p, map := m } := by
  obtain ⟨_, _, _, _, _, _, e⟩ := machineInput_frame (turns s) (entered seeded s) x
  rw [found, e, entered_eq]
  exact ⟨_, _, _, _, _, _, rfl⟩

theorem found_axle (seeded : Bool) (s : Station) (x : Axle) : pick (found seeded s x).axles x = pick s.axles x := by
  rw [found, (machineInput_own _ _ x).1, entered_eq]

/-- R19, R21, R22, R32, R33, R38: the record that an axle's machine finds. -/
theorem found_creep (seeded : Bool) (s : Station) (x : Axle) : pick (found seeded s x).creep x =
    if (pick s.axles x).sensor = .ok then readiedRecord (turns s) (enteredRecord seeded s x) else enteredRecord seeded s x := by
  have axles : (entered seeded s).axles = s.axles := by rw [entered_eq]
  rw [found, (machineInput_own _ _ x).2, readied_creep, entered_creep, axles]

/-- What the machine of an axle leaves. -/
theorem run_own {seeded : Bool} {s : Station} (moving : sampleDir s ≠ .rest) (x : Axle) :
    pick (run seeded s).axles x = pick (machineSample x (found seeded s x)).axles x ∧
    pick (run seeded s).creep x = pick (machineSample x (found seeded s x)).creep x :=
  runMachines_own (by rw [entered_dir]; exact moving) x

theorem run_forward (seeded : Bool) (s : Station) (x : Axle) :
    (pick (run seeded s).axles x).forward = (pick s.axles x).forward := by
  by_cases rest : sampleDir s = .rest
  · have axles : (run seeded s).axles = s.axles := by
      rw [run, runMachines_rest (by rw [entered_dir]; exact rest)]
      obtain ⟨_, b⟩ := restSample_frame .b (restSample .a (entered seeded s))
      obtain ⟨_, a⟩ := restSample_frame .a (entered seeded s)
      rw [b, a, entered_eq]
    rw [axles]
  · rw [(run_own rest x).1, (failsAtMost_machineSample x _).unread, found_axle]

/-! ## Declared failures and OK axles -/

/-- R44: an axle whose sensor is OK after the machines had it OK before them and is not declared failed. -/
theorem run_ok {seeded : Bool} {s : Station} {x : Axle} (moving : sampleDir s ≠ .rest) :
    (pick (run seeded s).axles x).sensor = .ok ↔ (pick s.axles x).sensor = .ok ∧ ¬Declared (found seeded s x) x := by
  have unit := found_axle seeded s x
  rw [(run_own moving x).1]
  refine ⟨fun ok => ?_, fun ⟨ok, kept⟩ => ?_⟩
  · have before' : (pick (found seeded s x).axles x).sensor = .ok := by
      cases h : (pick (found seeded s x).axles x).sensor with
      | ok => rfl
      | failed => rw [(failsAtMost_machineSample x _).stay x h] at ok; cases ok
    refine ⟨by rw [← unit]; exact before', fun declared => ?_⟩
    rw [(machineSample_declares before' declared).1] at ok
    cases ok
  · rw [(machineSample_keeps (by rw [unit]; exact ok) kept).1, unit]
    exact ok

theorem tested_peaks (x : Axle) (s : Station) : (pick (tested x s).creep x).peaks = (pick s.creep x).peaks := by
  have tests := congrArg (·.2.2.1) (foreign_runTests x (advanceLock x s))
  have lock := congrArg (·.2.2.1) (foreign_setCreep (x := x) (s := s) (c := timedRecord s x) ⟨rfl, rfl, rfl, rfl⟩)
  exact tests.trans lock

theorem tested_history {x : Axle} {s : Station} (kept : ¬Declared s x) :
    (pick (tested x s).creep x).history = (pick s.creep x).history := by
  cases lock : lockReached (timedRecord s x) with
  | true => rw [tested_locks lock]; rfl
  | false => exact (tested_kept lock kept).2

theorem tested_frame (x : Axle) (s : Station) : ∃ a c f g p m, tested x s =
    { s with axles := a, creep := c, faults := f, sanding := g, port := p, map := m } := by
  obtain ⟨_, _, _, _, _, _, e⟩ := runTests_frame x (advanceLock x s)
  exact ⟨_, _, _, _, _, _, e⟩

/-- R21, R23: the record of an axle after its machine's sample. -/
theorem machineSample_record {x : Axle} {s : Station} (ok : (pick s.axles x).sensor = .ok) (kept : ¬Declared s x) :
    pick (machineSample x s).creep x = { pick (tested x s).creep x with
      limit := min (pick (tested x s).creep x).limit (ceilingOf (tested x s) x)
      history := (if (pick s.creep x).history.length < 4 then (pick s.creep x).history else (pick s.creep x).history.tail) ++
        [creepNow s x] } := by
  obtain ⟨axles, e, -⟩ := machineSample_keeps ok kept
  obtain ⟨_, _, _, _, _, _, frame⟩ := tested_frame x s
  have unit : (tested x s).axles = s.axles := by rw [← axles, e]; rfl
  have creep : creepNow (tested x s) x = creepNow s x := by
    unfold creepNow
    rw [unit, frame]
  rw [e, ← tested_history kept, ← creep, pushCreep, lowerToCeiling]
  simp only [setCreep_creep, pick_put, creepNow_setCreep]

theorem demandTotal_congr {s t : Station} (hold : t.hold = s.hold) (blend : t.blend = s.blend) (x : Axle) :
    demandTotal t x = demandTotal s x := by
  unfold demandTotal demandElectric demandFriction
  rw [hold, blend]

/-- What the steps after an axle's tests leave of what its rules read. -/
theorem commanded_found (seeded : Bool) (s : Station) (x : Axle) : (commanded seeded s).time = (found seeded s x).time ∧
    (commanded seeded s).figs = (found seeded s x).figs ∧ (commanded seeded s).ref = (found seeded s x).ref ∧
    (commanded seeded s).creepDir = (found seeded s x).creepDir ∧
    demandTotal (commanded seeded s) x = demandTotal (found seeded s x) x := by
  obtain ⟨_, _, _, _, _, _, c⟩ := commanded_frame seeded s
  obtain ⟨_, _, _, _, _, _, r⟩ := run_frame seeded s
  obtain ⟨_, _, _, _, _, _, f⟩ := found_frame seeded s x
  refine ⟨?_, ?_, ?_, ?_, demandTotal_congr ?_ ?_ x⟩ <;> rw [c, r, f]

/-- R25: an OK axle's record, its thresholds and its requests after the sample are those that its machine left. -/
theorem sampledFrom_found {seeded : Bool} {s : Station} {x : Axle} (moving : sampleDir s ≠ .rest)
    (ok : (pick (run seeded s).axles x).sensor = .ok) :
    ¬Declared (found seeded s x) x ∧ SampledFrom (found seeded s x) (commanded seeded s) x := by
  obtain ⟨held', kept⟩ := (run_ok moving).mp ok
  obtain ⟨_, own⟩ := run_own (seeded := seeded) moving x
  obtain ⟨_, _, record⟩ := commanded_ok ok
  have unit := found_axle seeded s x
  rw [own, machineSample_record (by rw [unit]; exact held') kept] at record
  have forward := (commanded_axle seeded s x).2.trans (run_forward seeded s x)
  have requests := runMachines_requests (turn := turns s) (s := entered seeded s) (by rw [entered_dir]; exact moving) x
  obtain ⟨_, e, -⟩ := machineSample_keeps (by rw [unit]; exact held') kept
  obtain ⟨time, figs, ref, dir, demand⟩ := commanded_found seeded s x
  obtain ⟨_, _, _, _, _, _, c⟩ := commanded_frame seeded s
  obtain ⟨_, _, _, _, _, _, f⟩ := found_frame seeded s x
  obtain ⟨_, _, _, _, _, _, g⟩ := tested_frame x (found seeded s x)
  have now : (found seeded s x).time = (entered seeded s).time := by rw [f, entered_eq]
  have sanding : (commanded seeded s).sanding = (runMachines (turns s) (entered seeded s)).sanding := by rw [c]; rfl
  have sent : (machineSample x (machineInput (turns s) (entered seeded s) x)).sanding = (tested x (found seeded s x)).sanding := by
    rw [← found, e]; rfl
  have ceiling : ceilingOf (tested x (found seeded s x)) x = ceilingOf (commanded seeded s) x :=
    (ceilingOf_congr (by rw [time, g]) (by rw [ref, g]) (by rw [figs, g]) (by rw [record]) (by rw [record])).symm
  rw [ceiling] at record
  rw [sent] at requests
  refine ⟨kept, time, figs, ref, dir, by rw [forward, unit], demand, ⟨_, _, record⟩, tested_peaks x _, ?_, ?_⟩
  · rw [now, sanding]; exact requests.1
  · rw [now, sanding]; exact requests.2

end Sys2Proof.Machine
end

section
/-! SUPPORT. What the creep controller reports and declares in a sample (R29, R42, R44), and what it leaves at REST (R24). -/

namespace Sys2Proof.Machine

/-! ## Reports outside REST -/

/-- A station `t` has of each axle the sensor and the report flags that the machines have left. -/
structure Judged (u t : Station) (x : Axle) : Prop where
  sensor : (pick t.axles x).sensor = (pick u.axles x).sensor
  slip : (pick t.creep x).slipReported = (pick u.creep x).slipReported
  wheel : (pick t.creep x).wheelLock = (pick u.creep x).wheelLock

/-- The record that the creep controller finds has no report flag that the record before the sample has not, and the same
flags where the sensor is OK after step 3. -/
structure FlagsFrom (z s : Station) (x : Axle) : Prop where
  slip : (pick s.creep x).slipReported = true → (pick z.creep x).slipReported = true
  wheel : (pick s.creep x).wheelLock = true → (pick z.creep x).wheelLock = true
  kept : (pick s.axles x).sensor = .ok →
    (pick s.creep x).slipReported = (pick z.creep x).slipReported ∧ (pick s.creep x).wheelLock = (pick z.creep x).wheelLock

theorem judged_commanded (seeded : Bool) (s : Station) (x : Axle) : Judged (run seeded s) (commanded seeded s) x := by
  obtain ⟨_, _, record⟩ := commanded_creep seeded s x
  obtain ⟨slip, wheel⟩ := followPartners_flags (run seeded s) x
  exact ⟨(commanded_axle seeded s x).1, by rw [record]; exact slip, by rw [record]; exact wheel⟩

theorem creepReports_none {z m t : Station} {x : Axle} {f : FaultTable}
    (sensor : (pick m.axles x).sensor = .ok → (pick t.axles x).sensor = .ok)
    (slip : (pick t.creep x).slipReported = true → (pick z.creep x).slipReported = true)
    (wheel : (pick t.creep x).wheelLock = true → (pick z.creep x).wheelLock = true) : creepReports z m t x f = f := by
  have stays : ¬((pick m.axles x).sensor = .ok ∧ (pick t.axles x).sensor = .failed) := fun ⟨h, k⟩ => by
    rw [sensor h] at k; cases k
  have noSlip : ¬((pick z.creep x).slipReported = false ∧ (pick t.creep x).slipReported = true) := fun ⟨h, k⟩ => by
    rw [slip k] at h; cases h
  have noLock : ¬((pick z.creep x).wheelLock = false ∧ (pick t.creep x).wheelLock = true) := fun ⟨h, k⟩ => by
    rw [wheel k] at h; cases h
  unfold creepReports
  rw [if_neg stays, if_neg noSlip, if_neg noLock]

theorem readiedRecord_flags (turn : Bool) (c : AxleCreep) : (readiedRecord turn c).slipReported = c.slipReported ∧
    (turn = false → (readiedRecord turn c).wheelLock = c.wheelLock ∧ (readiedRecord turn c).state = c.state ∧
      (readiedRecord turn c).release = c.release ∧ (readiedRecord turn c).stateTime = c.stateTime + 5 ∧
      (readiedRecord turn c).lock = c.lock) ∧
    (turn = true → (readiedRecord turn c).wheelLock = false ∧ (readiedRecord turn c).state ≠ .locked ∧
      (readiedRecord turn c).lock = none) := by
  unfold readiedRecord redirectAxle
  cases turn
  · exact ⟨rfl, fun _ => ⟨rfl, rfl, rfl, rfl, rfl⟩, nofun⟩
  · simp only [if_true]
    cases c.state <;> simp

/-- R29, R42, R44: what the machine of an axle adds to the fault table is what its axle reports. -/
theorem machine_reports {z m t s : Station} {seeded : Bool} {x : Axle} (moving : sampleDir s ≠ .rest)
    (hm : (pick m.axles x).sensor = (pick s.axles x).sensor) (flags : FlagsFrom z s x) (judged : Judged (run seeded s) t x)
    (time : z.time = s.time) (pos : t.pos = s.pos) :
    (machineSample x (found seeded s x)).faults = creepReports z m t x (found seeded s x).faults := by
  have unit := found_axle seeded s x
  have creep := found_creep seeded s x
  obtain ⟨_, own⟩ := run_own (seeded := seeded) moving x
  obtain ⟨_, _, _, _, _, _, f⟩ := found_frame seeded s x
  have now : (found seeded s x).time = z.time ∧ (found seeded s x).pos = t.pos := by rw [f, time, pos]; exact ⟨rfl, rfl⟩
  obtain ⟨now, place⟩ := now
  cases before' : (pick s.axles x).sensor with
  | failed =>
    have idle : machineSample x (found seeded s x) = found seeded s x := if_neg (by rw [unit, before']; nofun)
    rw [before', if_neg (by nofun)] at creep
    have slip := judged.slip
    have wheel := judged.wheel
    rw [own, idle, creep] at slip wheel
    rw [idle, creepReports_none (by rw [hm, before']; nofun) (fun h => flags.slip (slip.symm.trans h))
      (fun h => flags.wheel (wheel.symm.trans h))]
  | ok =>
    obtain ⟨keptSlip, keptWheel⟩ := flags.kept before'
    rw [before', if_pos rfl] at creep
    obtain ⟨slip, straight, turned⟩ := readiedRecord_flags (turns s) (enteredRecord seeded s x)
    rw [← creep] at slip straight turned
    have slip : (pick (found seeded s x).creep x).slipReported = (pick z.creep x).slipReported := slip.trans keptSlip
    by_cases declared : Declared (found seeded s x) x
    · obtain ⟨failed, table⟩ := machineSample_declares (by rw [unit]; exact before') declared
      obtain ⟨locked, -, set, -⟩ := declared
      have same : turns s = false := by
        cases h : turns s with
        | false => rfl
        | true => exact absurd locked (turned h).2.1
      have wheel : (pick (found seeded s x).creep x).wheelLock = (pick z.creep x).wheelLock := (straight same).1.trans keptWheel
      have fails : (pick m.axles x).sensor = .ok ∧ (pick t.axles x).sensor = .failed :=
        ⟨hm.trans before', by rw [judged.sensor, (run_own moving x).1]; exact failed⟩
      unfold creepReports
      rw [if_pos fails, table, wheelLockTable, set, wheel, now, place]
      cases (pick z.creep x).wheelLock <;> rfl
    · obtain ⟨axles, -, flagged⟩ := machineSample_keeps (by rw [unit]; exact before') declared
      have stays : ¬((pick m.axles x).sensor = .ok ∧ (pick t.axles x).sensor = .failed) := by
        rintro ⟨-, failed⟩
        rw [judged.sensor, (run_own moving x).1, axles, unit, before'] at failed
        cases failed
      have wheel : ((pick z.creep x).wheelLock = false ∧ (pick t.creep x).wheelLock = true) ↔
          ((pick (found seeded s x).creep x).wheelLock = false ∧
            (pick (machineSample x (found seeded s x)).creep x).wheelLock = true) := by
        rw [judged.wheel, own]
        cases turn : turns s with
        | false => rw [(straight turn).1, ← keptWheel]; rfl
        | true =>
          obtain ⟨unset, other, -⟩ := turned turn
          rw [flagged.wheel other unset]
          exact ⟨fun h => (by cases h.2), fun h => (by cases h.2)⟩
      unfold creepReports
      rw [if_neg stays, flagged.faults, flagReports, slip, judged.slip, own, now, place]
      simp only [wheel]

/-! ## The fault table and the sensors after the machines -/

theorem found_faults (seeded : Bool) (s : Station) : (found seeded s .a).faults = s.faults := by
  have ready : found seeded s .a = readied (turns s) (entered seeded s) := rfl
  rw [ready, readied_eq, entered_eq]

/-- R24: at REST the machines write the records of the axles whose sensor is OK, and nothing else. -/
theorem run_rest {seeded : Bool} {s : Station} (rest : sampleDir s = .rest) :
    (run seeded s).axles = s.axles ∧ (run seeded s).faults = s.faults ∧ ∀ x, pick (run seeded s).creep x =
      if (pick s.axles x).sensor = .ok then restAxle s.figs (enteredRecord seeded s x) else enteredRecord seeded s x := by
  rw [run, runMachines_rest (by rw [entered_dir]; exact rest), entered_eq]
  unfold restSample
  refine ⟨?_, ?_, fun x => ?_⟩ <;> cases a : s.axles.a.sensor <;> cases b : s.axles.b.sensor <;>
    simp only [pick, a, b, setCreep, put, if_true, reduceCtorEq, if_false]
  all_goals cases x <;> simp only [a, b, if_true, reduceCtorEq, if_false]

/-- The creep controller's reports of a sample, axle A before axle B. -/
theorem run_reports {z m t s : Station} {seeded : Bool} (hm : ∀ x, (pick m.axles x).sensor = (pick s.axles x).sensor)
    (flags : ∀ x, FlagsFrom z s x) (judged : ∀ x, Judged (run seeded s) t x) (time : z.time = s.time) (pos : t.pos = s.pos) :
    (run seeded s).faults = creepReports z m t .b (creepReports z m t .a s.faults) := by
  by_cases rest : sampleDir s = .rest
  · obtain ⟨axles, faults, record⟩ := run_rest (seeded := seeded) rest
    have none' (x : Axle) (f : FaultTable) : creepReports z m t x f = f := by
      refine creepReports_none (fun ok => ?_) (fun h => ?_) (fun h => ?_)
      · rw [(judged x).sensor, axles, ← hm]; exact ok
      · rw [(judged x).slip, record] at h
        refine (flags x).slip ?_
        split at h <;> exact h
      · rw [(judged x).wheel, record] at h
        split at h
        · cases h
        · exact (flags x).wheel h
    rw [none', none', faults]
  · have reports (x : Axle) := machine_reports (m := m) rest (hm x) (flags x) (judged x) time pos
    have a : (found seeded s .b).faults = (machineSample .a (found seeded s .a)).faults := rfl
    have b : (run seeded s).faults = (machineSample .b (found seeded s .b)).faults := by
      rw [run, runMachines_moving (by rw [entered_dir]; exact rest)]; rfl
    rw [b, reports .b, a, reports .a, found_faults]

end Sys2Proof.Machine
end

section
/-! SUPPORT. What the creep controller finds of an axle's record and unit at a sample (R17, R22, R53), and its applied force. -/

namespace Sys2Proof.Machine

/-! ## The record before the creep controller -/

/-- R17: step 3 of a sample leaves the record of an axle whose sensor is OK after it. -/
theorem measured_creep (s : Station) (x : Axle) :
    ((pick (measured s).axles x).sensor = .ok → pick (measured s).creep x = pick s.creep x) ∧
    (pick (measured s).creep x = pick s.creep x ∨ pick (measured s).creep x = clearMachine (pick s.creep x)) := by
  obtain ⟨_, _, e⟩ := sped_frame s
  have creep : (sped s).creep = s.creep := by rw [e]
  have fails (y : Axle) : ((pick (failSensor y (sped s)).axles x).sensor = .ok →
      pick (failSensor y (sped s)).creep x = pick s.creep x) ∧ (pick (failSensor y (sped s)).creep x = pick s.creep x ∨
      pick (failSensor y (sped s)).creep x = clearMachine (pick s.creep x)) := by
    rw [failSensor_eq, ← creep]
    cases x <;> cases y
    · exact ⟨nofun, .inr rfl⟩
    · exact ⟨fun _ => rfl, .inl rfl⟩
    · exact ⟨fun _ => rfl, .inl rfl⟩
    · exact ⟨nofun, .inr rfl⟩
  rcases measured_cases s with ⟨-, h⟩ | ⟨-, -, h⟩ | ⟨-, -, h⟩
  · rw [h]; exact fails .a
  · rw [h]; exact fails .b
  · rw [h, creep]; exact ⟨fun _ => rfl, .inl rfl⟩

theorem learned_creep (s : Station) : (learned s).creep = (measured s).creep := by
  obtain ⟨_, b⟩ := learnSample_frame .b (learnSample .a (moveReference (measured s)))
  obtain ⟨_, a⟩ := learnSample_frame .a (moveReference (measured s))
  obtain ⟨_, _, r⟩ := moveReference_frame (measured s)
  rw [learned, b, a, r]

/-- R21, R52, R53: between step 3 and the creep controller a sample writes of an axle's record its pre-limit, and empties its
creep history where it takes a pending change. -/
theorem held_creep (s : Station) (x : Axle) : ∃ p, pick (held s).creep x = { pick (measured s).creep x with
    preLimit := p
    history := if s.pos.change ≠ none ∧ (held s).pos.change = none then [] else (pick (measured s).creep x).history } := by
  obtain ⟨_, _, _, _, e⟩ := learned_frame s
  obtain ⟨change, -, record⟩ := positionSample_kept (learned s)
  have change' : (positionSample (learned s)).pos.change = s.pos.change := by rw [change, e]
  have own := record x
  rw [learned_creep] at own
  rcases holdSample_spoils (positionSample (learned s)) with ⟨kept, -, creep⟩ | ⟨pending, taken, -, creep⟩
  · have still : ¬(s.pos.change ≠ none ∧ (held s).pos.change = none) := fun ⟨pending, gone⟩ => by
      rw [held, kept, change'] at gone
      exact pending gone
    rw [if_neg still, held, creep, own]
    exact ⟨_, rfl⟩
  · rw [change'] at pending
    have gone : s.pos.change ≠ none ∧ (held s).pos.change = none := ⟨pending, taken⟩
    rw [if_pos gone, held, creep x, own]
    exact ⟨_, rfl⟩

/-- R40: until the creep controller a sample leaves the orders and the peak history of every axle. -/
theorem held_orders (s : Station) (x : Axle) : (pick (held s).creep x).electric = (pick s.creep x).electric ∧
    (pick (held s).creep x).friction = (pick s.creep x).friction ∧ (pick (held s).creep x).peaks = (pick s.creep x).peaks := by
  obtain ⟨_, own⟩ := held_creep s x
  rw [own]
  rcases (measured_creep s x).2 with h | h <;> rw [h] <;> exact ⟨rfl, rfl, rfl⟩

theorem held_flags (s : Station) (x : Axle) : FlagsFrom s (held s) x := by
  obtain ⟨_, own⟩ := held_creep s x
  obtain ⟨kept, either⟩ := measured_creep s x
  have sensor := sensor_held s x
  refine ⟨fun h => ?_, fun h => ?_, fun ok => ?_⟩
  · rw [own] at h
    rcases either with e | e <;> rw [e] at h
    · exact h
    · cases h
  · rw [own] at h
    rcases either with e | e <;> rw [e] at h
    · exact h
    · cases h
  · rw [own, kept (by rw [← sensor]; exact ok)]
    exact ⟨rfl, rfl⟩

/-! ## The unit before the creep controller -/

/-- R44: whether an edge has come since the previous sample is not written before the creep controller. -/
theorem held_edgeSeen (s : Station) (x : Axle) : (pick (held s).axles x).edgeSeen = (pick s.axles x).edgeSeen := by
  have pos (t : Station) : (positionSample t).axles = t.axles := by
    obtain ⟨_, _, _, _, e⟩ := positionSample_frame t; rw [e]
  obtain ⟨_, h⟩ := holdSample_axle (positionSample (learned s)) x
  obtain ⟨_, _, _, b⟩ := learnSample_axle .b x (learnSample .a (moveReference (measured s)))
  obtain ⟨_, _, _, a⟩ := learnSample_axle .a x (moveReference (measured s))
  obtain ⟨_, _, r⟩ := moveReference_frame (measured s)
  obtain ⟨-, axles, -⟩ := measured_unread s
  rw [held, h, pos, learned, b, a, r, axles x]
  rfl

/-! ## The record that the machine of an OK axle finds -/

/-- R19, R32: what growing and turning make of a record. -/
theorem readied_of {now : Millis} {turn : Prop} {b : Bool} {c e : AxleCreep} (hturn : turn ↔ b = true)
    (limit : e.limit = c.limit) (calm : e.calm = c.calm) (slip : e.slipReported = c.slipReported)
    (reslips : e.reslips = c.reslips.filter fun r => age now r.time ≤ 5000) (state : e.state = c.state)
    (time : e.stateTime = c.stateTime) (lock : e.lock = c.lock) (release : e.release = c.release)
    (wheel : e.wheelLock = c.wheelLock) : Readied now turn (if b then [] else e.history) c (readiedRecord b e) := by
  obtain ⟨slip', straight, turned⟩ := readiedRecord_flags b e
  have own : (readiedRecord b e).limit = e.limit ∧ (readiedRecord b e).calm = e.calm ∧
      (readiedRecord b e).reslips = e.reslips ∧ (readiedRecord b e).history = if b then [] else e.history := by
    unfold readiedRecord redirectAxle
    cases b
    · exact ⟨rfl, rfl, rfl, rfl⟩
    · cases e.state <;> exact ⟨rfl, rfl, rfl, rfl⟩
  obtain ⟨limit', calm', reslips', history'⟩ := own
  refine ⟨limit'.trans limit, calm'.trans calm, slip'.trans slip, reslips'.trans reslips, history', fun h loose => ?_,
    fun h => ?_, fun h => ?_, fun h => ?_⟩
  · rw [← state] at loose
    rw [hturn.mp h]
    unfold readiedRecord redirectAxle
    rcases loose with loose | loose | loose <;> simp [loose]
  · rw [hturn, ← state] at h
    rw [← state, ← time]
    unfold readiedRecord redirectAxle
    cases b with
    | false => exact ⟨rfl, rfl⟩
    | true =>
      have tight := h.resolve_left (by simp)
      cases hs : e.state <;> simp_all
  · obtain ⟨unset, other, none'⟩ := turned (hturn.mp h)
    exact ⟨none', unset, other⟩
  · obtain ⟨wheel', -, release', -, lock'⟩ := straight (by rw [hturn] at h; simpa using h)
    exact ⟨lock'.trans lock, release'.trans release, wheel'.trans wheel⟩

/-- R19, R21, R32, R33: what the machine of an axle finds, from the record before the sample. -/
theorem readied_found {seeded : Bool} {z s : Station} {x : Axle} {turn : Prop} (ok : (pick s.axles x).sensor = .ok)
    (hturn : turn ↔ turns s = true) {p : Option Nat} {l : List Int}
    (own : pick s.creep x = { pick z.creep x with preLimit := p, history := l }) :
    Readied s.time turn (if turns s = true ∨ seeded = true then [] else l) (pick z.creep x) (pick (found seeded s x).creep x) := by
  have history : (if turns s = true then [] else (enteredRecord seeded s x).history) =
      if turns s = true ∨ seeded = true then [] else l := by
    have entered' : (enteredRecord seeded s x).history = if seeded = true then [] else l := by
      unfold enteredRecord appliedRecord; rw [own]
    rw [entered']
    cases turns s <;> cases seeded <;> rfl
  rw [found_creep, if_pos ok, ← history]
  refine readied_of (by exact hturn) ?_ ?_ ?_ ?_ ?_ ?_ ?_ ?_ ?_ <;> unfold enteredRecord appliedRecord <;> rw [own]

/-! ## Applied force (R22) -/

/-- R22: the applied force of a sample from the reports, and from the orders where a unit is LOST. -/
theorem appliedForce_spec {z s : Station} {x : Axle} (link : s.link = z.link) (plug : s.plug = z.plug)
    (electric : (pick s.creep x).electric = (pick z.creep x).electric)
    (friction : (pick s.creep x).friction = (pick z.creep x).friction) (dir : EffortDir) :
    AppliedForce z dir x (appliedForce s dir x) := by
  intro E B hasInverter hasBrake trailer inverterLost inverterReport brakeLost brakeReport
  have frictionPart : appliedFriction s x = B := by
    unfold appliedFriction brakeUsed
    rw [link]
    cases state : z.link.brake.state with
    | lost => rw [if_neg (by nofun), friction, brakeLost state]
    | present =>
      obtain ⟨r, hr⟩ := Option.ne_none_iff_exists'.mp (hasBrake state)
      rw [if_pos rfl, hr, brakeReport r state hr]
  have electricPart (moving : dir ≠ .rest) : appliedElectric s dir x = E := by
    unfold appliedElectric inverterUsed
    rw [link, plug]
    cases kind : z.plug.kind with
    | trailer => simp only [trailer kind]
    | motor =>
      cases state : z.link.inverter.state with
      | lost => simp only [reduceCtorEq, if_false, electric, inverterLost kind state]
      | present =>
        obtain ⟨r, hr⟩ := Option.ne_none_iff_exists'.mp (hasInverter state)
        rw [inverterReport r kind state hr]
        simp only [if_true, hr]
        cases dir with
        | rest => exact absurd rfl moving
        | traction | braking | backward => rfl
  refine ⟨fun h => by rw [h]; rfl, fun h => ?_, fun h => ?_⟩
  · rw [← electricPart (by rw [h]; nofun), h]; rfl
  · rcases h with h | h <;> rw [← electricPart (by rw [h]; nofun), ← frictionPart, h] <;> rfl

end Sys2Proof.Machine
end

section
/-! SUPPORT. The creep controller's part of a whole speed sample (R20 to R33, R41 to R44). -/

namespace Sys2Proof.Machine

/-! ## The station after the sample -/

/-- What the machine of an axle finds at a speed sample. -/
def foundAt (z : Station) (x : Axle) : Station := found (seeds (measured z)) (held z) x

theorem commanded_unwritten (seeded : Bool) (s : Station) : (commanded seeded s).faults = (run seeded s).faults ∧
    (commanded seeded s).time = s.time := by
  obtain ⟨_, _, _, _, _, _, c⟩ := commanded_frame seeded s
  obtain ⟨_, _, _, _, _, _, r⟩ := run_frame seeded s
  exact ⟨by rw [c], by rw [c, r]⟩

theorem run_figs (seeded : Bool) (s : Station) : (run seeded s).figs = s.figs := by
  obtain ⟨_, _, _, _, _, _, r⟩ := run_frame seeded s
  rw [r]

theorem found_link (seeded : Bool) (s : Station) (x : Axle) : (found seeded s x).link = s.link := by
  obtain ⟨_, _, _, _, _, _, f⟩ := found_frame seeded s x
  rw [f]

theorem speedSample_record (z : Station) : (speedSample z).creep = (commanded (seeds (measured z)) (held z)).creep ∧
    (speedSample z).axles = (commanded (seeds (measured z)) (held z)).axles ∧
    (speedSample z).faults = (run (seeds (measured z)) (held z)).faults ∧
    (speedSample z).ref = (commanded (seeds (measured z)) (held z)).ref ∧
    (speedSample z).time = (held z).time := by
  obtain ⟨_, e⟩ := speedSample_commanded z
  obtain ⟨faults, time⟩ := commanded_unwritten (seeds (measured z)) (held z)
  rw [e]
  generalize commanded (seeds (measured z)) (held z) = u at faults time
  exact ⟨rfl, rfl, faults, rfl, time⟩

theorem speedSample_sensor (z : Station) (x : Axle) :
    (pick (speedSample z).axles x).sensor = (pick (run (seeds (measured z)) (held z)).axles x).sensor := by
  obtain ⟨-, axles, -⟩ := speedSample_record z
  rw [axles, (commanded_axle _ _ x).1]

theorem speedSample_forward (z : Station) (x : Axle) :
    (pick (speedSample z).axles x).forward = (pick (held z).axles x).forward := by
  obtain ⟨-, axles, -⟩ := speedSample_record z
  rw [axles, (commanded_axle _ _ x).2, run_forward]

theorem SampledFrom.port {s t : Station} {x : Axle} (k : SampledFrom s t x) (p : Port) : SampledFrom s { t with port := p } x :=
  ⟨k.time, k.figs, k.ref, k.dir, k.forward, k.demand, k.record, k.peaks, k.slipHold, k.reslipHold⟩

/-- R25: outside REST an OK axle's machine has run and has not declared it failed. -/
theorem speedSample_sampledFrom {z : Station} {x : Axle} (moving : (speedSample z).creepDir ≠ .rest)
    (ok : (pick (speedSample z).axles x).sensor = .ok) :
    ¬Declared (foundAt z x) x ∧ SampledFrom (foundAt z x) (speedSample z) x := by
  obtain ⟨dir, -, -⟩ := speedSample_served z
  rw [speedSample_sensor] at ok
  rw [dir] at moving
  obtain ⟨p, e⟩ := speedSample_commanded z
  obtain ⟨kept, k⟩ := sampledFrom_found moving ok
  rw [e]
  exact ⟨kept, k.port p⟩

/-- R20: the direction of the sample by the hold state and the served mode after it. -/
theorem speedSample_dir (z : Station) :
    (speedSample z).creepDir = dirOf (speedSample z).hold.state (speedSample z).blend.served := by
  obtain ⟨dir, hold, blend⟩ := speedSample_served z
  rw [dir, hold, blend, sampleDir]

/-- R44: the conditions of a declared failure, from the record before the sample. -/
theorem declared_iff {s : Station} {x : Axle} {now : Millis} {turn free : Prop} {hist : List Int} {c : AxleCreep}
    (ready : Readied now turn hist c (pick s.creep x)) (hfree : runsFree s x = true ↔ free) : Declared s x ↔
      ¬turn ∧ c.state = .locked ∧ (pick s.axles x).forward < (500 * s.ref.speed).tdiv 1000 ∧
        (c.wheelLock = true ∨ 800 ≤ c.stateTime + 5) ∧ free ∧ ∃ n, c.release = some n ∧ 1000 ≤ n + 5 := by
  by_cases h : turn
  · obtain ⟨-, -, other⟩ := ready.cleared h
    exact ⟨fun ⟨locked, _⟩ => absurd locked other, fun ⟨same, _⟩ => absurd h same⟩
  · obtain ⟨-, release, wheel⟩ := ready.kept h
    obtain ⟨state, time⟩ := ready.straight (.inl h)
    unfold Declared wheelLocked
    rw [state, time, release, wheel, hfree, Bool.or_eq_true, decide_eq_true_eq]
    simp only [h, not_false_eq_true, true_and]

theorem foundAt_free (z : Station) (x : Axle) : runsFree (foundAt z x) x = true ↔ (pick z.axles x).edgeSeen = false ∧
    ∃ r, z.link.brake.state = .present ∧ z.link.brake.report = some r ∧ pick r.friction x = 0 := by
  obtain ⟨-, -, link, -⟩ := held_unread z
  rw [runsFree_iff, foundAt, found_link, link, found_axle, held_edgeSeen]

/-- R32: the turn of direction that the machines of a sample see. -/
theorem turns_held (z : Station) : turns (held z) = true ↔ (speedSample z).creepDir ≠ z.creepDir ∧
    (speedSample z).creepDir ≠ .rest ∧ z.creepDir ≠ .rest := by
  obtain ⟨dir, -, -⟩ := speedSample_served z
  rw [dir, turns, held_creepDir]
  simp [and_assoc]

/-- R19, R21, R32, R33: what an OK axle's machine finds, from the record before the sample. -/
theorem readied_foundAt {z : Station} {x : Axle} {turn : Prop} (ok : (pick (measured z).axles x).sensor = .ok)
    (hturn : turn ↔ turns (held z) = true) : Readied z.time turn (if turns (held z) = true ∨ seeds (measured z) = true ∨
      (z.pos.change ≠ none ∧ (speedSample z).pos.change = none) then [] else (pick z.creep x).history)
      (pick z.creep x) (pick (foundAt z x).creep x) := by
  obtain ⟨_, own⟩ := held_creep z x
  rw [(measured_creep z x).1 ok] at own
  obtain ⟨-, -, -, -, time⟩ := held_unread z
  have ready := readied_found (seeded := seeds (measured z)) (by rw [sensor_held]; exact ok) hturn own
  rw [time] at ready
  have history : (if turns (held z) = true ∨ seeds (measured z) = true ∨ (z.pos.change ≠ none ∧ (speedSample z).pos.change = none)
      then [] else (pick z.creep x).history) = if turns (held z) = true ∨ seeds (measured z) = true then [] else
        if z.pos.change ≠ none ∧ (held z).pos.change = none then [] else (pick z.creep x).history := by
    rw [speedSample_pos]
    generalize held z = u
    by_cases h : turns u = true ∨ seeds (measured z) = true
    · rw [if_pos h, if_pos (or_assoc.mp (.inl h))]
    · by_cases taken : z.pos.change ≠ none ∧ u.pos.change = none
      · rw [if_pos (.inr (.inr taken)), if_neg h, if_pos taken]
      · have none' : ¬(turns u = true ∨ seeds (measured z) = true ∨ (z.pos.change ≠ none ∧ u.pos.change = none)) :=
          fun g => (or_assoc.mpr g).elim h taken
        rw [if_neg none', if_neg h, if_neg taken]
  rw [history]
  exact ready

/-! ## The clauses of the sample -/

theorem pick_a {α : Type} (p : PerAxle α) : pick p .a = p.a := rfl

theorem pick_b {α : Type} (p : PerAxle α) : pick p .b = p.b := rfl

/-- R20: the effort direction by its table. -/
theorem dirOf_table {t : Station} (dir : t.creepDir = dirOf t.hold.state t.blend.served) :
    (t.hold.state = .holding → t.creepDir = .rest) ∧ (t.hold.state = .rollback → t.creepDir = .backward) ∧
    (t.hold.state = .hillStart → t.creepDir = .traction) ∧
    (t.hold.state = .free → t.blend.served = .drive → t.creepDir = .traction) ∧
    (t.hold.state = .free → t.blend.served = .brake ∨ t.blend.served = .lineLoss ∨ t.blend.served = .emergency →
      t.creepDir = .braking) ∧
    (t.hold.state = .free → t.blend.served = .coast ∨ t.blend.served = .hold → t.creepDir = .rest) := by
  rw [dir]
  refine ⟨fun h => by rw [h]; rfl, fun h => by rw [h]; rfl, fun h => by rw [h]; rfl, fun h k => by rw [h, k]; rfl, fun h k => ?_,
    fun h k => ?_⟩
  · rcases k with k | k | k <;> rw [h, k] <;> rfl
  · rcases k with k | k <;> rw [h, k] <;> rfl

/-- R39: at REST no query gives a pre-limit (notes/assumptions/35.md). -/
theorem queriedLimit_rest {s : Station} {dir : EffortDir} (rest : dir = .rest) (x : Axle) :
    queriedLimit { s with creepDir := dir } x = none := queriedLimit_none (.inr (.inl rest)) x

/-- R24: an OK axle at REST. -/
theorem speedSample_rests {z : Station} (rest : (speedSample z).creepDir = .rest) {x : Axle}
    (ok : (pick (speedSample z).axles x).sensor = .ok) :
    ∃ c e f, pick (speedSample z).creep x = { restAxle z.figs c with electric := e, friction := f } := by
  obtain ⟨dir, -, -⟩ := speedSample_served z
  obtain ⟨creep, -⟩ := speedSample_record z
  obtain ⟨-, figs, -⟩ := held_unread z
  rw [speedSample_sensor] at ok
  obtain ⟨e, f, record⟩ := commanded_ok ok
  obtain ⟨axles, -, rested⟩ := run_rest (seeded := seeds (measured z)) (dir.symm.trans rest)
  rw [axles] at ok
  rw [rested x, if_pos ok, figs] at record
  exact ⟨_, e, f, by rw [creep, record]⟩

/-- R23: an OK axle's limit outside REST. -/
theorem speedSample_limit {z : Station} (moving : (speedSample z).creepDir ≠ .rest) {x : Axle}
    (ok : (pick (speedSample z).axles x).sensor = .ok) : (pick (speedSample z).creep x).limit ≤ ceilingOf (speedSample z) x := by
  obtain ⟨-, k⟩ := speedSample_sampledFrom moving ok
  obtain ⟨_, _, record⟩ := k.record
  rw [record]
  exact min_le_right _ _

/-- R41: a failed axle beside an OK one. -/
theorem speedSample_follows {z : Station} {x : Axle} (failed : (pick (speedSample z).axles x).sensor = .failed)
    (ok : (pick (speedSample z).axles (otherAxle x)).sensor = .ok) :
    (pick (speedSample z).creep x).state = (pick (speedSample z).creep (otherAxle x)).state ∧
    (pick (speedSample z).creep x).limit = (pick (speedSample z).creep (otherAxle x)).limit := by
  obtain ⟨creep, -⟩ := speedSample_record z
  rw [speedSample_sensor] at failed ok
  obtain ⟨_, _, own⟩ := commanded_creep (seeds (measured z)) (held z) x
  obtain ⟨_, _, partner⟩ := commanded_ok ok
  rw [followPartners_one failed ok, setCreep_creep, pick_put] at own
  rw [creep, own, partner]
  exact ⟨rfl, rfl⟩

/-- R41: two failed axles. -/
theorem speedSample_bothFailed {z : Station} (failed : ∀ x, (pick (speedSample z).axles x).sensor = .failed) (x : Axle) :
    (pick (speedSample z).creep x).state = .adhering ∧
      (pick (speedSample z).creep x).limit = 300 * z.figs.axleMax / 1000 := by
  obtain ⟨creep, -⟩ := speedSample_record z
  obtain ⟨-, figs, -⟩ := held_unread z
  obtain ⟨_, _, own⟩ := commanded_creep (seeds (measured z)) (held z) x
  have sensor (y : Axle) := (speedSample_sensor z y).symm.trans (failed y)
  have a := sensor .a
  have b := sensor .b
  rw [pick_a] at a
  rw [pick_b] at b
  rw [followPartners_two a b, run_figs, figs] at own
  rw [creep, own]
  cases x <;> exact ⟨rfl, rfl⟩

/-- R44: which axles have failed after the sample. -/
theorem speedSample_declares {z : Station} (x : Axle) {turn : Prop}
    (hturn : turn ↔ (speedSample z).creepDir ≠ z.creepDir ∧ z.creepDir ≠ .rest) :
    (pick (speedSample z).axles x).sensor = .failed ↔ (pick (measured z).axles x).sensor = .failed ∨
      ((pick (measured z).axles x).sensor = .ok ∧ (speedSample z).creepDir ≠ .rest ∧ ¬turn ∧ (pick z.creep x).state = .locked ∧
        (pick (speedSample z).axles x).forward < (500 * (speedSample z).ref.speed).tdiv 1000 ∧
        ((pick z.creep x).wheelLock = true ∨ 800 ≤ (pick z.creep x).stateTime + 5) ∧
        ((pick z.axles x).edgeSeen = false ∧ ∃ r, z.link.brake.state = .present ∧ z.link.brake.report = some r ∧
          pick r.friction x = 0) ∧ ∃ n, (pick z.creep x).release = some n ∧ 1000 ≤ n + 5) := by
  obtain ⟨dir, -, -⟩ := speedSample_served z
  have failedStays := failedStay_speedSample z x
  have broken : ∀ u : SensorStatus, u = .failed ↔ u ≠ .ok := fun u => by cases u <;> simp
  by_cases rest : (speedSample z).creepDir = .rest
  · obtain ⟨axles, -⟩ := run_rest (seeded := seeds (measured z)) (dir.symm.trans rest)
    rw [speedSample_sensor, axles, sensor_held]
    simp only [rest, ne_eq, not_true_eq_false, false_and, and_false, or_false]
  · cases before' : (pick (measured z).axles x).sensor with
    | failed => exact ⟨fun _ => .inl rfl, fun _ => failedStays before'⟩
    | ok =>
      have turned : turn ↔ turns (held z) = true := by
        rw [turns_held, hturn]
        exact ⟨fun ⟨h, k⟩ => ⟨h, rest, k⟩, fun ⟨h, _, k⟩ => ⟨h, k⟩⟩
      have forward : (pick (foundAt z x).axles x).forward = (pick (speedSample z).axles x).forward := by
        rw [foundAt, found_axle, speedSample_forward]
      have ref : (foundAt z x).ref = (speedSample z).ref := by
        obtain ⟨-, -, -, ref', -⟩ := speedSample_record z
        obtain ⟨-, -, ref, -⟩ := commanded_found (seeds (measured z)) (held z) x
        rw [ref', foundAt, ref]
      have declared := declared_iff (readied_foundAt before' turned) (foundAt_free z x)
      rw [forward, ref] at declared
      have moving : sampleDir (held z) ≠ .rest := by rw [← dir]; exact rest
      have stays := run_ok (seeded := seeds (measured z)) (x := x) moving
      rw [speedSample_sensor, broken, ne_eq, stays, sensor_held, before', ← foundAt, declared]
      simp only [true_and, not_not, reduceCtorEq, false_or, ne_eq, rest, not_false_eq_true]

end Sys2Proof.Machine

open Sys2Proof Sys2Proof.Machine

/-- Settles O13: the machines of a sample act on the records that its hold unit leaves, and what follows them writes the orders and
the records of the failed axles alone. -/
theorem sampleDirectionAndLimits : Obligations.SampleDirectionAndLimits := by
  intro q z hz
  obtain ⟨holding, rollback, hillStart, drive, braking, coasting⟩ := dirOf_table (speedSample_dir z)
  obtain ⟨dir', -, -⟩ := speedSample_served z
  obtain ⟨-, -, link, plug, time⟩ := held_unread z
  have figs := speedSample_figs z
  obtain ⟨creep, axles, faults, -, time'⟩ := speedSample_record z
  have now : (speedSample z).time = z.time := time'.trans time
  refine ⟨speedSample z, actRunning_running speedSample ⟨q, z⟩ hz, holding, rollback, hillStart, drive, braking, coasting,
    fun rest x ok => ?_, fun rest x => ?_, fun moving x ok => ?_, fun x failed ok => speedSample_follows failed ok,
    fun a b x => speedSample_bothFailed (fun y => ?_) x, fun x => ?_,
    fun x turn reset hist moving ok hturn hreset empty full => ?_,
    fun m h turn declares free hm hh hturn hfree hdeclares => ⟨fun x => ?_, ?_⟩⟩
  · obtain ⟨_, _, _, record⟩ := speedSample_rests rest ok
    rw [record]
    exact ⟨rfl, rfl, rfl, rfl, rfl, rfl, rfl, rfl⟩
  · rw [(speedSample_carried z x).1]
    exact queriedLimit_rest (dir'.symm.trans rest) x
  · have limit := speedSample_limit moving ok
    obtain ⟨most, pre, reslip, cap⟩ := ceilingOf_le (speedSample z) x
    rw [figs] at most cap
    rw [now] at reslip
    exact ⟨limit.trans most, fun p hp => limit.trans (pre p hp), fun r hr stands => limit.trans (reslip r hr stands),
      fun applied => limit.trans (cap applied)⟩
  · cases y
    · rw [pick_a]; exact a
    · rw [pick_b]; exact b
  · obtain ⟨electric, friction, peaks⟩ := held_orders z x
    refine ⟨_, ((speedSample_carried z x).2.trans (by rw [peaks]) :), ?_⟩
    rw [dir']
    exact appliedForce_spec link plug electric friction _
  · obtain ⟨kept, k⟩ := speedSample_sampledFrom moving ok
    have before' : (pick (measured z).axles x).sensor = .ok := by
      cases h : (pick (measured z).axles x).sensor with
      | ok => rfl
      | failed => rw [failedStay_speedSample z x h] at ok; cases ok
    have turned : turn ↔ turns (held z) = true := by
      rw [turns_held, hturn]
      exact ⟨fun ⟨h, k⟩ => ⟨h, moving, k⟩, fun ⟨h, _, k⟩ => ⟨h, k⟩⟩
    have ready := readied_foundAt before' turned
    have history : (if turns (held z) = true ∨ seeds (measured z) = true ∨ (z.pos.change ≠ none ∧
        (speedSample z).pos.change = none) then [] else (pick z.creep x).history) = hist := by
      have emptied : turns (held z) = true ∨ seeds (measured z) = true ∨ (z.pos.change ≠ none ∧
          (speedSample z).pos.change = none) ↔ reset := by rw [hreset, turned]; rfl
      by_cases h : reset
      · rw [if_pos (emptied.mpr h), empty h]
      · rw [if_neg fun g => h (emptied.mp g), full h]
    have found' : (foundAt z x).time = z.time := k.time.symm.trans now
    rw [history, ← found'] at ready
    exact machineSampled_of k kept moving ready found'.symm (foundAt_free z x)
  · obtain rfl : m = measured z := hm
    rw [speedSample_declares x hturn, hdeclares, hfree]
  · obtain rfl : m = measured z := hm
    obtain rfl : h = held z := hh
    rw [faults]
    refine run_reports (fun x => (sensor_held z x).symm) (held_flags z) (fun x => ?_) time.symm (speedSample_pos z)
    have judged := judged_commanded (seeds (measured z)) (held z) x
    exact ⟨by rw [axles]; exact judged.sensor, by rw [creep]; exact judged.slip, by rw [creep]; exact judged.wheel⟩

end
